-- ==== Sys2Proof/Word.lean ====
section
/-! DEFINITION. The word types of the DL32 and their plainest arithmetic: link characters, the 32-bit tick
count and the 32-bit admission sequence. -/

namespace Sys2Proof

/-- The eight data bits of one link character (11 R184). -/
abbrev Byte := BitVec 8

/-- One character as a partner sends it: bit 0 is the start bit, bits 1 to 8 the data, bit 9 the parity
bit and bit 10 the stop bit (11 R184). -/
abbrev Character := BitVec 11

/-- A point in time counted in line ticks; it wraps after 4294967295 (03 R44). -/
abbrev TickCount := BitVec 32

/-- An admission sequence number (02 R28). -/
abbrev Sequence := BitVec 32

end Sys2Proof
end

