-- ==== Sys2Proof/Config.lean ====
section
/-! DEFINITION. The constants the data sheet fixes, and the one value it leaves open. -/

namespace Sys2Proof.Config

/-- Stations on the rail (01 R1). -/
abbrev stations : Nat := 32
/-- Slots of the rack table (02 R21). -/
abbrev slots : Nat := 24
/-- Baths (01 R9). -/
abbrev baths : Nat := 8
/-- Recipes (01, The Recipe Store). -/
abbrev recipes : Nat := 16
/-- Most steps of one recipe (01, The Recipe Store). -/
abbrev maxSteps : Nat := 12
/-- Inputs: 32 seats, E-STOP, GAS-OK, PAUSE (10, Inputs). -/
abbrev inputs : Nat := 35
/-- Outputs: 32 valves, PERMIT A, PERMIT B, sounder (10, Outputs). -/
abbrev outputs : Nat := 35
/-- Channels of the link engine (11 R185). -/
abbrev channels : Nat := 4
/-- Most entries of the admission queue (02 R32). -/
abbrev admissionPlaces : Nat := 8
/-- Frames an outbound queue of channel 0, 1 or 2 holds (11 R185, R192). -/
abbrev hoistPlaces : Nat := 4
/-- Frames the order-station outbound queue holds (11 R185, R192). -/
abbrev orderPlaces : Nat := 8
/-- Places of the order-station queue kept for one reply (11 R191). -/
abbrev replyPlaces : Nat := 3
/-- Payload characters of a reply frame that are left for its contents (11 R195). -/
abbrev replyRoom : Nat := 27
/-- Longest payload (11 R187). -/
abbrev maxPayload : Nat := 30
/-- The value at which an accumulator and an overrun count stop (03 R57, R62). -/
abbrev max32 : Nat := 4294967295
/-- The value at which a 16-bit count, a stale count and an owed volume stop (04 R67, 11 R196). -/
abbrev max16 : Nat := 65535
/-- A late tolerance of this value is unlimited (01 R13). -/
abbrev unlimited : Nat := 65535
/-- Stale count at which a bath becomes STALE (04 R71). -/
abbrev staleAt : Nat := 300
/-- Stale count at which a bath becomes LAPSED (04 R71). -/
abbrev lapsedAt : Nat := 1200
/-- Ticks a seat window stays open (10 R177). -/
abbrev seatWindow : Nat := 20
/-- Ticks a refusal mark stands (05 R100). -/
abbrev refusalTicks : Nat := 100
/-- Samples after which a monitor that disagrees with the fault mark changes it (10 R182). -/
abbrev monitorSamples : Nat := 3
/-- Input number of E-STOP (10, Inputs). -/
abbrev eStop : Nat := 32
/-- Input number of GAS-OK (10, Inputs). -/
abbrev gasOk : Nat := 33
/-- Input number of PAUSE (10, Inputs). -/
abbrev pause : Nat := 34
/-- Output number of PERMIT A (10, Outputs). -/
abbrev permitA : Nat := 32
/-- Output number of PERMIT B (10, Outputs). -/
abbrev permitB : Nat := 33
/-- Output number of the sounder (10, Outputs). -/
abbrev sounder : Nat := 34

/-- The travel estimate from an unknown position to a source station: the spec states none, so nothing constrains it.
It is read only in states no run reaches (log 31). -/
opaque openTravel : Nat → Nat

end Sys2Proof.Config
end

