-- ==== Sys2Proof/Syntax.lean ====
section
/-! DEFINITION. The commands of the DL32: one constructor for each row of spec/opcode_table.json, with the
operands its rule gives. An enumerated operand of a request is an Option: none stands for a code that names
no value of its list, which the owning block refuses with BAD_VALUE (11 R188). -/

namespace Sys2Proof

/-- The two hoists (06 R107). -/
inductive Hoist where
  | a | b
deriving DecidableEq, Repr, Inhabited

/-- What stands at a rail position (01 R1). -/
inductive StationKind where
  | unused | load | bath | unload
deriving DecidableEq, Repr, Inhabited

/-- Compensation of a recipe step (01 R13). -/
inductive Compensation where
  | none | temp | tempActivity
deriving DecidableEq, Repr, Inhabited

/-- Timing strictness of a recipe step; openEnded is the class OPEN (01 R13). -/
inductive StepClass where
  | critical | firm | loose | openEnded
deriving DecidableEq, Repr, Inhabited

/-- The dispatcher's urgency mode: DEADLINE or CLASS (05 R91). -/
inductive UrgencyMode where
  | deadline | byClass
deriving DecidableEq, Repr, Inhabited

/-- Polarity of an input (10 R172). -/
inductive Polarity where
  | activeHigh | activeLow
deriving DecidableEq, Repr, Inhabited

/-- Mode of an output line (10 R179). -/
inductive OutputMode where
  | function | manual
deriving DecidableEq, Repr, Inhabited

/-- What OUTPUT MODE names (10 R180): a pair of valve lines, a permit line, or the sounder. -/
inductive ModeTarget where
  | pair (n : Nat) | permit (h : Hoist) | sounder
deriving DecidableEq, Repr, Inhabited

/-- What IO QUERY asks about (10 R183). -/
inductive IoKind where
  | input | output
deriving DecidableEq, Repr, Inhabited

/-- The two auxiliary inputs whose becoming inactive changes nothing (10 R178). -/
inductive AuxInput where
  | eStop | pause
deriving DecidableEq, Repr, Inhabited

/-- The eight fields of a step as STEP SET carries them (01 R13, R16). -/
structure StepFields where
  bath       : Nat
  nominal    : Nat
  comp       : Option Compensation
  adjustable : Option Bool
  cls        : Option StepClass
  tolerance  : Nat
  drain      : Nat
  agitate    : Option Bool
deriving DecidableEq, Repr, Inhabited

/-- The seven settings of a hoist's timing table, in ticks (06 R109). -/
structure Timing where
  fixed      : Nat
  perStation : Nat
  place      : Nat
  acceptTime : Nat
  approach   : Nat
  lift       : Nat
  spanAck    : Nat
deriving DecidableEq, Repr, Inhabited

/-- An agitation program: prescale P, cycle code C, width W, extra X (08 R147). -/
structure Program where
  prescale : Nat
  cycle    : Nat
  width    : Nat
  extra    : Nat
deriving DecidableEq, Repr, Inhabited

/-- The six settings DISPATCH CONFIG carries (05 R105). -/
structure DispatchFields where
  lookahead   : Nat
  orderMargin : Nat
  admitMargin : Nat
  lowMark     : Nat
  hysteresis  : Nat
  mode        : Option UrgencyMode
deriving DecidableEq, Repr, Inhabited

/-- The commands, in the order of spec/opcode_table.json. A position operand of none is the report's
"unknown" (11, Frame Layouts). -/
inductive Instr where
  /-- POWER_ON: supply applied or RESET released. -/
  | powerOn
  /-- LINE_TICK: the 100 ms line tick. -/
  | lineTick
  /-- DUE: the rack in a slot becomes due. -/
  | due (slot : Nat)
  /-- OVERTIME: the overrun of the rack in a slot first exceeds L. -/
  | overtime (slot : Nat)
  /-- STALE: a bath's stale count has reached 300. -/
  | stale (bath : Nat)
  /-- LAPSED: a bath's stale count has reached 1200. -/
  | lapsed (bath : Nat)
  /-- PHASE_TIMER_EXPIRY: a hoist's phase timer has reached 0. -/
  | phaseTimerExpiry (h : Hoist)
  /-- ACKNOWLEDGEMENT_TIMER_EXPIRY: the handover's timer has reached 0. -/
  | acknowledgementTimerExpiry
  /-- SEAT_WINDOW_EXPIRY: a station's seat window has run out. -/
  | seatWindowExpiry (station : Nat)
  /-- SAMPLE_EVENT: the 10 ms sample; bit n of each operand is the level at input n and at monitor n. -/
  | sampleEvent (pins monitors : BitVec 35)
  /-- SEATED: the debounced seat input of a station becomes seated. -/
  | seated (station : Nat)
  /-- RELEASED: the debounced seat input of a station becomes released. -/
  | released (station : Nat)
  /-- E_STOP_ACTIVE. -/
  | eStopActive
  /-- GAS_OK_INACTIVE. -/
  | gasOkInactive
  /-- GAS_OK_ACTIVE. -/
  | gasOkActive
  /-- PAUSE_ACTIVE. -/
  | pauseActive
  /-- AUXILIARY_INACTIVE: E-STOP or PAUSE becomes inactive. -/
  | auxiliaryInactive (which : AuxInput)
  /-- OUTPUT_FAULT_MARK_SET: an output line becomes marked faulted. -/
  | outputFaultMarkSet (line : Nat)
  /-- OUTPUT_FAULT_MARK_CLEAR: an output line's fault mark clears. -/
  | outputFaultMarkClear (line : Nat)
  /-- CYCLE_START of a bath's generator. -/
  | cycleStart (bath : Nat)
  /-- BURST_END of a bath's generator. -/
  | burstEnd (bath : Nat)
  /-- DISPATCH_PASS. -/
  | dispatchPass
  /-- ADMIT. -/
  | admitRack (id recipe load area : Nat) (adjust : Int)
  /-- WITHDRAW. -/
  | withdraw (id : Nat)
  /-- RACK_REMOVE. -/
  | rackRemove (id : Nat)
  /-- RACK_PLACE. -/
  | rackPlace (id step station : Nat)
  /-- RACK_QUERY. -/
  | rackQuery (id index : Nat)
  /-- STATION_SET. -/
  | stationSet (station : Nat) (kind : Option StationKind) (bath : Nat) (sensing inService : Option Bool)
  /-- STATION_QUERY. -/
  | stationQuery (station : Nat)
  /-- BATH_SET. -/
  | bathSet (bath tRef rho slope threshold : Nat)
  /-- BATH_TABLE_SET; the frame carries nine points. -/
  | bathTableSet (bath : Nat) (points : List Nat)
  /-- BATH_OWED_CLEAR. -/
  | bathOwedClear (bath : Nat)
  /-- BATH_QUERY. -/
  | bathQuery (bath : Nat)
  /-- RECIPE_OPEN. -/
  | recipeOpen (recipe : Nat)
  /-- STEP_SET. -/
  | stepSet (recipe index : Nat) (fields : StepFields)
  /-- RECIPE_CLOSE. -/
  | recipeClose (recipe : Nat)
  /-- RECIPE_QUERY. -/
  | recipeQuery (recipe index : Nat)
  /-- DISPATCH_CONFIG. -/
  | dispatchConfig (settings : DispatchFields)
  /-- QUEUE_QUERY. -/
  | queueQuery (index : Nat)
  /-- HOIST_TIMING. -/
  | hoistTiming (hoist : Option Hoist) (timing : Timing)
  /-- HOIST_CANCEL. -/
  | hoistCancel (hoist : Option Hoist)
  /-- HOIST_RELEASE. -/
  | hoistRelease (hoist : Option Hoist)
  /-- HOIST_QUERY. -/
  | hoistQuery (hoist : Option Hoist)
  /-- SPAN_CONFIG. -/
  | spanConfig (guardGap split : Nat)
  /-- SPAN_QUERY. -/
  | spanQuery
  /-- AGITATION_SET. -/
  | agitationSet (bath : Nat) (program : Program)
  /-- AGITATION_QUERY. -/
  | agitationQuery (bath group : Nat)
  /-- LINE_RUN. -/
  | lineRun
  /-- LINE_HOLD. -/
  | lineHold
  /-- LINE_HALT. -/
  | lineHalt
  /-- LINE_RESUME. -/
  | lineResume
  /-- LINE_CLEAR. -/
  | lineClear
  /-- CAUSE_CLEAR; each cause is named by its place in the table of R159. -/
  | causeClear (codes : List Nat)
  /-- LINE_QUERY. -/
  | lineQuery
  /-- INPUT_SET. -/
  | inputSet (input debounce : Nat) (polarity : Option Polarity) (enable : Option Bool)
  /-- OUTPUT_MODE. -/
  | outputMode (target : ModeTarget) (mode : Option OutputMode)
  /-- OUTPUT_LATCH. -/
  | outputLatch (output : Nat) (level : Option Bool)
  /-- IO_QUERY. -/
  | ioQuery (kind : Option IoKind) (number : Nat)
  /-- LINK_QUERY. -/
  | linkQuery (channel : Nat)
  /-- HELLO from a hoist. -/
  | hello (h : Hoist) (position : Option Int)
  /-- ACCEPT from a hoist. -/
  | accept (h : Hoist) (order : Nat) (position : Option Int)
  /-- REFUSE from a hoist. -/
  | refuse (h : Hoist) (order reason : Nat)
  /-- POISED from a hoist. -/
  | poised (h : Hoist) (order : Nat) (position : Option Int)
  /-- LIFTED from a hoist. -/
  | lifted (h : Hoist) (order : Nat) (position : Option Int)
  /-- PLACED from a hoist. -/
  | placed (h : Hoist) (order : Nat) (position : Option Int)
  /-- CANCELLED from a hoist. -/
  | cancelled (h : Hoist) (order : Nat)
  /-- POSITION from a hoist. -/
  | position (h : Hoist) (position : Option Int)
  /-- SPAN_ACK from a hoist. -/
  | spanAck (h : Hoist) (sequence : Nat) (position : Option Int)
  /-- FAULT from a hoist. -/
  | fault (h : Hoist) (code : Nat)
  /-- TEMP from the cabinet, in tenths of a degree. -/
  | temp (bath : Nat) (temperature : Int)
  /-- PUMPED from the cabinet, in mL. -/
  | pumped (bath volume : Nat)
  /-- START_BIT: bit c of starts is set when a start bit is seen on channel c. -/
  | startBit (starts : BitVec 4)
  /-- FRAME_RECEIVED: the frame being received completes with no character error. -/
  | frameReceived (kind : Byte) (payload : List Byte)
  /-- FRAME_TRUNCATED: a gap over 5 ms before the last character. -/
  | frameTruncated
  /-- LENGTH_ERROR: the length character of the frame being received. -/
  | lengthError (length : Byte)
  /-- CHARACTER_ERROR: the frame being received reaches its length, and this character of it was read. -/
  | characterError (character : Character)
  /-- DISCARD_WAIT_END: a gap over 5 ms during the discard wait. -/
  | discardWaitEnd
  /-- REFUSED_FRAME: the frame being received completes with an unknown kind or a wrong length. -/
  | refusedFrame (kind : Byte)
  /-- SEND_BEGIN; starts are the start bits detected before the inhibit took effect. -/
  | sendBegin (starts : BitVec 4)
  /-- LISTEN_WINDOW_END; starts as for SEND_BEGIN. -/
  | listenWindowEnd (starts : BitVec 4)
  /-- FRAME_SENT: every character of the frame being sent is acknowledged. -/
  | frameSent
  /-- MISSING_ACKNOWLEDGE: an acknowledge bit reads high. -/
  | missingAcknowledge
  /-- NO_CLOCKING: no clock edge for 20 ms. -/
  | noClocking
  /-- RESET_ASSERTED: the RESET input goes low. -/
  | resetAsserted
deriving DecidableEq, Repr

end Sys2Proof
end

