-- ==== Sys2Proof/Decode.lean ====
section
/-! DEFINITION. The commands that words spell by the bits of spec/opcode_table.json. The table gives no row any
bits, so the list of its rows with bits is empty. The frames of chapter 11 are decoded in
Sys2Proof/Machine/Frames.lean. -/

namespace Sys2Proof

/-- A row of the opcode table with bits: its length, the value of its fixed bits under their mask, and the
command its fields spell. -/
structure TableRow where
  nbits : Nat
  mask  : Nat
  value : Nat
  instr : Instr

/-- The rows of spec/opcode_table.json that give bits: none does. -/
def tableRows : List TableRow := []

/-- The command a word spells by the table's bits, or none. -/
def decodeTableWord (nbits w : Nat) : Option Instr :=
  (tableRows.find? (fun r => decide (r.nbits = nbits) && decide (w &&& r.mask = r.value))).map (·.instr)

end Sys2Proof
end

