-- ==== Sys2Proof/Machine/Table.lean ====
section
/-! DEFINITION. Tables of a fixed number of like records, held as a list with its length; reading outside the
table gives the record type's default and writing there changes nothing (log 29). -/

namespace Sys2Proof.Machine

/-- n records of one kind, numbered from 0. -/
structure Table (α : Type) (n : Nat) where
  toList : List α
  size : toList.length = n
deriving DecidableEq, Repr

variable {α : Type} {n : Nat}

/-- n copies of one record. -/
def Table.replicate (n : Nat) (a : α) : Table α n := ⟨List.replicate n a, List.length_replicate⟩

/-- Record i. -/
def Table.get [Inhabited α] (t : Table α n) (i : Nat) : α := t.toList.getD i default

/-- The table with record i replaced. -/
def Table.set (t : Table α n) (i : Nat) (a : α) : Table α n :=
  ⟨t.toList.set i a, by rw [List.length_set]; exact t.size⟩

/-- The table with record i changed by f. -/
def Table.modify [Inhabited α] (t : Table α n) (i : Nat) (f : α → α) : Table α n := t.set i (f (t.get i))

/-- The table with every record changed by f. -/
def Table.map (t : Table α n) (f : α → α) : Table α n :=
  ⟨t.toList.map f, by rw [List.length_map]; exact t.size⟩

/-- The table with every record changed by f, which is also given its number. -/
def Table.mapIdx (t : Table α n) (f : Nat → α → α) : Table α n :=
  ⟨t.toList.zipIdx.map (fun p => f p.2 p.1), by rw [List.length_map, List.length_zipIdx]; exact t.size⟩

/-- The numbers of the records that satisfy p, ascending. -/
def Table.indices (t : Table α n) (p : α → Bool) : List Nat :=
  (t.toList.zipIdx.filter (fun q => p q.1)).map (·.2)

end Sys2Proof.Machine
end

