-- ==== Sys2Proof/Machine/State.lean ====
section
/-! DEFINITION. The state of the DL32 as plain data, its value after reset, and the reasons a step can stop.
Every record follows the rule its docstring names; the fields marked "model" are listed in INVENTORY.md. -/

namespace Sys2Proof.Machine

/-! ### Stations, baths and recipes (01, 03, 04) -/

/-- Occupancy of a station, with the holder of a reservation (01 R2). An entry of the admission queue is
named by its rack id. -/
inductive Occupancy where
  | empty | reservedRack (slot : Nat) | reservedEntry (id : Nat) | occupied (slot : Nat) | foreign
deriving DecidableEq, Repr, Inhabited

/-- A station record (01 R1). -/
structure Station where
  kind      : StationKind
  bath      : Nat
  sensing   : Bool
  inService : Bool
  occ       : Occupancy
deriving DecidableEq, Repr, Inhabited

/-- Agitation mark of a station (08 R151). -/
inductive AgitationMark where
  | out | waiting | joined
deriving DecidableEq, Repr, Inhabited

/-- Temperature status of a bath (04 R67). -/
inductive TempStatus where
  | none | fresh | stale | lapsed
deriving DecidableEq, Repr, Inhabited

/-- A factor record (03 R52). -/
structure Factors where
  fT        : Nat
  g         : Nat
  fTA       : Nat
  tempClamp : Bool
  actClamp  : Bool
deriving DecidableEq, Repr, Inhabited

/-- A bath record: the configuration half, with the nine points F_0 to F_8 in order (01 R9), and the dynamic
half (04 R67). -/
structure Bath where
  tRef         : Nat
  points       : List Nat
  rho          : Nat
  slope        : Nat
  threshold    : Nat
  temp         : Option Int
  status       : TempStatus
  probeFault   : Bool
  staleCount   : Nat
  owed         : Nat
  remainder    : Nat
  owedUnsent   : Bool
  areaInFlight : Nat
  active       : Factors
  pendingF     : Option Factors
deriving DecidableEq, Repr, Inhabited

/-- The bath record after power-on (01 R9, 03 R52, 04 R67). -/
def Bath.reset : Bath where
  tRef := 200
  points := List.replicate 9 1024
  rho := 0
  slope := 0
  threshold := 0
  temp := none
  status := .none
  probeFault := false
  staleCount := 0
  owed := 0
  remainder := 0
  owedUnsent := false
  areaInFlight := 0
  active := { fT := 1024, g := 1024, fTA := 1024, tempClamp := false, actClamp := false }
  pendingF := none

/-- A step of a recipe (01 R13). -/
structure RecipeStep where
  bath       : Nat
  nominal    : Nat
  comp       : Compensation
  adjustable : Bool
  cls        : StepClass
  tolerance  : Nat
  drain      : Nat
  agitate    : Bool
deriving DecidableEq, Repr, Inhabited

/-- State of a recipe; writing is the state OPEN (01 R14). -/
inductive RecipeState where
  | empty | writing | ready
deriving DecidableEq, Repr, Inhabited

/-- A recipe with its reference count (01 R14). -/
structure Recipe where
  st    : RecipeState
  steps : List RecipeStep
  refs  : Nat
deriving DecidableEq, Repr, Inhabited

/-! ### Racks and the admission queue (02) -/

/-- State of a rack record (02 R23). -/
inductive RackState where
  | atLoad | immersed | due | carried | atUnload | stranded
deriving DecidableEq, Repr, Inhabited

/-- The current-step flags, in the order of R25. -/
inductive StepFlag where
  | overtime | seatUnconfirmed | unexpectedRelease | earlyLift | staleTemperature | factorClamped
  | agitationLost | manualPlaced
deriving DecidableEq, Repr, Inhabited

/-- An entry of a rack's step history (02 R26). -/
structure HistoryEntry where
  step    : Nat
  station : Nat
  acc     : Nat
  overrun : Nat
  flags   : List StepFlag
deriving DecidableEq, Repr, Inhabited

/-- A rack record (02 R22). `lifted` is the model's own: LIFTED has been taken for the present step index,
so the rack is CARRIED, or was STRANDED after LIFTED (log 13). -/
structure Rack where
  id       : Nat
  recipe   : Nat
  load     : Nat
  area     : Nat
  adjust   : Int
  seq      : Sequence
  st       : RackState
  stepIdx  : Nat
  station  : Option Nat
  dest     : Option Nat
  acc      : Nat
  target   : Nat
  dueTick  : Option TickCount
  overrun  : Nat
  flags    : List StepFlag
  history  : List HistoryEntry
  lifted   : Bool
deriving DecidableEq, Repr, Inhabited

/-- An entry of the admission queue: the five fields of its ADMIT (02 R32). -/
structure QueueEntry where
  id     : Nat
  recipe : Nat
  load   : Nat
  area   : Nat
  adjust : Int
deriving DecidableEq, Repr, Inhabited

/-! ### The dispatcher (05) -/

/-- State of a move request (05 R85). -/
inductive RequestState where
  | blocked | ready | bound (h : Hoist) | ordered (h : Hoist)
deriving DecidableEq, Repr, Inhabited

/-- A move request (05 R84). The table of requests is numbered by rack slot. `created` is the tick count at
creation, which R90 reads for a rack AT_LOAD. -/
structure Request where
  source  : Nat
  dest    : Option Nat
  cls     : StepClass
  created : TickCount
  st      : RequestState
  markA   : Option TickCount
  markB   : Option TickCount
deriving DecidableEq, Repr, Inhabited

/-- The margin notice state (05 R104). -/
inductive MarginNotice where
  | clear | low
deriving DecidableEq, Repr, Inhabited

/-- The admit side (05 R104). -/
inductive AdmitSide where
  | above | below
deriving DecidableEq, Repr, Inhabited

/-- The dispatcher's settings (05 R105), its two crossing states (05 R104), and, the model's own, how many
triggers of a pass have not been served (05 R97, log 6). -/
structure Dispatcher where
  lookahead   : Nat
  orderMargin : Nat
  admitMargin : Nat
  lowMark     : Nat
  hysteresis  : Nat
  mode        : UrgencyMode
  notice      : MarginNotice
  side        : AdmitSide
  passesOwed  : Nat
deriving DecidableEq, Repr, Inhabited

/-! ### Hoists and spans (06, 07) -/

/-- State of a hoist (06 R108). -/
inductive HoistState where
  | offline | idle | busy | fault
deriving DecidableEq, Repr, Inhabited

/-- Phase of an order (06 R113). -/
inductive Phase where
  | sent | accepted | poised | released | lifted
deriving DecidableEq, Repr, Inhabited

/-- Stage of the handover record (07 R135). -/
inductive Stage where
  | none | waiting | shrinking | widening
deriving DecidableEq, Repr, Inhabited

/-- Fault reason of a hoist (06 R107). -/
inductive FaultReason where
  | none | reported (code : Nat) | timeoutPhase (p : Phase) | timeoutStage (g : Stage) | restart | protocol
deriving DecidableEq, Repr, Inhabited

/-- The open order of a hoist (06 R107). -/
structure Order where
  number       : Nat
  slot         : Nat
  source       : Nat
  drain        : Nat
  dest         : Nat
  phase        : Phase
  cancelOut    : Bool
  cancelCrossed : Bool
deriving DecidableEq, Repr, Inhabited

/-- A hoist record (06 R107); a position of none is "unknown". -/
structure HoistRec where
  st          : HoistState
  released    : Bool
  position    : Option Int
  order       : Option Order
  timer       : Option Nat
  suspended   : Bool
  lastOrder   : Nat
  lastRefusal : Option Nat
  reason      : FaultReason
  stray       : Nat
  timing      : Timing
deriving DecidableEq, Repr, Inhabited

/-- The timing table after power-on (06 R109). -/
def Timing.reset : Timing where
  fixed := 20
  perStation := 15
  place := 40
  acceptTime := 20
  approach := 100
  lift := 50
  spanAck := 150

/-- The hoist record after power-on (06 R107). -/
def HoistRec.reset : HoistRec where
  st := .offline
  released := false
  position := none
  order := none
  timer := none
  suspended := false
  lastOrder := 0
  lastRefusal := none
  reason := .none
  stray := 0
  timing := Timing.reset

/-- A span: empty, or the stations from low to high (07 R130). -/
inductive Span where
  | empty | range (low high : Nat)
deriving DecidableEq, Repr, Inhabited

/-- The handover record (07 R135); the victim is the hoist other than the taker. -/
structure Handover where
  stage     : Stage
  taker     : Hoist
  bound     : Option Nat
  widened   : Span
  narrowed  : Span
  old       : Span
  awaited   : Option (Hoist × Nat)
  timer     : Option Nat
  suspended : Bool
  withdrawn : Bool
deriving DecidableEq, Repr, Inhabited

/-- The record with no handover in progress: stage none, no timer, taker withdrawn no (07 R135); the other
fields are blank (log 15). -/
def Handover.blank : Handover where
  stage := .none
  taker := .a
  bound := none
  widened := .empty
  narrowed := .empty
  old := .empty
  awaited := none
  timer := none
  suspended := false
  withdrawn := false

/-- Span control (07 R130, R131, R132, R135). -/
structure SpanControl where
  guardGap : Nat
  split    : Nat
  spanA    : Span
  spanB    : Span
  seqA     : Nat
  seqB     : Nat
  handover : Handover
deriving DecidableEq, Repr, Inhabited

/-! ### Agitation, line control, inputs and outputs (08, 09, 10) -/

/-- A burst generator (08 R147). -/
structure Generator where
  active   : Program
  pendingP : Option Program
  running  : Bool
  sample   : Nat
  unit     : Nat
  cycle    : Nat
  burstLen : Nat
  burst    : Bool
deriving DecidableEq, Repr, Inhabited

/-- The line state (09 R158). -/
inductive LineState where
  | standby | run | hold | halt
deriving DecidableEq, Repr, Inhabited

/-- The eleven causes, in the order of the table of R159. -/
inductive Cause where
  | operatorHold | pauseInput | gasLow | tempStale | hoistAFault | hoistBFault | handoverTimeout | outputFault
  | operatorHalt | estop | spanViolation
deriving DecidableEq, Repr, Inhabited

/-- Line control: the line state and the cause set, listed in the order of R159 (09 R158, R159). -/
structure Line where
  st     : LineState
  causes : List Cause
deriving DecidableEq, Repr, Inhabited

/-- An input (10 R172); a level of true is seated or active, a raw level of true is high. -/
structure Input where
  debounce : Nat
  polarity : Polarity
  enabled  : Bool
  raw      : Bool
  level    : Bool
  run      : Nat
deriving DecidableEq, Repr, Inhabited

/-- An output line (10 R179). -/
structure Output where
  mode      : OutputMode
  latch     : Bool
  commanded : Bool
  monitor   : Bool
  run       : Nat
  faulted   : Bool
deriving DecidableEq, Repr, Inhabited

/-- The station I/O block; `seeded` is the model's own: the first sample has been taken (10 R172). -/
structure StationIo where
  inputs  : Table Input 35
  outputs : Table Output 35
  seeded  : Bool
deriving DecidableEq, Repr

/-! ### Links and frames (11) -/

/-- Reply codes (11 R195). -/
inductive ReplyCode where
  | ok | queued | badFrame | badValue | wrongState | inUse | duplicate | noRecipe | notLoaded | busy | full
  | unknown | stillPresent | inFlight
deriving DecidableEq, Repr, Inhabited

/-- Why a record was freed, in a REMOVED notice (02 R27). -/
inductive RemovedReason where
  | remove | withdraw | loadReleased | cleared
deriving DecidableEq, Repr, Inhabited

/-- The events of RACK notices with their further fields (02 R27). -/
inductive RackEvent where
  | admitted (seq : Sequence) (load : Nat)
  | stepEnded (step : Nat) (station : Nat) (acc overrun : Nat) (flags : List StepFlag)
  | overtime (overrun tolerance : Nat)
  | stranded (step : Nat) (liftedTaken : Bool)
  | done (freed : Bool)
  | removed (reason : RemovedReason)
deriving DecidableEq, Repr, Inhabited

/-- The events of BATH notices with their further fields (04 R74). -/
inductive BathEvent where
  | probeFault (rejected : Int) | stale | lapsed | restored (before : TempStatus)
deriving DecidableEq, Repr, Inhabited

/-- The events of STATION notices (10 R175, R176). -/
inductive StationEvent where
  | foreign | intruded | empty
deriving DecidableEq, Repr, Inhabited

/-- A frame the DL32 sends (06 Messages, 04 R77, 02 R27, 04 R74, 10 R175, 09 R170, 05 R104, 11 R190, R195). -/
inductive OutMsg where
  | move (number source drain dest : Nat)
  | lift (number : Nat)
  | cancel (number : Nat)
  | span (low high sequence : Nat)
  | halt
  | resume
  | owed (bath volume : Nat)
  | frameRefused (kind : Byte)
  | rack (event : RackEvent) (id slot : Nat) (st : RackState) (step : Nat) (station : Option Nat)
  | bath (event : BathEvent) (bath : Nat) (temp : Option Int) (status : TempStatus) (probeFault : Bool)
      (staleCount owed : Nat)
  | station (station : Nat) (event : StationEvent) (occ : Occupancy)
  | line (cause : Cause) (st : LineState) (causes : List Cause)
  | marginLow (margin : Int) (id slot : Nat)
  | marginClear (margin : Option Int)
  | reply (kind : Nat) (code : ReplyCode) (part parts : Nat) (contents : List Byte)
deriving DecidableEq, Repr, Inhabited

/-- A queued frame with its place in the order in which frames were queued on all channels; the model's own,
for the choice of the older of two hoist frames (11 R193, log 27). -/
structure Queued where
  msg   : OutMsg
  stamp : Nat
deriving DecidableEq, Repr, Inhabited

/-- What an inbound slot holds: a good frame, or a frame to be refused (11 R190, R191). -/
inductive SlotFrame where
  | good (i : Instr) | refused (kind : Byte)
deriving DecidableEq, Repr

/-- The counts of a channel but the stray reports (11 R196). -/
structure Counts where
  good          : Nat
  truncated     : Nat
  charError     : Nat
  lengthError   : Nat
  refused       : Nat
  cutOff        : Nat
  sent          : Nat
  missingAck    : Nat
  noClocking    : Nat
  lost          : Nat
deriving DecidableEq, Repr, Inhabited

/-- A channel of the link engine (11 R185). -/
structure Channel where
  slot   : Option SlotFrame
  queue  : List Queued
  counts : Counts
deriving DecidableEq, Repr, Inhabited

/-- Engine state (11 R185). -/
inductive Engine where
  | listen | receiving (c : Nat) | sending (c : Nat)
deriving DecidableEq, Repr, Inhabited

/-- The link engine (11 R185, R193), the notices-dropped indication (09 R170), the stray cabinet reports
(04 R70), and the number of frames queued so far (model, log 27). -/
structure Link where
  engine      : Engine
  window      : Bool
  discardWait : Option Nat
  lastHoist   : Nat
  channels    : Table Channel 4
  dropped     : Bool
  strayBath   : Nat
  stamp       : Nat
deriving DecidableEq, Repr

/-! ### The whole part -/

/-- The state of the DL32. `pending` is the queue of commands that are waiting, first in, first out (log 1). -/
structure State where
  resetHeld  : Bool
  tick       : TickCount
  stations   : Table Station 32
  marks      : Table AgitationMark 32
  windows    : Table (Option Nat) 32
  baths      : Table Bath 8
  recipes    : Table Recipe 16
  racks      : Table (Option Rack) 24
  seqCounter : Sequence
  queue      : List QueueEntry
  requests   : Table (Option Request) 24
  dispatcher : Dispatcher
  hoistA     : HoistRec
  hoistB     : HoistRec
  span       : SpanControl
  gens       : Table Generator 8
  line       : Line
  io         : StationIo
  link       : Link
  pending    : List Instr
deriving DecidableEq, Repr

/-- No event of the spec stops the part: a hoist fault, a cause and a refused frame are states and frames, so
there is no fault (log 30). -/
inductive Fault where
deriving DecidableEq, Repr

/-- Why a step gives a command no meaning. -/
inductive Refusal where
  /-- Raised by an arm of exec whose command has no meaning yet; no arm raises it now. Safe. -/
  | notModelled (mnemonic : String)
deriving DecidableEq, Repr

/-- Power-on values of an input; the raw level is low until the first sample (10 R172, log 10). -/
def Input.reset : Input where
  debounce := 3
  polarity := .activeHigh
  enabled := true
  raw := false
  level := false
  run := 0

/-- Power-on values of an output; the monitor level is off until the first sample (10 R179, log 10). -/
def Output.reset : Output where
  mode := .function
  latch := false
  commanded := false
  monitor := false
  run := 0
  faulted := false

/-- Power-on values of a generator (08 R147). -/
def Generator.reset : Generator where
  active := { prescale := 0, cycle := 0, width := 0, extra := 0 }
  pendingP := none
  running := false
  sample := 0
  unit := 0
  cycle := 0
  burstLen := 0
  burst := false

/-- Power-on values of a channel (11 R185, R196). -/
def Channel.reset : Channel where
  slot := none
  queue := []
  counts := { good := 0, truncated := 0, charError := 0, lengthError := 0, refused := 0, cutOff := 0, sent := 0,
              missingAck := 0, noClocking := 0, lost := 0 }

/-- The part right after reset: every block at its power-on values (01 R8, R9, R20; 02 R21, R28, R32;
03 R44, R52; 04 R67; 05 R83, R104, R105; 06 R107, R109; 07 R145, R131; 08 R147, R151; 09 R158, R170;
10 R172, R177, R179; 11 R185, R196), and no command waiting. -/
def State.reset : State where
  resetHeld := false
  tick := 0
  stations := Table.replicate 32
    { kind := .unused, bath := 0, sensing := false, inService := false, occ := .empty }
  marks := Table.replicate 32 .out
  windows := Table.replicate 32 none
  baths := Table.replicate 8 Bath.reset
  recipes := Table.replicate 16 { st := .empty, steps := [], refs := 0 }
  racks := Table.replicate 24 none
  seqCounter := 0
  queue := []
  requests := Table.replicate 24 none
  dispatcher := { lookahead := 300, orderMargin := 30, admitMargin := 300, lowMark := 100, hysteresis := 50,
                  mode := .deadline, notice := .clear, side := .above, passesOwed := 0 }
  hoistA := HoistRec.reset
  hoistB := HoistRec.reset
  span := { guardGap := 1, split := 16, spanA := .empty, spanB := .empty, seqA := 0, seqB := 0,
            handover := Handover.blank }
  gens := Table.replicate 8 Generator.reset
  line := { st := .standby, causes := [] }
  io := { inputs := Table.replicate 35 Input.reset, outputs := Table.replicate 35 Output.reset, seeded := false }
  link := { engine := .listen, window := false, discardWait := none, lastHoist := 1,
            channels := Table.replicate 4 Channel.reset, dropped := false, strayBath := 0, stamp := 0 }
  pending := []

end Sys2Proof.Machine
end

