-- ==== Sys2Proof/Machine/Flags.lean ====
section
/-! DEFINITION. The flag sets of the DL32: a rack's current-step flags (02 R25) and the cause set (09 R159).
Each set is listed in its rule's order with no repeats, so equal sets are equal lists. -/

namespace Sys2Proof.Machine

/-- The eight step flags, in the order of R25. -/
def StepFlag.all : List StepFlag :=
  [.overtime, .seatUnconfirmed, .unexpectedRelease, .earlyLift, .staleTemperature, .factorClamped,
   .agitationLost, .manualPlaced]

/-- Adding a flag; adding one that is present changes nothing (02 R25). -/
def StepFlag.addTo (f : StepFlag) (fs : List StepFlag) : List StepFlag :=
  if f ∈ fs then fs else StepFlag.all.filter (fun x => decide (x = f ∨ x ∈ fs))

/-- The bit of a flag in a flags character (11, RACK notice layout). -/
def StepFlag.bit : StepFlag → Nat
  | .overtime => 0
  | .seatUnconfirmed => 1
  | .unexpectedRelease => 2
  | .earlyLift => 3
  | .staleTemperature => 4
  | .factorClamped => 5
  | .agitationLost => 6
  | .manualPlaced => 7

/-- The flags character of a set (11, RACK notice layout). -/
def StepFlag.code (fs : List StepFlag) : Nat :=
  (StepFlag.all.map (fun f => if f ∈ fs then 2 ^ f.bit else 0)).sum

/-- The eleven causes, in the order of R159. -/
def Cause.all : List Cause :=
  [.operatorHold, .pauseInput, .gasLow, .tempStale, .hoistAFault, .hoistBFault, .handoverTimeout, .outputFault,
   .operatorHalt, .estop, .spanViolation]

/-- A cause's place in the table of R159, which is its code (11 R189). -/
def Cause.place : Cause → Nat
  | .operatorHold => 0
  | .pauseInput => 1
  | .gasLow => 2
  | .tempStale => 3
  | .hoistAFault => 4
  | .hoistBFault => 5
  | .handoverTimeout => 6
  | .outputFault => 7
  | .operatorHalt => 8
  | .estop => 9
  | .spanViolation => 10

/-- The type column of R159: true for a HALT cause. -/
def Cause.isHalt : Cause → Bool
  | .operatorHalt | .estop | .spanViolation => true
  | _ => false

/-- Adding a cause to a set (09 R160). -/
def Cause.addTo (c : Cause) (cs : List Cause) : List Cause :=
  if c ∈ cs then cs else Cause.all.filter (fun x => decide (x = c ∨ x ∈ cs))

/-- Removing a cause from a set (09 R165). -/
def Cause.removeFrom (c : Cause) (cs : List Cause) : List Cause := cs.filter (fun x => decide (x ≠ c))

/-- A cause set as two characters hold it: bit n for the cause in place n (11 R189). -/
def Cause.code (cs : List Cause) : Nat :=
  (Cause.all.map (fun c => if c ∈ cs then 2 ^ c.place else 0)).sum

end Sys2Proof.Machine

/-- The cause of a hoist's fault (09 R159). -/
def Sys2Proof.Hoist.faultCause : Hoist → Machine.Cause
  | .a => .hoistAFault
  | .b => .hoistBFault
end

