-- ==== Sys2Proof/Machine/Frames.lean ====
section
/-! DEFINITION. Characters and frame layouts (11): the characters of R184, the bytes of every frame the DL32
sends, and the reading of every frame it receives, by the layout tables and R188, R189. -/

namespace Sys2Proof

/-- Hoist code: 0 for A, 1 for B (R189). -/
def Hoist.code : Hoist → Nat
  | .a => 0
  | .b => 1
/-- Place in the kinds of R1. -/
def StationKind.code : StationKind → Nat
  | .unused => 0
  | .load => 1
  | .bath => 2
  | .unload => 3
/-- Place in the compensations (STEP SET layout). -/
def Compensation.code : Compensation → Nat
  | .none => 0
  | .temp => 1
  | .tempActivity => 2
/-- Place in the classes (STEP SET layout). -/
def StepClass.code : StepClass → Nat
  | .critical => 0
  | .firm => 1
  | .loose => 2
  | .openEnded => 3

end Sys2Proof

namespace Sys2Proof.Machine

/-! ### Characters (R184) -/

/-- The data bits of a character. -/
def Character.data (ch : Character) : Byte := ch.extractLsb' 1 8

/-- How many of the bits of bit times 2 to 10 (data and parity) are one. -/
def Character.ones (ch : Character) : Nat := ((List.range 9).filter (fun k => ch.getLsbD (k + 1))).length

/-- A character error: even parity, or a stop bit that reads 0 (R184). -/
def Character.hasError (ch : Character) : Bool := decide (Character.ones ch % 2 = 0) || !ch.getLsbD 10

/-- The character a sender forms for a byte: start bit 0, the data, odd parity, stop bit 1 (R184). -/
def Character.ofByte (b : Byte) : Character :=
  let ones := ((List.range 8).filter (fun k => b.getLsbD k)).length
  BitVec.ofNat 11 (2 * b.toNat + (if ones % 2 = 0 then 512 else 0) + 1024)

/-! ### Fields (R188, R189) -/

/-- A field of one character. -/
def u8 (n : Nat) : List Byte := [BitVec.ofNat 8 n]
/-- A field of two characters, least significant first. -/
def u16 (n : Nat) : List Byte := [BitVec.ofNat 8 n, BitVec.ofNat 8 (n / 256)]
/-- A field of four characters, least significant first. -/
def u32 (n : Nat) : List Byte := u16 n ++ u16 (n / 65536)
/-- A signed field of one character, in two's complement. -/
def i8 (x : Int) : List Byte := u8 (BitVec.ofInt 8 x).toNat
/-- A signed field of two characters, in two's complement. -/
def i16 (x : Int) : List Byte := u16 (BitVec.ofInt 16 x).toNat
/-- A signed field of four characters, in two's complement. -/
def i32 (x : Int) : List Byte := u32 (BitVec.ofInt 32 x).toNat
/-- A yes or no: 1 for yes (R189). -/
def yesNo (b : Bool) : List Byte := u8 (if b then 1 else 0)
/-- A field whose rule lists its true value first, such as "on, off" (R189). -/
def listedFirst (b : Bool) : List Byte := u8 (if b then 0 else 1)
/-- A one-character field that may be none: every bit set (R189). -/
def o8 (o : Option Nat) : List Byte := u8 (o.getD 255)
/-- A two-character field that may be none. -/
def o16 (o : Option Nat) : List Byte := u16 (o.getD 65535)
/-- A tick count that may be none. -/
def oTick (o : Option TickCount) : List Byte := u32 ((o.map BitVec.toNat).getD 4294967295)
/-- The temperature T of a bath, or none. No rule says whether T is a signed field, as the value of TEMP is: the model
takes it so, and codes none as the largest positive value (R189; log 44). -/
def oTemp (o : Option Int) : List Byte := i16 (o.getD 32767)
/-- A line margin, or unbounded as the largest positive value (R189). -/
def oMargin (o : Option Int) : List Byte := i32 (o.getD 2147483647)
/-- A position, 80h for unknown (Frame Layouts, Hoist report). -/
def oPosition (o : Option Int) : List Byte := i8 (o.getD (-128))
/-- A position in a query reply, which no layout table covers: unknown as the largest positive value (R189). -/
def replyPosition (o : Option Int) : List Byte := i8 (o.getD 127)

/-- Place in the occupancies of R1. -/
def Occupancy.code : Occupancy → Nat
  | .empty => 0
  | .reservedRack _ => 1
  | .reservedEntry _ => 1
  | .occupied _ => 2
  | .foreign => 3
/-- Place in the rack states (RACK notice layout). -/
def RackState.code : RackState → Nat
  | .atLoad => 0
  | .immersed => 1
  | .due => 2
  | .carried => 3
  | .atUnload => 4
  | .stranded => 5
/-- Place in the temperature statuses of R67. -/
def TempStatus.code : TempStatus → Nat
  | .none => 0
  | .fresh => 1
  | .stale => 2
  | .lapsed => 3
/-- Place in the line states of R158. -/
def LineState.code : LineState → Nat
  | .standby => 0
  | .run => 1
  | .hold => 2
  | .halt => 3
/-- Place in the events of STATION notices, in the order R175 and R176 name them (log 22). -/
def StationEvent.code : StationEvent → Nat
  | .foreign => 0
  | .intruded => 1
  | .empty => 2
/-- Place in the reasons of R27. -/
def RemovedReason.code : RemovedReason → Nat
  | .remove => 0
  | .withdraw => 1
  | .loadReleased => 2
  | .cleared => 3
/-- Value of a reply code (R195). -/
def ReplyCode.code : ReplyCode → Nat
  | .ok => 0
  | .queued => 1
  | .badFrame => 2
  | .badValue => 3
  | .wrongState => 4
  | .inUse => 5
  | .duplicate => 6
  | .noRecipe => 7
  | .notLoaded => 8
  | .busy => 9
  | .full => 10
  | .unknown => 11
  | .stillPresent => 12
  | .inFlight => 13

/-! ### Frames the DL32 sends -/

/-- Kind value (Frame Layouts). -/
def OutMsg.kind : OutMsg → Nat
  | .move .. => 0x10
  | .lift _ => 0x11
  | .cancel _ => 0x12
  | .span .. => 0x13
  | .halt => 0x14
  | .resume => 0x15
  | .owed .. => 0x38
  | .reply .. => 0x70
  | .rack .. => 0x78
  | .bath .. => 0x79
  | .station .. => 0x7A
  | .line .. => 0x7B
  | .marginLow .. => 0x7C
  | .marginClear _ => 0x7D
  | .frameRefused _ => 0x7F

/-- The event character and the event's own characters of a RACK notice (RACK notice layout). -/
def RackEvent.bytes : RackEvent → Nat × List Byte
  | .admitted sq load => (0, u32 sq.toNat ++ u8 load)
  | .stepEnded k st acc ov fl => (1, u8 k ++ u8 st ++ u32 acc ++ u32 ov ++ u8 (StepFlag.code fl))
  | .overtime ov tol => (2, u32 ov ++ u16 tol)
  | .stranded k l => (3, u8 k ++ yesNo l)
  | .done f => (4, yesNo f)
  | .removed r => (5, u8 r.code)

/-- The event character and the further field of a BATH notice (R74). -/
def BathEvent.bytes : BathEvent → Nat × List Byte
  | .probeFault x => (0, i16 x)
  | .stale => (1, [])
  | .lapsed => (2, [])
  | .restored b => (3, u8 b.code)

/-- Payload of a frame: the layout tables, and R189 for the frames without one. -/
def OutMsg.payload : OutMsg → List Byte
  | .move n src d dst => u8 n ++ u8 src ++ u8 d ++ u8 dst
  | .lift n => u8 n
  | .cancel n => u8 n
  | .span lo hi sq => u8 lo ++ u8 hi ++ u8 sq
  | .halt => []
  | .resume => []
  | .owed b e => u8 b ++ u16 e
  | .frameRefused k => k :: u8 ReplyCode.badFrame.code
  | .rack ev id slot st step place =>
    u8 ev.bytes.1 ++ u16 id ++ u8 slot ++ u8 st.code ++ u8 step ++ o8 place ++ ev.bytes.2
  | .bath ev b t st pf sc e =>
    u8 ev.bytes.1 ++ u8 b ++ oTemp t ++ u8 st.code ++ listedFirst pf ++ u16 sc ++ u16 e ++ ev.bytes.2
  | .station n ev occ => u8 n ++ u8 ev.code ++ u8 occ.code
  | .line c st cs => u8 c.place ++ u8 st.code ++ u16 (Cause.code cs)
  | .marginLow m id slot => i32 m ++ u16 id ++ u8 slot
  | .marginClear m => oMargin m
  | .reply k code part parts contents => u8 k ++ u8 code.code ++ u8 (part + 16 * parts) ++ contents

/-- A whole frame: kind, length, payload (Frame Layouts, Frame header). -/
def OutMsg.frame (m : OutMsg) : List Byte := u8 m.kind ++ u8 m.payload.length ++ m.payload

/-! ### Frames the DL32 receives -/

/-- A two-character field read. -/
def read16 (lo hi : Byte) : Nat := lo.toNat + 256 * hi.toNat

/-- A signed two-character field read. -/
def readInt16 (lo hi : Byte) : Int := (BitVec.ofNat 16 (read16 lo hi)).toInt

/-- A value read by its place in a list, or none where the code names no value (R189). -/
def pick {α : Type} (l : List α) (b : Byte) : Option α := l[b.toNat]?

/-- A position character: 80h is unknown (Frame Layouts, Hoist report). -/
def positionOf (b : Byte) : Option Int := if b = 0x80#8 then none else some b.toInt

/-- Pairs of characters read as two-character fields. -/
def read16s : List Byte → List Nat
  | lo :: hi :: rest => read16 lo hi :: read16s rest
  | _ => []

/-- A hoist named by a request. -/
def hoistOf (b : Byte) : Option Hoist := pick [.a, .b] b

/-- The yes or no of a request: 0 for no, 1 for yes. -/
def yesNoOf (b : Byte) : Option Bool := pick [false, true] b

/-- A field whose rule lists its true value first, such as "on, off". -/
def listedFirstOf (b : Byte) : Option Bool := pick [true, false] b

/-- The target of OUTPUT MODE: the pairs 0..15, then the sounder (R180, R189, log 22). -/
def modeTargetOf (b : Byte) : ModeTarget := if b = 16#8 then .sounder else .pair b.toNat

/-- A hoist's report (channels 0 and 1), or none where the kind is unknown or the length is not the kind's. -/
def decodeReport (h : Hoist) (kind : Nat) (p : List Byte) : Option Instr :=
  match kind, p with
  | 0x20, [x] => some (.hello h (positionOf x))
  | 0x21, [n, x] => some (.accept h n.toNat (positionOf x))
  | 0x22, [n, r] => some (.refuse h n.toNat r.toNat)
  | 0x23, [n, x] => some (.poised h n.toNat (positionOf x))
  | 0x24, [n, x] => some (.lifted h n.toNat (positionOf x))
  | 0x25, [n, x] => some (.placed h n.toNat (positionOf x))
  | 0x26, [n] => some (.cancelled h n.toNat)
  | 0x27, [x] => some (.position h (positionOf x))
  | 0x28, [q, x] => some (.spanAck h q.toNat (positionOf x))
  | 0x29, [c] => some (.fault h c.toNat)
  | _, _ => none

/-- A cabinet report (channel 2). -/
def decodeCabinet (kind : Nat) (p : List Byte) : Option Instr :=
  match kind, p with
  | 0x30, [b, t0, t1] => some (.temp b.toNat (readInt16 t0 t1))
  | 0x31, [b, v0, v1] => some (.pumped b.toNat (read16 v0 v1))
  | _, _ => none

/-- The requests about racks, stations, baths and recipes (kinds 40h to 4Eh). -/
def decodeRequestLow (kind : Nat) (p : List Byte) : Option Instr :=
  match kind, p with
  | 0x40, [i0, i1, r, l, a0, a1, adj] =>
    some (.admitRack (read16 i0 i1) r.toNat l.toNat (read16 a0 a1) adj.toInt)
  | 0x41, [i0, i1] => some (.withdraw (read16 i0 i1))
  | 0x42, [i0, i1] => some (.rackRemove (read16 i0 i1))
  | 0x43, [i0, i1, k, st] => some (.rackPlace (read16 i0 i1) k.toNat st.toNat)
  | 0x44, [i0, i1, k] => some (.rackQuery (read16 i0 i1) k.toNat)
  | 0x45, [n, k, b, se, sv] =>
    some (.stationSet n.toNat (pick [.unused, .load, .bath, .unload] k) b.toNat (listedFirstOf se) (yesNoOf sv))
  | 0x46, [n] => some (.stationQuery n.toNat)
  | 0x47, [b, t0, t1, r0, r1, sl, h0, h1] =>
    some (.bathSet b.toNat (read16 t0 t1) (read16 r0 r1) sl.toNat (read16 h0 h1))
  | 0x48, b :: ps => if ps.length = 18 then some (.bathTableSet b.toNat (read16s ps)) else none
  | 0x49, [b] => some (.bathOwedClear b.toNat)
  | 0x4A, [b] => some (.bathQuery b.toNat)
  | 0x4B, [r] => some (.recipeOpen r.toNat)
  | 0x4C, [r, k, b, n0, n1, c, adj, cl, l0, l1, d, ag] =>
    some (.stepSet r.toNat k.toNat
      { bath := b.toNat, nominal := read16 n0 n1, comp := pick [.none, .temp, .tempActivity] c,
        adjustable := yesNoOf adj, cls := pick [.critical, .firm, .loose, .openEnded] cl,
        tolerance := read16 l0 l1, drain := d.toNat, agitate := yesNoOf ag })
  | 0x4D, [r] => some (.recipeClose r.toNat)
  | 0x4E, [r, k] => some (.recipeQuery r.toNat k.toNat)
  | _, _ => none

/-- The other requests (kinds 4Fh to 64h). -/
def decodeRequestHigh (kind : Nat) (p : List Byte) : Option Instr :=
  match kind, p with
  | 0x4F, [a0, a1, b0, b1, c0, c1, d0, d1, e0, e1, m] =>
    some (.dispatchConfig
      { lookahead := read16 a0 a1, orderMargin := read16 b0 b1, admitMargin := read16 c0 c1,
        lowMark := read16 d0 d1, hysteresis := read16 e0 e1, mode := pick [.deadline, .byClass] m })
  | 0x50, [k] => some (.queueQuery k.toNat)
  | 0x51, [h, a0, a1, b0, b1, c0, c1, d0, d1, e0, e1, f0, f1, g0, g1] =>
    some (.hoistTiming (hoistOf h)
      { fixed := read16 a0 a1, perStation := read16 b0 b1, place := read16 c0 c1, acceptTime := read16 d0 d1,
        approach := read16 e0 e1, lift := read16 f0 f1, spanAck := read16 g0 g1 })
  | 0x52, [h] => some (.hoistCancel (hoistOf h))
  | 0x53, [h] => some (.hoistRelease (hoistOf h))
  | 0x54, [h] => some (.hoistQuery (hoistOf h))
  | 0x55, [g, sp] => some (.spanConfig g.toNat sp.toNat)
  | 0x56, [] => some .spanQuery
  | 0x57, [b, pr, cy, w, x] =>
    some (.agitationSet b.toNat { prescale := pr.toNat, cycle := cy.toNat, width := w.toNat, extra := x.toNat })
  | 0x58, [b, g] => some (.agitationQuery b.toNat g.toNat)
  | 0x59, [] => some .lineRun
  | 0x5A, [] => some .lineHold
  | 0x5B, [] => some .lineHalt
  | 0x5C, [] => some .lineResume
  | 0x5D, [] => some .lineClear
  | 0x5E, cs => if cs.length ≤ 11 then some (.causeClear (cs.map BitVec.toNat)) else none
  | 0x5F, [] => some .lineQuery
  | 0x60, [n, d, po, en] =>
    some (.inputSet n.toNat d.toNat (pick [.activeHigh, .activeLow] po) (listedFirstOf en))
  | 0x61, [t, m] => some (.outputMode (modeTargetOf t) (pick [.function, .manual] m))
  | 0x62, [n, l] => some (.outputLatch n.toNat (listedFirstOf l))
  | 0x63, [k, n] => some (.ioQuery (pick [.input, .output] k) n.toNat)
  | 0x64, [c] => some (.linkQuery c.toNat)
  | _, _ => none

/-- The report or request a frame received on a channel carries; none where the kind is unknown there or the
length is not the kind's (R188), so that the frame is refused. -/
def decodeFrame (channel : Nat) (kind : Byte) (p : List Byte) : Option Instr :=
  match channel with
  | 0 => decodeReport .a kind.toNat p
  | 1 => decodeReport .b kind.toNat p
  | 2 => decodeCabinet kind.toNat p
  | 3 => if kind.toNat < 0x4F then decodeRequestLow kind.toNat p else decodeRequestHigh kind.toNat p
  | _ => none

end Sys2Proof.Machine
end

