-- ==== Sys2Proof/Machine/Encode.lean ====
section
/-! DEFINITION. The frame a partner sends for each report and request: its channel, its kind value and its payload,
written from the layout tables and R188, R189. A code for "no value of the list" is 255. -/

namespace Sys2Proof

/-- The code of an enumerated operand, 255 where it names no value of its list. -/
def codeOr (f : α → Nat) : Option α → Nat
  | some x => f x
  | none => 255

/-- 0 for no, 1 for yes (R189). -/
def yesNoCode : Bool → Nat
  | false => 0
  | true => 1

/-- Place in a list that names its true value first, such as "on, off" (R189). -/
def listedFirstCode : Bool → Nat
  | true => 0
  | false => 1

/-- Place in the urgency modes (05 R105). -/
def UrgencyMode.code : UrgencyMode → Nat
  | .deadline => 0
  | .byClass => 1

/-- Place in the polarities (10 R172). -/
def Polarity.code : Polarity → Nat
  | .activeHigh => 0
  | .activeLow => 1

/-- Place in the output modes (10 R179). -/
def OutputMode.code : OutputMode → Nat
  | .function => 0
  | .manual => 1

/-- Place in the kinds of IO QUERY (10 R183). -/
def IoKind.code : IoKind → Nat
  | .input => 0
  | .output => 1

/-- The target character of OUTPUT MODE: a pair by its number, then the sounder; a permit line has none, and
another value stands for it (10 R180, log 22). -/
def ModeTarget.code : ModeTarget → Nat
  | .pair n => n
  | .sounder => 16
  | .permit h => 17 + h.code

/-- The eight fields of STEP SET (11, STEP SET layout). -/
def StepFields.bytes (f : StepFields) : List Byte :=
  Machine.u8 f.bath ++ Machine.u16 f.nominal ++ Machine.u8 (codeOr Compensation.code f.comp) ++
    Machine.u8 (codeOr yesNoCode f.adjustable) ++ Machine.u8 (codeOr StepClass.code f.cls) ++
    Machine.u16 f.tolerance ++ Machine.u8 f.drain ++ Machine.u8 (codeOr yesNoCode f.agitate)

/-- The six settings of DISPATCH CONFIG (05 R105). -/
def DispatchFields.bytes (f : DispatchFields) : List Byte :=
  Machine.u16 f.lookahead ++ Machine.u16 f.orderMargin ++ Machine.u16 f.admitMargin ++ Machine.u16 f.lowMark ++
    Machine.u16 f.hysteresis ++ Machine.u8 (codeOr UrgencyMode.code f.mode)

/-- The seven settings of HOIST TIMING (06 R109). -/
def Timing.payload (t : Timing) : List Byte :=
  Machine.u16 t.fixed ++ Machine.u16 t.perStation ++ Machine.u16 t.place ++ Machine.u16 t.acceptTime ++
    Machine.u16 t.approach ++ Machine.u16 t.lift ++ Machine.u16 t.spanAck

/-- The four fields of AGITATION SET (08 R147). -/
def Program.payload (p : Program) : List Byte :=
  Machine.u8 p.prescale ++ Machine.u8 p.cycle ++ Machine.u8 p.width ++ Machine.u8 p.extra

end Sys2Proof

namespace Sys2Proof.Machine

/-- The kind value and payload of a hoist report, with its hoist (11, kind tables and Hoist report layout). -/
def encodeReport : Instr → Option (Hoist × Nat × List Byte)
  | .hello h p => some (h, 0x20, oPosition p)
  | .accept h n p => some (h, 0x21, u8 n ++ oPosition p)
  | .refuse h n r => some (h, 0x22, u8 n ++ u8 r)
  | .poised h n p => some (h, 0x23, u8 n ++ oPosition p)
  | .lifted h n p => some (h, 0x24, u8 n ++ oPosition p)
  | .placed h n p => some (h, 0x25, u8 n ++ oPosition p)
  | .cancelled h n => some (h, 0x26, u8 n)
  | .position h p => some (h, 0x27, oPosition p)
  | .spanAck h q p => some (h, 0x28, u8 q ++ oPosition p)
  | .fault h c => some (h, 0x29, u8 c)
  | _ => none

/-- The kind value and payload of a cabinet report (11, kind tables). -/
def encodeCabinet : Instr → Option (Nat × List Byte)
  | .temp b t => some (0x30, u8 b ++ i16 t)
  | .pumped b v => some (0x31, u8 b ++ u16 v)
  | _ => none

/-- The kind value and payload of a request (11, kind tables). -/
def encodeRequest : Instr → Option (Nat × List Byte)
  | .admitRack id recipe load area adjust => some (0x40, u16 id ++ u8 recipe ++ u8 load ++ u16 area ++ i8 adjust)
  | .withdraw id => some (0x41, u16 id)
  | .rackRemove id => some (0x42, u16 id)
  | .rackPlace id step station => some (0x43, u16 id ++ u8 step ++ u8 station)
  | .rackQuery id index => some (0x44, u16 id ++ u8 index)
  | .stationSet n kind b se sv =>
    some (0x45, u8 n ++ u8 (codeOr StationKind.code kind) ++ u8 b ++ u8 (codeOr listedFirstCode se) ++
      u8 (codeOr yesNoCode sv))
  | .stationQuery n => some (0x46, u8 n)
  | .bathSet b tRef rho slope threshold => some (0x47, u8 b ++ u16 tRef ++ u16 rho ++ u8 slope ++ u16 threshold)
  | .bathTableSet b points => some (0x48, u8 b ++ (points.map u16).flatten)
  | .bathOwedClear b => some (0x49, u8 b)
  | .bathQuery b => some (0x4A, u8 b)
  | .recipeOpen n => some (0x4B, u8 n)
  | .stepSet n k f => some (0x4C, u8 n ++ u8 k ++ f.bytes)
  | .recipeClose n => some (0x4D, u8 n)
  | .recipeQuery n k => some (0x4E, u8 n ++ u8 k)
  | .dispatchConfig f => some (0x4F, f.bytes)
  | .queueQuery k => some (0x50, u8 k)
  | .hoistTiming h t => some (0x51, u8 (codeOr Hoist.code h) ++ t.payload)
  | .hoistCancel h => some (0x52, u8 (codeOr Hoist.code h))
  | .hoistRelease h => some (0x53, u8 (codeOr Hoist.code h))
  | .hoistQuery h => some (0x54, u8 (codeOr Hoist.code h))
  | .spanConfig g sp => some (0x55, u8 g ++ u8 sp)
  | .spanQuery => some (0x56, [])
  | .agitationSet b p => some (0x57, u8 b ++ p.payload)
  | .agitationQuery b g => some (0x58, u8 b ++ u8 g)
  | .lineRun => some (0x59, [])
  | .lineHold => some (0x5A, [])
  | .lineHalt => some (0x5B, [])
  | .lineResume => some (0x5C, [])
  | .lineClear => some (0x5D, [])
  | .causeClear codes => some (0x5E, (codes.map u8).flatten)
  | .lineQuery => some (0x5F, [])
  | .inputSet n d p e => some (0x60, u8 n ++ u8 d ++ u8 (codeOr Polarity.code p) ++ u8 (codeOr listedFirstCode e))
  | .outputMode t m => some (0x61, u8 t.code ++ u8 (codeOr OutputMode.code m))
  | .outputLatch n l => some (0x62, u8 n ++ u8 (codeOr listedFirstCode l))
  | .ioQuery k n => some (0x63, u8 (codeOr IoKind.code k) ++ u8 n)
  | .linkQuery c => some (0x64, u8 c)
  | _ => none

/-- The channel, the kind value and the payload of the frame that carries a report or a request; none for the
commands that are no frame. -/
def encodeFrame (i : Instr) : Option (Nat × Byte × List Byte) :=
  match encodeReport i, encodeCabinet i, encodeRequest i with
  | some (h, k, p), _, _ => some (h.code, BitVec.ofNat 8 k, p)
  | _, some (k, p), _ => some (2, BitVec.ofNat 8 k, p)
  | _, _, some (k, p) => some (3, BitVec.ofNat 8 k, p)
  | none, none, none => none

end Sys2Proof.Machine
end

