-- ==== Sys2Proof/Machine/Operands.lean ====
section
/-! DEFINITION. The operand forms of the commands: what counts as in range for each request and report, and
how a checked operand is read. A request whose operands fail is refused with BAD_VALUE by its own rule. -/

namespace Sys2Proof.Machine

/-- A rack identifier (00 Conventions, 02 R29): 1..65534. -/
def rackIdOk (id : Nat) : Bool := decide (1 ≤ id) && decide (id ≤ 65534)

/-- A station number (01 R4): 0..31. -/
def stationOk (n : Nat) : Bool := decide (n < Config.stations)

/-- A bath number (01 R10): 0..7. -/
def bathOk (n : Nat) : Bool := decide (n < Config.baths)

/-- A recipe number (01 R15): 0..15. -/
def recipeOk (n : Nat) : Bool := decide (n < Config.recipes)

/-- Check 2 of R29. -/
def admitFieldsOk (e : QueueEntry) : Bool :=
  rackIdOk e.id && recipeOk e.recipe && stationOk e.load && decide (1 ≤ e.area) && decide (e.area ≤ 4095)
    && decide (-30 ≤ e.adjust) && decide (e.adjust ≤ 100)

/-- Check 1 of R41. -/
def placeFieldsOk (id step station : Nat) : Bool := rackIdOk id && decide (step ≤ 13) && stationOk station

/-- The value check of R4: the four fields read, or none where one is out of range or kind UNUSED stands with
in service yes. -/
def readStationFields (station : Nat) (kind : Option StationKind) (bath : Nat) (sensing inService : Option Bool) :
    Option (StationKind × Bool × Bool) :=
  match kind, sensing, inService with
  | some k, some se, some sv =>
    if stationOk station && bathOk bath && !(decide (k = .unused) && sv) then some (k, se, sv) else none
  | _, _, _ => none

/-- The value check of R10, with the ranges of R9. -/
def bathFieldsOk (bath tRef rho slope threshold : Nat) : Bool :=
  bathOk bath && decide (150 ≤ tRef) && decide (tRef ≤ 300) && decide (rho ≤ 2000) && decide (slope ≤ 255)
    && decide (threshold ≤ 65535)

/-- The value check of R11: nine points, each 256..4095. -/
def pointsOk (bath : Nat) (points : List Nat) : Bool :=
  bathOk bath && decide (points.length = 9) && points.all (fun p => decide (256 ≤ p) && decide (p ≤ 4095))

/-- Check 4 of R16: the step read, or none where a field is out of the range R13 gives it. -/
def readStep (f : StepFields) : Option RecipeStep :=
  match f.comp, f.adjustable, f.cls, f.agitate with
  | some comp, some adj, some cls, some ag =>
    if bathOk f.bath && decide (1 ≤ f.nominal) && decide (f.nominal ≤ 36000) && decide (f.tolerance ≤ 65535)
        && decide (f.drain ≤ 255) then
      some { bath := f.bath, nominal := f.nominal, comp := comp, adjustable := adj, cls := cls,
             tolerance := f.tolerance, drain := f.drain, agitate := ag }
    else none
  | _, _, _, _ => none

/-- The value check of R105: the mode read, or none where a setting is out of range. -/
def readDispatch (f : DispatchFields) : Option UrgencyMode :=
  match f.mode with
  | some m =>
    if decide (50 ≤ f.lookahead) && decide (f.lookahead ≤ 3000) && decide (f.orderMargin ≤ 600)
        && decide (f.admitMargin ≤ 3000) && decide (f.lowMark ≤ 3000) && decide (f.hysteresis ≤ 600) then some m
    else none
  | none => none

/-- The ranges of R109. -/
def timingOk (t : Timing) : Bool :=
  decide (t.fixed ≤ 600) && decide (1 ≤ t.perStation) && decide (t.perStation ≤ 300) && decide (t.place ≤ 600)
    && decide (5 ≤ t.acceptTime) && decide (t.acceptTime ≤ 600) && decide (t.approach ≤ 3000)
    && decide (5 ≤ t.lift) && decide (t.lift ≤ 600) && decide (10 ≤ t.spanAck) && decide (t.spanAck ≤ 3000)

/-- The value check of R131. -/
def spanFieldsOk (guardGap split : Nat) : Bool :=
  decide (guardGap ≤ 3) && decide (1 ≤ split) && decide (split ≤ 31) && decide (split + guardGap ≤ 31)

/-- The value check of R150, with the ranges of R147. -/
def programOk (bath : Nat) (p : Program) : Bool :=
  bathOk bath && decide (p.prescale ≤ 255) && decide (p.cycle ≤ 15) && decide (p.width ≤ 255) && decide (p.extra ≤ 15)

/-- The value check of R174: the polarity and the enable read, or none. E-STOP may not be disabled. -/
def readInputFields (input debounce : Nat) (polarity : Option Polarity) (enable : Option Bool) :
    Option (Polarity × Bool) :=
  match polarity, enable with
  | some p, some e =>
    if decide (input < Config.inputs) && decide (1 ≤ debounce) && decide (debounce ≤ 15)
        && !(decide (input = Config.eStop) && !e) then some (p, e) else none
  | _, _ => none

/-- An output that has a latch: a valve line or the sounder (10 R181). -/
def latchable (n : Nat) : Bool := decide (n < Config.outputs) && !(decide (n = Config.permitA) || decide (n = Config.permitB))

/-- A reported rail position: -1..32 (06 R111); "unknown" and every other value are no position (log 18). -/
def readPosition (p : Option Int) : Option Int :=
  match p with
  | some x => if -1 ≤ x ∧ x ≤ 32 then some x else none
  | none => none

end Sys2Proof.Machine
end

