-- ==== Sys2Proof/Machine/Ops.lean ====
section
/-! DEFINITION. The named operations every command is made of: tick arithmetic, record access, outbound queues,
replies and notices, causes, hoist messages and timers, positions, stations and flags. -/

namespace Sys2Proof

/-- The other hoist (00 Conventions). -/
def Hoist.other : Hoist → Hoist
  | .a => .b
  | .b => .a

/-- A hoist's park (00 Conventions). -/
def Hoist.park : Hoist → Int
  | .a => -1
  | .b => 32

/-- The channel of a hoist (00 Partners and Channels). -/
def Hoist.channel : Hoist → Nat
  | .a => 0
  | .b => 1

end Sys2Proof

namespace Sys2Proof.Machine

/-! ### Tick and sequence arithmetic -/

/-- a minus b as tick counts, read as a signed 32-bit number (03 R44). -/
def tickDiff (a b : TickCount) : Int := (a - b).toInt

/-- Tick a is earlier than tick b (03 R44). -/
def earlier (a b : TickCount) : Bool := decide (0 < tickDiff b a)

/-- The tick count n ticks later. -/
def later (t : TickCount) (n : Nat) : TickCount := t + BitVec.ofNat 32 n

/-- The rack with sequence a is older than the one with sequence b (02 R28). -/
def older (a b : Sequence) : Bool := decide (0 < (b - a).toInt)

/-- The sequence after the last: 4294967295 is followed by 1 (02 R28). -/
def nextSequence (q : Sequence) : Sequence := if q + 1 = 0 then 1 else q + 1

/-- The next order number or span sequence: 255 is followed by 1 (06 R112, 07 R132). -/
def nextNumber (n : Nat) : Nat := if 255 ≤ n then 1 else n + 1

/-- A count raised by one that stops at its limit. -/
def saturate (limit n : Nat) : Nat := if limit ≤ n then limit else n + 1

/-- The 4-bit reversal of a number 0..15 (00 Conventions). -/
def rev4 (p : Nat) : Nat := 8 * (p % 2) + 4 * (p / 2 % 2) + 2 * (p / 4 % 2) + p / 8 % 2

/-- Whether position p receives one of A extra units (00 Conventions). -/
def spread (a p : Nat) : Bool := decide (1 ≤ rev4 p) && decide (rev4 p ≤ a)

/-- Insertion of one element before the first it comes before. -/
def insertBy {α : Type} (before : α → α → Bool) (x : α) : List α → List α
  | [] => [x]
  | y :: ys => if before x y then x :: y :: ys else y :: insertBy before x ys

/-- A list in the order given; elements that neither precede the other keep their places. -/
def sortBy {α : Type} (before : α → α → Bool) : List α → List α
  | [] => []
  | x :: xs => insertBy before x (sortBy before xs)

/-! ### Records -/

def State.setStation (s : State) (n : Nat) (x : Station) : State := { s with stations := s.stations.set n x }
/-- Change of a station's occupancy (01 R3). -/
def State.setOcc (s : State) (n : Nat) (o : Occupancy) : State :=
  s.setStation n { s.stations.get n with occ := o }
def State.setBath (s : State) (b : Nat) (x : Bath) : State := { s with baths := s.baths.set b x }
def State.setRecipe (s : State) (r : Nat) (x : Recipe) : State := { s with recipes := s.recipes.set r x }
def State.setRack (s : State) (k : Nat) (x : Option Rack) : State := { s with racks := s.racks.set k x }
def State.setRequest (s : State) (k : Nat) (x : Option Request) : State := { s with requests := s.requests.set k x }
def State.setMark (s : State) (n : Nat) (m : AgitationMark) : State := { s with marks := s.marks.set n m }
def State.setWindow (s : State) (n : Nat) (w : Option Nat) : State := { s with windows := s.windows.set n w }
def State.setGen (s : State) (b : Nat) (g : Generator) : State := { s with gens := s.gens.set b g }
def State.setInput (s : State) (n : Nat) (x : Input) : State :=
  { s with io := { s.io with inputs := s.io.inputs.set n x } }
def State.setOutput (s : State) (n : Nat) (x : Output) : State :=
  { s with io := { s.io with outputs := s.io.outputs.set n x } }

/-- The record of a hoist. -/
def State.hoist (s : State) : Hoist → HoistRec
  | .a => s.hoistA
  | .b => s.hoistB

def State.setHoist (s : State) : Hoist → HoistRec → State
  | .a, x => { s with hoistA := x }
  | .b, x => { s with hoistB := x }

/-- The recorded span of a hoist (07 R130). -/
def State.spanOf (s : State) : Hoist → Span
  | .a => s.span.spanA
  | .b => s.span.spanB

def State.setSpan (s : State) : Hoist → Span → State
  | .a, x => { s with span := { s.span with spanA := x } }
  | .b, x => { s with span := { s.span with spanB := x } }

/-- The last span sequence of a hoist (07 R132). -/
def State.seqOf (s : State) : Hoist → Nat
  | .a => s.span.seqA
  | .b => s.span.seqB

def State.setSeq (s : State) : Hoist → Nat → State
  | .a, n => { s with span := { s.span with seqA := n } }
  | .b, n => { s with span := { s.span with seqB := n } }

def State.setHandover (s : State) (h : Handover) : State := { s with span := { s.span with handover := h } }

/-- The compensation phase (03 R44). -/
def State.phase (s : State) : Nat := s.tick.toNat % 16

/-- The debounced logical level of an input (10 R172). -/
def State.level (s : State) (n : Nat) : Bool := (s.io.inputs.get n).level

/-- Step k of a recipe, steps being numbered from 1 (01, The Recipe Store). -/
def State.recipeStep (s : State) (recipe k : Nat) : Option RecipeStep :=
  if k = 0 then none else (s.recipes.get recipe).steps[k - 1]?

/-- The step a rack is in, none at its load and unload visits (02 R24). -/
def State.currentStep (s : State) (r : Rack) : Option RecipeStep := s.recipeStep r.recipe r.stepIdx

/-- How many steps a rack's recipe has. -/
def State.stepCount (s : State) (r : Rack) : Nat := (s.recipes.get r.recipe).steps.length

/-- A rack in a bath: IMMERSED or DUE (02 R23). -/
def Rack.inBath (r : Rack) : Bool := decide (r.st = .immersed) || decide (r.st = .due)

/-- The slot that holds a rack id, if any (02 R21). -/
def State.slotOf (s : State) (id : Nat) : Option Nat :=
  (s.racks.indices (fun o => match o with | some r => decide (r.id = id) | none => false)).head?

/-- The lowest-numbered free slot (02 R21). -/
def State.freeSlot (s : State) : Option Nat := (s.racks.indices Option.isNone).head?

/-- The rack a station is OCCUPIED by, with its slot. -/
def State.rackAt (s : State) (n : Nat) : Option (Nat × Rack) :=
  match (s.stations.get n).occ with
  | .occupied k => (s.racks.get k).map (fun r => (k, r))
  | _ => none

/-- The hoist whose open order is for the rack in a slot, with the order. -/
def State.orderFor (s : State) (slot : Nat) : Option (Hoist × Order) :=
  match s.hoistA.order, s.hoistB.order with
  | some o, some p => if o.slot = slot then some (.a, o) else if p.slot = slot then some (.b, p) else none
  | some o, none => if o.slot = slot then some (.a, o) else none
  | none, some p => if p.slot = slot then some (.b, p) else none
  | none, none => none

/-- Adding a current-step flag to the rack in a slot (02 R25). -/
def State.addFlag (s : State) (slot : Nat) (f : StepFlag) : State :=
  match s.racks.get slot with
  | some r => s.setRack slot (some { r with flags := f.addTo r.flags })
  | none => s

/-! ### Outbound queues (11 R192) -/

/-- The frame joins the tail of a channel's queue. -/
def Link.push (l : Link) (c : Nat) (m : OutMsg) : Link :=
  { l with channels := l.channels.modify c (fun ch => { ch with queue := ch.queue ++ [⟨m, l.stamp⟩] }),
           stamp := l.stamp + 1 }

/-- The counts of a channel changed by f. -/
def Link.count (l : Link) (c : Nat) (f : Counts → Counts) : Link :=
  { l with channels := l.channels.modify c (fun ch => { ch with counts := f ch.counts }) }

/-- A lost send counted (11 R196). -/
def Link.lose (l : Link) (c : Nat) : Link :=
  l.count c (fun k => { k with lost := saturate Config.max16 k.lost })

/-- How many frames a channel's outbound queue holds. -/
def Link.held (l : Link) (c : Nat) : Nat := (l.channels.get c).queue.length

/-- A hoist message, or FRAME REFUSED on channels 0 to 2: queued, or lost where four frames are held
(06 R110, 11 R192). -/
def Link.send (l : Link) (c : Nat) (m : OutMsg) : Link :=
  if l.held c < Config.hoistPlaces then l.push c m else l.lose c

/-- A notice on channel 3: queued where at least four places are free, otherwise lost with the
notices-dropped indication set (11 R192). -/
def Link.notify (l : Link) (m : OutMsg) : Link :=
  if l.held 3 + Config.replyPlaces < Config.orderPlaces then l.push 3 m else { l.lose 3 with dropped := true }

/-- The contents of a reply cut into one to three frames of at most 27 characters (11 R195). -/
def replyParts (contents : List Byte) : List (List Byte) :=
  if contents.length ≤ Config.replyRoom then [contents]
  else if contents.length ≤ 2 * Config.replyRoom then
    [contents.take Config.replyRoom, contents.drop Config.replyRoom]
  else
    [contents.take Config.replyRoom, (contents.drop Config.replyRoom).take Config.replyRoom,
     contents.drop (2 * Config.replyRoom)]

/-- The frames of a reply, numbered from 1 (11 R195). -/
def replyFrames (kind : Nat) (code : ReplyCode) (contents : List Byte) : List OutMsg :=
  let parts := replyParts contents
  parts.zipIdx.map (fun p => .reply kind code (p.2 + 1) parts.length p.1)

/-- The reply's frames queued together on channel 3, where they always find room (11 R192, R195). -/
def Link.reply (l : Link) (kind : Nat) (code : ReplyCode) (contents : List Byte) : Link :=
  (replyFrames kind code contents).foldl (fun l m => l.push 3 m) l

def State.sendHoist (s : State) (h : Hoist) (m : OutMsg) : State := { s with link := s.link.send h.channel m }
def State.notify (s : State) (m : OutMsg) : State := { s with link := s.link.notify m }
/-- The reply to a request of this kind value (11 R195). -/
def State.reply (s : State) (kind : Nat) (code : ReplyCode) (contents : List Byte) : State :=
  { s with link := s.link.reply kind code contents }

/-- A RACK notice about the record r in a slot (02 R27). -/
def State.rackNotice (s : State) (ev : RackEvent) (slot : Nat) (r : Rack) (station : Option Nat) : State :=
  s.notify (.rack ev r.id slot r.st r.stepIdx station)

/-- A BATH notice with the record as it stands after the event (04 R74). -/
def State.bathNotice (s : State) (ev : BathEvent) (b : Nat) : State :=
  let x := s.baths.get b
  s.notify (.bath ev b x.temp x.status x.probeFault x.staleCount x.owed)

/-- A STATION notice with the occupancy after the event (10 R175). -/
def State.stationNotice (s : State) (ev : StationEvent) (n : Nat) : State :=
  s.notify (.station n ev (s.stations.get n).occ)

/-! ### Triggers of a dispatch pass (05 R97) -/

/-- One more pass is owed (log 6). -/
def State.triggerPass (s : State) : State :=
  { s with dispatcher := { s.dispatcher with passesOwed := s.dispatcher.passesOwed + 1 } }

/-! ### Causes (09 R160, R167) -/

/-- The move into HALT: HALT to both hoists, their phase timers and a running acknowledgement timer
suspended (09 R167, 06 R127, 07 R143). Hoist A's HALT is queued first (log 41). R143 gives no suspended mark to a
handover that has no acknowledgement timer, as in stage WAITING: the model sets the mark to no there (log 15). -/
def State.enterHalt (s : State) : State :=
  { s with
    line := { s.line with st := .halt }
    link := (s.link.send 0 .halt).send 1 .halt
    hoistA := { s.hoistA with suspended := true }
    hoistB := { s.hoistB with suspended := true }
    span := { s.span with handover := { s.span.handover with suspended := s.span.handover.timer.isSome } } }

/-- The move of the line state that the addition of a cause makes (09 R160). -/
def State.moveFor (s : State) (c : Cause) : State :=
  match s.line.st, c.isHalt with
  | .run, false => { s with line := { s.line with st := .hold } }
  | .run, true => s.enterHalt
  | .hold, true => s.enterHalt
  | _, _ => s

/-- A block adds a cause: one already in the set changes nothing; otherwise it enters the set, the line state
moves, and a LINE notice CAUSE_ADDED is queued (09 R160, R170). -/
def State.addCause (s : State) (c : Cause) : State :=
  if c ∈ s.line.causes then s
  else
    let moved := State.moveFor { s with line := { s.line with causes := c.addTo s.line.causes } } c
    moved.notify (.line c moved.line.st moved.line.causes)

/-! ### Hoist timers (06 R113, R127) -/

/-- Travel estimate of a hoist between two rail positions (05 R94). -/
def HoistRec.travel (x : HoistRec) (a b : Int) : Nat := x.timing.fixed + x.timing.perStation * (a - b).natAbs

/-- The phase timer set; in HALT it is set suspended (06 R113, R127). -/
def State.setTimer (s : State) (h : Hoist) (v : Nat) : State :=
  s.setHoist h { s.hoist h with timer := some v, suspended := decide (s.line.st = .halt) }

/-- The value R113 gives the phase timer for an order's phase and cancel; none where there is no timer. From
an unknown position the travel is a free value (log 31). -/
def HoistRec.phaseTime (x : HoistRec) (o : Order) : Option Nat :=
  if o.cancelOut then some x.timing.acceptTime
  else match o.phase with
    | .sent => some x.timing.acceptTime
    | .accepted => some (x.position.elim (Config.openTravel o.source) (fun p => x.travel p o.source) + x.timing.approach)
    | .poised => none
    | .released => some x.timing.lift
    | .lifted => some (o.drain + x.travel o.source o.dest + x.timing.place + x.timing.approach)

/-- A stray report counted (06 R111). -/
def State.stray (s : State) (h : Hoist) : State :=
  s.setHoist h { s.hoist h with stray := saturate Config.max16 (s.hoist h).stray }

/-! ### Spans and positions (07 R130, R132, R134) -/

/-- A rail position lies in a span (07 R130). -/
def Span.holds (sp : Span) (p : Int) : Bool :=
  match sp with
  | .empty => false
  | .range lo hi => decide ((lo : Int) ≤ p) && decide (p ≤ (hi : Int))

/-- The low and high station a SPAN message carries: 1 and 0 for an empty span (07 R132). -/
def Span.ends : Span → Nat × Nat
  | .empty => (1, 0)
  | .range lo hi => (lo, hi)

/-- Queues SPAN with the hoist's recorded span under its next sequence; a handover that awaits this hoist's
acknowledgement awaits the new sequence from now on (07 R132, R139, R140). -/
def State.sendSpan (s : State) (h : Hoist) : State :=
  let q := nextNumber (s.seqOf h)
  let ends := (s.spanOf h).ends
  let s1 := (s.setSeq h q).sendHoist h (.span ends.1 ends.2 q)
  match s1.span.handover.awaited with
  | some (w, _) => if w = h then s1.setHandover { s1.span.handover with awaited := some (h, q) } else s1
  | none => s1

/-- The span a hoist's position is checked against: the old span for the victim of a SHRINKING handover
(07 R134). -/
def State.checkedSpan (s : State) (h : Hoist) : Span :=
  let hv := s.span.handover
  if hv.stage = .shrinking ∧ h = hv.taker.other then hv.old else s.spanOf h

/-- The position check of R134 against a given span. -/
def State.checkPosition (s : State) (h : Hoist) (p : Int) (sp : Span) : State :=
  if (s.hoist h).st = .offline ∨ s.line.st = .standby ∨ p = h.park ∨ sp.holds p = true then s
  else s.addCause .spanViolation

/-- A position recorded without a check. -/
def State.notePosition (s : State) (h : Hoist) (p : Option Int) : State :=
  s.setHoist h { s.hoist h with position := p }

/-- A reported position recorded and checked (06 R111, 07 R134). -/
def State.recordPosition (s : State) (h : Hoist) (p : Int) : State :=
  let s1 := s.notePosition h (some p)
  s1.checkPosition h p (s1.checkedSpan h)

/-! ### Outputs (08 R154, 09 R168, R169, 10 R179) -/

/-- The valve function of a station (08 R154). -/
def State.valveFunction (s : State) (n : Nat) : Bool :=
  let st := s.stations.get n
  let g := s.gens.get st.bath
  decide (st.kind = .bath) && decide (s.marks.get n = .joined) && g.running && g.burst && s.level Config.gasOk

/-- The permit function of a hoist (09 R168). -/
def State.permitFunction (s : State) (h : Hoist) : Bool :=
  (decide (s.line.st = .run) || decide (s.line.st = .hold))
    && (decide ((s.hoist h).st = .idle) || decide ((s.hoist h).st = .busy))

/-- How many racks carry OVERTIME among their current-step flags. -/
def State.overtimeRacks (s : State) : Nat :=
  (s.racks.indices (fun o => match o with | some r => decide (StepFlag.overtime ∈ r.flags) | none => false)).length

/-- The sounder function (09 R169). -/
def State.sounderFunction (s : State) : Bool := decide (s.line.st = .halt) || decide (0 < s.overtimeRacks)

/-- The function of an output line, computed in both modes (10 R179). -/
def State.outputFunction (s : State) (n : Nat) : Bool :=
  if n = Config.permitA then s.permitFunction .a
  else if n = Config.permitB then s.permitFunction .b
  else if n = Config.sounder then s.sounderFunction
  else s.valveFunction n

/-- The source of a line's commanded level: its latch in MANUAL mode, its function otherwise (10 R179). -/
def State.outputSource (s : State) (n : Nat) (o : Output) : Bool :=
  if o.mode = .manual then o.latch else s.outputFunction n

/-- Every commanded level follows its source; a change sets the line's run count to 0 (10 R179, R182). -/
def State.driveOutputs (s : State) : State :=
  { s with io := { s.io with outputs := s.io.outputs.mapIdx (fun n o =>
      if s.outputSource n o = o.commanded then o
      else { o with commanded := s.outputSource n o, run := 0 }) } }

/-! ### Running a command -/

/-- A command acts unless RESET is held low (11 R185, log 9). -/
def live (s : State) (f : State → State) : Host.Outcome State Fault Refusal :=
  .next (if s.resetHeld then s else f s)

/-- As `live`, with every commanded level brought to its source at the end (10 R179). -/
def liveDriven (s : State) (f : State → State) : Host.Outcome State Fault Refusal :=
  live s (fun s => (f s).driveOutputs)

end Sys2Proof.Machine
end

