-- ==== Sys2Proof/Machine/Chemistry.lean ====
section
/-! DEFINITION. The arithmetic of compensated immersion timing (03 R46 to R66) and of chemistry accounting
(04 R67 to R80): factor records, increments, targets, owed volume and the OWED message. -/

namespace Sys2Proof.Machine

/-! ### Rate factors (03 R46 to R53) -/

/-- A value brought into 256..4095 (03 R47, R50). -/
def clampFactor (x : Int) : Nat := if x < 256 then 256 else if 4095 < x then 4095 else x.toNat

/-- The quotient by 20 rounded to the nearest, halves away from zero (03 R47). -/
def roundBy20 (p : Int) : Int := if 0 ≤ p then (p + 10) / 20 else -((10 - p) / 20)

/-- Point F_k of a bath's table. -/
def Bath.point (b : Bath) (k : Nat) : Nat := b.points.getD k 1024

/-- The clamped temperature difference of R46. -/
def Bath.deltaT (b : Bath) (t : Int) : Int :=
  let d := t - (b.tRef : Int)
  if d < -80 then -80 else if 80 < d then 80 else d

/-- Whether R46 clamped the temperature difference. -/
def Bath.deltaClamped (b : Bath) (t : Int) : Bool :=
  decide (t - (b.tRef : Int) < -80) || decide (80 < t - (b.tRef : Int))

/-- The interpolated value of R47 before its clamp, for a temperature. -/
def Bath.interpolate (b : Bath) (t : Int) : Int :=
  let x := (b.deltaT t + 80).toNat
  let k := x / 20
  let r := x - 20 * k
  if k = 8 then (b.point 8 : Int)
  else (b.point k : Int) + roundBy20 (((b.point (k + 1) : Int) - (b.point k : Int)) * (r : Int))

/-- The temperature factor F_T with the temperature clamp indication (03 R46 to R48, R51). A bath in status
NONE runs at F_4. -/
def Bath.tempFactor (b : Bath) : Nat × Bool :=
  match b.status, b.temp with
  | .none, _ => (b.point 4, false)
  | _, none => (b.point 4, false)
  | _, some t =>
    let v := b.interpolate t
    (clampFactor v, b.deltaClamped t || decide (v < 256) || decide (4095 < v))

/-- The activity factor G with whether it was floored (03 R49). -/
def Bath.activityFactor (b : Bath) : Nat × Bool :=
  let q := b.owed * b.slope / 256
  if 512 < q then (512, true) else (1024 - q, false)

/-- The factor record of a bath record as it stands (03 R46 to R51). -/
def Bath.computeFactors (b : Bath) : Factors :=
  let ft := b.tempFactor
  let g := b.activityFactor
  let v := (ft.1 * g.1 + 512) / 1024
  { fT := ft.1, g := g.1, fTA := clampFactor v, tempClamp := ft.2,
    actClamp := g.2 || decide (v < 256) || decide (4095 < v) }

/-- The bath record with a new pending factor record (03 R53). -/
def Bath.computePending (b : Bath) : Bath := { b with pendingF := some b.computeFactors }

/-- The compensation unit computes a bath's pending factor record (03 R53). -/
def State.computePending (s : State) (b : Nat) : State := s.setBath b (s.baths.get b).computePending

/-- The load of a tick of phase 0 (03 R54). -/
def Bath.loadFactors (b : Bath) : Bath :=
  match b.pendingF with
  | some f => { b with active := f, pendingF := none }
  | none => b

/-! ### Accumulation, targets and prediction (03 R55 to R64) -/

/-- The factor a compensation takes from a factor record (03 R55). -/
def Factors.rate (f : Factors) : Compensation → Nat
  | .none => 1024
  | .temp => f.fT
  | .tempActivity => f.fTA

/-- The units gained at a tick of phase p under factor F (03 R56). -/
def increment (f p : Nat) : Nat := f / 16 + (if spread (f % 16) p then 1 else 0)

/-- Addition that stops at 4294967295 (03 R57). -/
def addSaturating (a d : Nat) : Nat := if Config.max32 < a + d then Config.max32 else a + d

/-- The target of a step for a rack's adjust (03 R59). -/
def RecipeStep.target (st : RecipeStep) (adjust : Int) : Nat :=
  if st.adjustable then ((st.nominal : Int) * 64 * (100 + adjust) / 100).toNat else st.nominal * 64

/-- A step is compensated: TEMP or TEMP_ACTIVITY (04 R72). -/
def RecipeStep.compensated (st : RecipeStep) : Bool := decide (st.comp ≠ .none)

/-- The bath of the station a rack is in (03 R55). -/
def State.bathOfRack (s : State) (r : Rack) : Nat := (s.stations.get (r.station.getD 0)).bath

/-- FACTOR_CLAMPED is due to a rack of this compensation under these active factors (03 R51). -/
def Factors.clampedFor (f : Factors) : Compensation → Bool
  | .none => false
  | .temp => f.tempClamp
  | .tempActivity => f.tempClamp || f.actClamp

/-- AGITATION_LOST is due to a rack in this station at a tick: its mark is WAITING or JOINED, and gas is
inactive, or its valve line is faulted or in MANUAL mode (08 R155, R156). -/
def State.agitationLostAt (s : State) (n : Nat) : Bool :=
  decide (s.marks.get n ≠ .out)
    && (!s.level Config.gasOk || (s.io.outputs.get n).faulted || decide ((s.io.outputs.get n).mode = .manual))

/-- A flag added where a condition holds. -/
def addFlagIf (c : Bool) (f : StepFlag) (fs : List StepFlag) : List StepFlag := if c then f.addTo fs else fs

/-- A rack in a bath advanced by one tick: units, FACTOR_CLAMPED, STALE_TEMPERATURE and AGITATION_LOST
(03 R51, R56, 04 R72, 08 R155, R156). Other racks are not advanced. -/
def State.advanceRack (s : State) (r : Rack) : Rack :=
  if r.inBath then
    match s.currentStep r with
    | some st =>
      let b := s.baths.get (s.bathOfRack r)
      { r with
        acc := addSaturating r.acc (increment (b.active.rate st.comp) s.phase)
        flags := addFlagIf (s.agitationLostAt (r.station.getD 0)) .agitationLost
          (addFlagIf (st.compensated && decide (Config.staleAt ≤ b.staleCount) && decide (b.status ≠ .none))
            .staleTemperature
            (addFlagIf (b.active.clampedFor st.comp) .factorClamped r.flags)) }
    | none => r
  else r

/-- The factor a prediction uses: the pending record's where present (03 R64). -/
def State.predictionFactor (s : State) (r : Rack) (st : RecipeStep) : Nat :=
  let b := s.baths.get (s.bathOfRack r)
  (b.pendingF.getD b.active).rate st.comp

/-- Remaining ticks of an IMMERSED rack (03 R64). -/
def State.remainingTicks (s : State) (r : Rack) : Nat :=
  match s.currentStep r with
  | some st =>
    let f := s.predictionFactor r st
    ((r.target - r.acc) * 16 + (f - 1)) / f
  | none => 0

/-! ### Owed volume (04 R75 to R79) -/

/-- The frame is an OWED for this bath. -/
def OutMsg.isOwed (m : OutMsg) (b : Nat) : Bool :=
  match m with
  | .owed c _ => decide (c = b)
  | _ => false

/-- How many frames of the cabinet queue are past changing: the one being sent (04 R77, 11 R192). -/
def Link.begun (l : Link) : Nat := if l.engine = .sending 2 then 1 else 0

/-- An OWED for this bath waits and its sending has not begun (04 R77). -/
def Link.owedWaits (l : Link) (b : Nat) : Bool :=
  ((l.channels.get 2).queue.drop l.begun).any (fun q => q.msg.isOwed b)

/-- The waiting OWED for this bath carries a new figure and keeps its place (04 R77). -/
def Link.replaceOwed (l : Link) (b volume : Nat) : Link :=
  { l with channels := l.channels.modify 2 (fun ch =>
      { ch with queue := ch.queue.take l.begun ++
          (ch.queue.drop l.begun).map (fun q =>
            if q.msg.isOwed b then { q with msg := .owed b volume } else q) }) }

/-- An OWED is queued, replaces a waiting one, or sets the bath's owed unsent mark (04 R77). -/
def State.sendOwed (s : State) (b : Nat) : State :=
  let x := s.baths.get b
  if s.link.owedWaits b then { s with link := s.link.replaceOwed b x.owed }
  else if s.link.held 2 < Config.hoistPlaces then { s with link := s.link.push 2 (.owed b x.owed) }
  else s.setBath b { x with owedUnsent := true }

/-- The lowest-numbered bath with owed unsent set. -/
def State.firstUnsent (s : State) : Option Nat := (s.baths.indices (·.owedUnsent)).head?

/-- A place freed in the cabinet queue goes to the lowest-numbered marked bath (04 R77). -/
def State.serveUnsent (s : State) : State :=
  match s.firstUnsent with
  | some b =>
    let x := s.baths.get b
    { s.setBath b { x with owedUnsent := false } with link := s.link.push 2 (.owed b x.owed) }
  | none => s

/-- The charge of R75 on a bath record, before its pending factor record is computed. -/
def Bath.charge (b : Bath) (area : Nat) : Bath :=
  let product := area * b.rho + b.remainder
  { b with
    owed := if Config.max16 < b.owed + product / 1000 then Config.max16 else b.owed + product / 1000
    remainder := product % 1000 }

/-- A bath is charged for a rack's area: E and the remainder, a pending factor record, OWED (04 R75). -/
def State.chargeBath (s : State) (b area : Nat) : State :=
  (s.setBath b ((s.baths.get b).charge area).computePending).sendOwed b

/-! ### TEMP_STALE (04 R73) and the bound conditions (09 R159) -/

/-- A rack IMMERSED or DUE in a station of this bath in a compensated step. -/
def State.compensatedIn (s : State) (b : Nat) (r : Rack) : Bool :=
  r.inBath && decide (s.bathOfRack r = b) &&
    (match s.currentStep r with
     | some st => st.compensated
     | none => false)

/-- Some rack is in a compensated step of this bath. -/
def State.bathCompensates (s : State) (b : Nat) : Bool :=
  s.racks.toList.any (fun o => match o with | some r => s.compensatedIn b r | none => false)

/-- The condition a cause is bound to, evaluated now; none for a cause bound to nothing (09 R159). -/
def State.boundCondition (s : State) (c : Cause) : Option Bool :=
  match c with
  | .pauseInput => some (s.level Config.pause)
  | .gasLow => some (!s.level Config.gasOk)
  | .tempStale =>
    some ((List.range Config.baths).any (fun b =>
      decide ((s.baths.get b).status = .lapsed) && s.bathCompensates b))
  | .hoistAFault => some (decide (s.hoistA.st = .fault))
  | .hoistBFault => some (decide (s.hoistB.st = .fault))
  | .estop => some (s.level Config.eStop)
  | _ => none

end Sys2Proof.Machine
end

