-- ==== Sys2Proof/Machine/Requests.lean ====
section
/-! DEFINITION. Shared operations of the dispatcher and of admission: urgency keys, destinations, the creation,
return and retry of move requests, the line margin, area in flight, the admission test, admission and the
retest of the queue's head (05 R83 to R104, 02 R28 to R40). -/

namespace Sys2Proof.Machine

/-! ### Keys (05 R90, R91) -/

/-- Predicted due tick of a rack with a request (03 R64, 05 R90). A rack AT_LOAD takes the tick of the request's
creation; a CARRIED, STRANDED or AT_UNLOAD rack has none (R64; log 34). -/
def State.predictedDue (s : State) (r : Rack) (q : Request) : Option TickCount :=
  match r.st with
  | .immersed => some (later s.tick (s.remainingTicks r))
  | .due => some (r.dueTick.getD s.tick)
  | .atLoad => some q.created
  | .carried | .atUnload | .stranded => none

/-- Latest lift tick of a rack in a bath; none where the tolerance is unlimited or there is no step
(05 R90). A CARRIED rack is in no bath and has none, so its request sorts after those with one (log 34). -/
def State.latestLift (s : State) (r : Rack) : Option TickCount :=
  if r.inBath then
    match s.currentStep r with
    | some st =>
      if st.tolerance = Config.unlimited then none
      else
        let due := if r.st = .immersed then later s.tick (s.remainingTicks r) else r.dueTick.getD s.tick
        some (later due st.tolerance)
    | none => none
  else none

/-- Place of a class in the urgency order, CRITICAL first (05 R91). -/
def classRank : StepClass → Nat
  | .critical => 0
  | .firm => 1
  | .loose => 2
  | .openEnded => 3

/-- The keys a request is ordered by (05 R91). -/
structure UrgencyKey where
  slot   : Nat
  latest : Option TickCount
  cls    : StepClass
  seq    : Sequence
deriving DecidableEq, Repr, Inhabited

/-- Ascending latest lift tick, requests without one last (05 R91). -/
def compareLatest : Option TickCount → Option TickCount → Ordering
  | some a, some b => if earlier a b then .lt else if earlier b a then .gt else .eq
  | some _, none => .lt
  | none, some _ => .gt
  | none, none => .eq

/-- Ascending class (05 R91). -/
def compareClass (a b : StepClass) : Ordering := compare (classRank a) (classRank b)

/-- The older rack first (05 R91). -/
def compareAge (a b : Sequence) : Ordering := if older a b then .lt else if older b a then .gt else .eq

/-- The urgency order in a mode (05 R91). -/
def UrgencyKey.before (mode : UrgencyMode) (a b : UrgencyKey) : Bool :=
  let l := compareLatest a.latest b.latest
  let c := compareClass a.cls b.cls
  let o := match mode with
    | .deadline => (l.then c).then (compareAge a.seq b.seq)
    | .byClass => (c.then l).then (compareAge a.seq b.seq)
  decide (o = .lt)

/-- The key of the request in a slot, none where there is no request or no rack. -/
def State.urgencyKey (s : State) (slot : Nat) : Option UrgencyKey :=
  match s.requests.get slot, s.racks.get slot with
  | some q, some r => some { slot := slot, latest := s.latestLift r, cls := q.cls, seq := r.seq }
  | _, _ => none

/-- The slots with a request, in urgency order as the keys stand now (05 R83, R91). -/
def State.urgencyOrder (s : State) : List Nat :=
  (sortBy (UrgencyKey.before s.dispatcher.mode)
    ((s.requests.indices Option.isSome).filterMap s.urgencyKey)).map (·.slot)

/-! ### Destinations (05 R88, R89) -/

/-- What station a rack needs next. -/
inductive Wanted where
  | bathStation (bath : Nat) | unloadStation | nothing
deriving DecidableEq, Repr, Inhabited

/-- The kind of station the rack needs next, from its step index (05 R88). -/
def State.wanted (s : State) (r : Rack) : Wanted :=
  if r.stepIdx = s.stepCount r then .unloadStation
  else match s.recipeStep r.recipe (r.stepIdx + 1) with
    | some st => .bathStation st.bath
    | none => .nothing

/-- A station is of the kind wanted. -/
def Station.fits (st : Station) : Wanted → Bool
  | .bathStation b => decide (st.kind = .bath) && decide (st.bath = b)
  | .unloadStation => decide (st.kind = .unload)
  | .nothing => false

/-- A station is free for the dispatcher: EMPTY and in service (01 R2). -/
def Station.isFree (st : Station) : Bool := decide (st.occ = .empty) && st.inService

/-- Distance between two stations. -/
def distance (a b : Nat) : Nat := ((a : Int) - (b : Int)).natAbs

/-- Of two candidates the nearer to the source; the first where they are equally near. -/
def nearer (source : Nat) (best : Option Nat) (n : Nat) : Option Nat :=
  match best with
  | none => some n
  | some m => if distance source n < distance source m then some n else some m

/-- The free station of the wanted kind nearest the source, the lower-numbered of two equally near (05 R88). -/
def State.nearestFree (s : State) (w : Wanted) (source : Nat) : Option Nat :=
  (s.stations.indices (fun st => st.isFree && st.fits w)).foldl (nearer source) none

/-- The destination choice for the request in a slot: a station RESERVED and the request READY, or the request
BLOCKED (05 R88). -/
def State.chooseDestination (s : State) (slot : Nat) : State :=
  match s.requests.get slot, s.racks.get slot with
  | some q, some r =>
    match s.nearestFree (s.wanted r) q.source with
    | some d =>
      ((s.setOcc d (.reservedRack slot)).setRack slot (some { r with dest := some d })).setRequest slot
        (some { q with dest := some d, st := .ready })
    | none => s.setRequest slot (some { q with dest := none, st := .blocked })
  | _, _ => s

/-- The class a request for a rack is created with (05 R84). -/
def State.requestClass (s : State) (r : Rack) : StepClass :=
  match s.currentStep r with
  | some st => st.cls
  | none => .openEnded

/-- A request created for the rack in a slot, which has none, with its destination chosen at once
(05 R86, R87, R88). -/
def State.createRequest (s : State) (slot : Nat) : State :=
  match s.racks.get slot with
  | some r =>
    (s.setRequest slot (some
      { source := r.station.getD 0, dest := none, cls := s.requestClass r, created := s.tick, st := .blocked,
        markA := none, markB := none })).chooseDestination slot
  | none => s

/-- The BLOCKED requests that want a station of this record's kind and bath. -/
def State.blockedFor (s : State) (st : Station) (slot : Nat) : Bool :=
  match s.requests.get slot, s.racks.get slot with
  | some q, some r => decide (q.st = .blocked) && st.fits (s.wanted r)
  | _, _ => false

/-- One BLOCKED request retries; becoming READY triggers a pass (05 R89). -/
def State.retryOne (s : State) (slot : Nat) : State :=
  let s1 := s.chooseDestination slot
  match s1.requests.get slot with
  | some q => if q.st = .ready then s1.triggerPass else s1
  | none => s1

/-- A station has become free: matching BLOCKED requests retry in urgency order (05 R89). -/
def State.retryBlocked (s : State) (n : Nat) : State :=
  let st := s.stations.get n
  if st.isFree then (s.urgencyOrder.filter (s.blockedFor st)).foldl State.retryOne s else s

/-- A request goes back to READY, keeping its destination and marks (05 R101). -/
def State.returnRequest (s : State) (slot : Nat) : State :=
  match s.requests.get slot with
  | some q => s.setRequest slot (some { q with st := .ready })
  | none => s

/-- A request removed; a handover bound to it loses it (05 R102, 07 R135). -/
def State.removeRequest (s : State) (slot : Nat) : State :=
  let s1 := s.setRequest slot none
  if s.span.handover.bound = some slot then s1.setHandover { s1.span.handover with bound := none } else s1

/-! ### Line margin (05 R103) -/

/-- The time a rack has left before its latest lift, where it counts toward the line margin (05 R103). -/
def State.rackMargin (s : State) (r : Rack) : Option Int :=
  match s.currentStep r with
  | some st =>
    if st.cls = .critical then (s.latestLift r).map (fun t => tickDiff t s.tick) else none
  | none => none

/-- The smaller of two margins with their slots, the first where they are equal. -/
def lesserMargin (best : Option (Int × Nat)) (m : Option Int × Nat) : Option (Int × Nat) :=
  match best, m.1 with
  | none, some x => some (x, m.2)
  | some b, some x => if x < b.1 then some (x, m.2) else some b
  | b, none => b

/-- The line margin with the slot of the margin rack; none is unbounded (05 R103). -/
def State.lineMargin (s : State) : Option (Int × Nat) :=
  (s.racks.toList.zipIdx.map (fun p =>
    (match p.1 with | some r => s.rackMargin r | none => none, p.2))).foldl lesserMargin none

/-! ### Area in flight and reference counts (02 R39, 01 R14) -/

/-- The first unfinished step of a rack, past the last for a rack with none (02 R39). -/
def State.firstUnfinished (s : State) (r : Rack) : Nat :=
  if r.st = .atUnload then s.stepCount r + 1
  else if r.lifted then r.stepIdx + 1
  else if r.stepIdx = 0 then 1 else r.stepIdx

/-- Bath b is used by a step from number k on (02 R39). -/
def State.usedFrom (s : State) (recipe k b : Nat) : Bool :=
  ((s.recipes.get recipe).steps.drop (k - 1)).any (fun st => decide (st.bath = b))

/-- The baths of a rack's unfinished steps: b is among them (02 R39). -/
def State.unfinishedIn (s : State) (r : Rack) (b : Nat) : Bool := s.usedFrom r.recipe (s.firstUnfinished r) b

/-- Every bath for which p holds has its area in flight raised. -/
def State.raiseArea (s : State) (p : Nat → Bool) (area : Nat) : State :=
  { s with baths := s.baths.mapIdx (fun b x =>
      if p b then { x with areaInFlight := x.areaInFlight + area } else x) }

/-- Every bath for which p holds has its area in flight lowered. -/
def State.lowerArea (s : State) (p : Nat → Bool) (area : Nat) : State :=
  { s with baths := s.baths.mapIdx (fun b x =>
      if p b then { x with areaInFlight := x.areaInFlight - area } else x) }

/-- A recipe's reference count rises by one (01 R14). -/
def State.raiseRefs (s : State) (recipe : Nat) : State :=
  s.setRecipe recipe { s.recipes.get recipe with refs := (s.recipes.get recipe).refs + 1 }

/-- A recipe's reference count falls by one (01 R14). -/
def State.lowerRefs (s : State) (recipe : Nat) : State :=
  s.setRecipe recipe { s.recipes.get recipe with refs := (s.recipes.get recipe).refs - 1 }

/-! ### Admission (02 R30, R31, R40) -/

/-- The limit of a bath in the admission test (02 R30). -/
def Bath.areaLimit (b : Bath) : Nat := if b.threshold = 0 then 65535 else b.threshold

/-- Item 4 of the admission test: every bath the recipe names stays within its limit (02 R30). -/
def State.areaFits (s : State) (e : QueueEntry) : Bool :=
  (List.range Config.baths).all (fun b =>
    !s.usedFrom e.recipe 1 b || decide ((s.baths.get b).areaInFlight + e.area ≤ (s.baths.get b).areaLimit))

/-- Item 3 of the admission test (02 R30). -/
def State.marginAllows (s : State) : Bool :=
  match s.lineMargin with
  | none => true
  | some m => decide ((s.dispatcher.admitMargin : Int) ≤ m.1)

/-- A load station's seat input is seated, or is not sensed (02 R29, R30). -/
def State.loadSeated (s : State) (load : Nat) : Bool := !(s.stations.get load).sensing || s.level load

/-- The admission test (02 R30). -/
def State.admissionTest (s : State) (e : QueueEntry) : Bool :=
  s.freeSlot.isSome && (decide (s.line.st = .run) || decide (s.line.st = .hold)) && s.marginAllows
    && s.areaFits e && s.loadSeated e.load

/-- The record of R31, step 1. -/
def QueueEntry.rack (e : QueueEntry) (seq : Sequence) : Rack where
  id := e.id
  recipe := e.recipe
  load := e.load
  area := e.area
  adjust := e.adjust
  seq := seq
  st := .atLoad
  stepIdx := 0
  station := some e.load
  dest := none
  acc := 0
  target := 0
  dueTick := none
  overrun := 0
  flags := []
  history := []
  lifted := false

/-- Steps 1 to 3 and 5 of admission, for the slot given: the record, the load station, the areas, the request
with its trigger of a pass (02 R31, 05 R86). -/
def State.placeAdmitted (s : State) (e : QueueEntry) (slot : Nat) : State :=
  let q := nextSequence s.seqCounter
  let s1 := { s.setRack slot (some (e.rack q)) with seqCounter := q }
  let s2 := (s1.setOcc e.load (.occupied slot)).raiseArea (s1.usedFrom e.recipe 1) e.area
  (s2.createRequest slot).triggerPass

/-- The ADMITTED notice of the rack in a slot (02 R27, R31). -/
def State.noticeAdmitted (s : State) (slot : Nat) : State :=
  match s.racks.get slot with
  | some r => s.rackNotice (.admitted r.seq r.load) slot r r.station
  | none => s

/-- The head of the queue is tested, and entries are admitted until a test fails; n bounds the entries
(02 R40). -/
def State.retestFrom (s : State) : Nat → State
  | 0 => s
  | n + 1 =>
    match s.queue with
    | [] => s
    | e :: rest =>
      if s.admissionTest e then
        match s.freeSlot with
        | some slot =>
          State.retestFrom ((({ s with queue := rest } : State).placeAdmitted e slot).noticeAdmitted slot) n
        | none => s
      else s

/-- A retest of the head of the admission queue (02 R40). -/
def State.retestHead (s : State) : State := s.retestFrom s.queue.length

end Sys2Proof.Machine
end

