-- ==== Sys2Proof/Machine/Spans.lean ====
section
/-! DEFINITION. Rail spans and the handover (07 R130 to R145), and the opening of a hoist order (06 R112), which
a handover done leads to. -/

namespace Sys2Proof.Machine

/-! ### Reach (05 R92) -/

/-- The span the dispatcher reckons reach with: the narrowed span for the victim of a handover in progress
(05 R92, 07 R136). -/
def State.effectiveSpan (s : State) (h : Hoist) : Span :=
  let hv := s.span.handover
  if hv.stage ≠ .none ∧ h = hv.taker.other then hv.narrowed else s.spanOf h

/-- Both ends of a move lie in a span (05 R92). -/
def Span.covers (sp : Span) (source dest : Nat) : Bool := sp.holds source && sp.holds dest

/-- The move lies within a hoist's effective span (05 R92). -/
def State.within (s : State) (h : Hoist) (source dest : Nat) : Bool := (s.effectiveSpan h).covers source dest

/-- A handover can start for a hoist, for a move that is not within its effective span (05 R92). -/
def State.canHandover (s : State) (h : Hoist) (source dest : Nat) : Bool :=
  let v := s.hoist h.other
  !s.within h source dest
    && decide (s.span.handover.stage = .none)
    && !(decide (v.st = .fault) || (decide (v.st = .offline) && !v.released))
    && !((decide (v.st = .idle) || decide (v.st = .busy)) && s.within h.other source dest)

/-- The stations a handover adds to a hoist's span (05 R92). -/
def State.stationsAdded (s : State) (h : Hoist) (source dest : Nat) : Int :=
  match h, s.spanOf h with
  | .a, .empty => (max source dest : Int) + 1
  | .a, .range _ hi => (max source dest : Int) - hi
  | .b, .empty => 32 - (min source dest : Int)
  | .b, .range lo _ => (lo : Int) - (min source dest : Int)

/-- The widened span of a taker (07 R136). -/
def widenedSpan (taker : Hoist) (source dest : Nat) : Span :=
  match taker with
  | .a => .range 0 (max source dest)
  | .b => .range (min source dest) 31

/-- The narrowed span of the victim, from its recorded span and the guard gap (07 R136). -/
def narrowedSpan (taker : Hoist) (guardGap source dest : Nat) (old : Span) : Span :=
  match taker, old with
  | _, .empty => .empty
  | .a, .range lo _ =>
    let low := max lo (max source dest + guardGap + 1)
    if 31 < low then .empty else .range low 31
  | .b, .range _ hi =>
    let high : Int := min (hi : Int) ((min source dest : Int) - (guardGap : Int) - 1)
    if high < 0 then .empty else .range 0 high.toNat

/-! ### Opening an order (06 R112) -/

/-- The rack's next step is a CRITICAL step (05 R95). -/
def State.nextCritical (s : State) (r : Rack) : Bool :=
  if r.stepIdx = s.stepCount r then false
  else match s.recipeStep r.recipe (r.stepIdx + 1) with
    | some st => decide (st.cls = .critical)
    | none => false

/-- The drain time of a rack's current step, 0 at its load station (05 R96, 06 R112). -/
def State.drainOf (s : State) (r : Rack) : Nat :=
  match s.currentStep r with
  | some st => st.drain
  | none => 0

/-- The order of R112, in phase SENT. -/
def newOrder (number slot source drain dest : Nat) : Order where
  number := number
  slot := slot
  source := source
  drain := drain
  dest := dest
  phase := .sent
  cancelOut := false
  cancelCrossed := false

/-- The request in a slot becomes ORDERED(h) and the hoist channel opens its order: number, record, BUSY, MOVE
and the SENT timer (05 R98, 06 R112). -/
def State.openOrder (s : State) (h : Hoist) (slot : Nat) : State :=
  match s.requests.get slot, s.racks.get slot with
  | some q, some r =>
    let x := s.hoist h
    let number := nextNumber x.lastOrder
    let d := q.dest.getD 0
    let drain := s.drainOf r
    let s1 := (s.setRequest slot (some { q with st := .ordered h })).setHoist h
      { x with st := .busy, lastOrder := number, order := some (newOrder number slot q.source drain d) }
    (s1.sendHoist h (.move number q.source drain d)).setTimer h x.timing.acceptTime
  | _, _ => s

/-- The line state lets a request be given for this rack: RUN, or HOLD with a next step that is not CRITICAL
(05 R93, R95, R99). -/
def State.lineAllows (s : State) (r : Rack) : Bool :=
  decide (s.line.st = .run) || (decide (s.line.st = .hold) && !s.nextCritical r)

/-! ### The handover (07 R135 to R143) -/

/-- The acknowledgement of the SPAN just sent to a hoist is awaited under its timer, set suspended in HALT
(07 R139, R141, R143). -/
def State.awaitAck (s : State) (h : Hoist) : State :=
  s.setHandover { s.span.handover with
    awaited := some (h, s.seqOf h)
    timer := some (s.hoist h).timing.spanAck
    suspended := decide (s.line.st = .halt) }

/-- SHRINKING begins (07 R139). -/
def State.beginShrinking (s : State) : State :=
  let hv := s.span.handover
  let v := hv.taker.other
  let s1 := (s.setHandover { hv with stage := .shrinking }).setSpan v hv.narrowed
  (s1.sendSpan v).awaitAck v

/-- WIDENING begins: the taker's span becomes the widened span and SPAN is queued to it (07 R137, R139). -/
def State.beginWidening (s : State) : State :=
  let hv := s.span.handover
  let s1 := (s.setHandover { hv with stage := .widening, awaited := none, timer := none }).setSpan hv.taker hv.widened
  (s1.sendSpan hv.taker).awaitAck hv.taker

/-- An open order reaches outside a span (07 R137). -/
def Order.outside (o : Order) (sp : Span) : Bool := !sp.covers o.source o.dest

/-- Whether a hoist has an open order that reaches outside a span (07 R137). -/
def HoistRec.ordersOutside (x : HoistRec) (sp : Span) : Bool :=
  match x.order with
  | some o => o.outside sp
  | none => false

/-- The record a handover starts with (07 R135, R136). -/
def startRecord (taker : Hoist) (slot : Nat) (widened narrowed old : Span) : Handover where
  stage := .waiting
  taker := taker
  bound := some slot
  widened := widened
  narrowed := narrowed
  old := old
  awaited := none
  timer := none
  suspended := false
  withdrawn := false

/-- The request in a slot becomes BOUND(h) and a handover starts with h as taker (05 R98, 07 R136, R137). -/
def State.startHandover (s : State) (h : Hoist) (slot : Nat) : State :=
  match s.requests.get slot with
  | some q =>
    let d := q.dest.getD 0
    let old := s.spanOf h.other
    let narrowed := narrowedSpan h s.span.guardGap q.source d old
    let s1 := (s.setRequest slot (some { q with st := .bound h })).setHandover
      (startRecord h slot (widenedSpan h q.source d) narrowed old)
    if narrowed = old then s1.beginWidening
    else if (s.hoist h.other).ordersOutside narrowed then s1
    else s1.beginShrinking
  | none => s

/-- The BOUND request of the handover, if still in the queue, returns to READY (05 R99, R101). -/
def State.returnBound (s : State) : State :=
  match s.span.handover.bound with
  | some slot => s.returnRequest slot
  | none => s

/-- The handover ends with no further effect on the spans, and a pass is triggered (07 R139, R142). -/
def State.endHandover (s : State) : State := (s.setHandover Handover.blank).triggerPass

/-- The handover is abandoned (07 R142). -/
def State.abandon (s : State) : State := s.returnBound.endHandover

/-- A hoist has entered FAULT: a handover it is a party to is abandoned, but for a taker's fault while the
victim is still SHRINKING and not in FAULT, which withdraws the taker (07 R142). The bound request of the record
becomes none at the withdrawal, as its request has been returned (log 37). -/
def State.handoverFault (s : State) (h : Hoist) : State :=
  let hv := s.span.handover
  if hv.stage = .none then s
  else if hv.stage = .shrinking ∧ h = hv.taker ∧ (s.hoist hv.taker.other).st ≠ .fault then
    let s1 := s.returnBound
    (s1.setHandover { s1.span.handover with withdrawn := true, bound := none }).triggerPass
  else s.abandon

/-- The dispatcher takes the BOUND request of a handover that is done, and a pass is triggered (05 R99). -/
def State.completeBound (s : State) (taker : Hoist) (bound : Option Nat) : State :=
  (match bound with
    | some slot =>
      match s.requests.get slot, s.racks.get slot with
      | some _, some r => if s.lineAllows r then s.openOrder taker slot else s.returnRequest slot
      | _, _ => s
    | none => s).triggerPass

/-- The acknowledgement SHRINKING awaits is taken with the victim's position (07 R139). Where the taker is withdrawn and
the position is a violation, R139 only says that the handover ends: the model triggers a pass there too (log 45). -/
def State.ackShrinking (s : State) (v : Hoist) (p : Int) : State :=
  let hv := s.span.handover
  let s1 := (s.setHandover { hv with awaited := none, timer := none, suspended := false }).notePosition v (some p)
  if hv.narrowed.holds p = true ∨ p = v.park then
    if hv.withdrawn then s1.endHandover else s1.beginWidening
  else
    let s2 := s1.checkPosition v p hv.narrowed
    if hv.withdrawn then s2.endHandover else s2.abandon

/-- The acknowledgement WIDENING awaits is taken: the handover is done (07 R140). -/
def State.ackWidening (s : State) (p : Int) : State :=
  let hv := s.span.handover
  ((s.setHandover Handover.blank).recordPosition hv.taker p).completeBound hv.taker hv.bound

/-- SPAN ACK (07 R132, R139, R140). -/
def State.takeSpanAck (s : State) (h : Hoist) (sequence : Nat) (position : Option Int) : State :=
  match readPosition position with
  | none => s.stray h
  | some p =>
    if sequence ≠ s.seqOf h ∨ sequence = 0 then s.stray h
    else if s.span.handover.awaited = some (h, sequence) then
      match s.span.handover.stage with
      | .shrinking => s.ackShrinking h p
      | .widening => s.ackWidening p
      | _ => s.recordPosition h p
    else s.recordPosition h p

/-- HOIST RELEASE and LINE CLEAR empty a span (07 R144, R145). -/
def State.emptySpan (s : State) (h : Hoist) : State := s.setSpan h .empty

/-- The initial grant of R133 for the hoists that are IDLE, with SPAN to each of them. The rule gives no order between
the two SPANs: the model queues A's first (log 41). -/
def State.initialGrant (s : State) : State :=
  let a := decide (s.hoistA.st = .idle)
  let b := decide (s.hoistB.st = .idle)
  let spanA := if a then (if b then Span.range 0 (s.span.split - 1) else .range 0 31) else .empty
  let spanB := if b then (if a then Span.range (s.span.split + s.span.guardGap) 31 else .range 0 31) else .empty
  let s1 := (s.setSpan .a spanA).setSpan .b spanB
  let s2 := if a then s1.sendSpan .a else s1
  if b then s2.sendSpan .b else s2

end Sys2Proof.Machine
end

