-- ==== Sys2Proof/Machine/Moves.lean ====
section
/-! DEFINITION. What hoists do to racks: the release of LIFT, the lift, the placement, the freeing of a record,
the closing of an order by a fault and the entry into FAULT (02 R34, R35, 06 R115 to R124). -/

namespace Sys2Proof.Machine

/-! ### Idle (06 R108, 07 R138) -/

/-- A hoist's order closes and it becomes IDLE, which triggers a pass; where a handover was WAITING for this
order, SHRINKING begins at once (06 R108, 07 R138). -/
def State.becomeIdle (s : State) (h : Hoist) : State :=
  let s1 := (s.setHoist h { s.hoist h with st := .idle, order := none, timer := none }).triggerPass
  if s1.span.handover.stage = .waiting ∧ h = s1.span.handover.taker.other then s1.beginShrinking else s1

/-! ### LIFT and the lift (06 R115 to R117) -/

/-- A rack is ready to lift: DUE, or AT_LOAD (06 R115). -/
def Rack.readyToLift (r : Rack) : Bool := decide (r.st = .due) || decide (r.st = .atLoad)

/-- A station leaves its agitation generator and its seat window closes without a flag (08 R153, 10 R177). -/
def State.leaveStation (s : State) (n : Nat) : State := (s.setMark n .out).setWindow n none

/-- LIFT is queued for a hoist's open order (06 R115). -/
def State.releaseLift (s : State) (h : Hoist) : State :=
  match (s.hoist h).order with
  | some o =>
    let s1 := s.setHoist h { s.hoist h with order := some { o with phase := .released } }
    ((s1.sendHoist h (.lift o.number)).setTimer h (s.hoist h).timing.lift).leaveStation o.source
  | none => s

/-- The rack record after a lift: CARRIED, its history entry appended for a bath step, its flags emptied
(02 R25, R26). -/
def Rack.afterLift (r : Rack) (source : Nat) : Rack :=
  { r with
    st := .carried
    station := none
    flags := []
    lifted := true
    history :=
      if r.inBath then
        r.history ++ [{ step := r.stepIdx, station := source, acc := r.acc, overrun := r.overrun, flags := r.flags }]
      else r.history }

/-- The STEP_ENDED event of a lift, with the figures the step ended with (02 R26). -/
def Rack.stepEnded (r : Rack) (source : Nat) : RackEvent := .stepEnded r.stepIdx source r.acc r.overrun r.flags

/-- The order after LIFTED: phase LIFTED; a cancel outstanding has been crossed by the lift (06 R116, R122). -/
def Order.afterLift (o : Order) : Order :=
  { o with phase := .lifted, cancelOut := false, cancelCrossed := o.cancelCrossed || o.cancelOut }

/-- The timer that runs from LIFTED (06 R113). -/
def HoistRec.liftedTime (x : HoistRec) (o : Order) : Nat :=
  o.drain + x.travel o.source o.dest + x.timing.place + x.timing.approach

/-- Area in flight falls where no later step of the recipe uses the bath just left (02 R39). -/
def State.lowerAfterLift (s : State) (r : Rack) (b : Nat) : State :=
  s.lowerArea (fun c => decide (c = b) && !s.usedFrom r.recipe (r.stepIdx + 1) b) r.area

/-- Steps 2 to 5 of a lift, for the rack in a slot (06 R116): the rack, the station with its retries, the charge
and the area, the retest of the queue's head. -/
def State.liftRack (s : State) (slot source : Nat) : State :=
  match s.racks.get slot with
  | some r =>
    let after := r.afterLift source
    let s1 := (s.setRack slot (some after)).rackNotice (r.stepEnded source) slot after none
    let s2 := ((s1.setOcc source .empty).leaveStation source).retryBlocked source
    if r.inBath then
      let b := (s.stations.get source).bath
      ((s2.chargeBath b r.area).lowerAfterLift r b).retestHead
    else s2
  | none => s

/-- LIFTED taken for a hoist's open order; early when no LIFT was sent (06 R116, R117). -/
def State.doLift (s : State) (h : Hoist) (early : Bool) : State :=
  match (s.hoist h).order with
  | some o =>
    let s1 := (s.setHoist h { s.hoist h with order := some o.afterLift }).setTimer h ((s.hoist h).liftedTime o)
    (if early then s1.addFlag o.slot .earlyLift else s1).liftRack o.slot o.source
  | none => s

/-! ### Freeing a record (02 R35) -/

/-- The open order of a rack whose record is freed is closed at once with CANCEL (02 R35 step 1, 06 R121). -/
def State.cancelOnFreeing (s : State) (slot : Nat) : State :=
  match s.orderFor slot with
  | some (h, o) => (s.sendHoist h (.cancel o.number)).becomeIdle h
  | none => s

/-- A station becomes EMPTY, where one is named (02 R35 step 3). -/
def State.emptyStation (s : State) (n : Option Nat) : State :=
  match n with
  | some n => s.setOcc n .empty
  | none => s

/-- A station leaves its generator and its window closes, where one is named (02 R35 step 4). -/
def State.leaveIf (s : State) (n : Option Nat) : State :=
  match n with
  | some n => s.leaveStation n
  | none => s

/-- BLOCKED requests retry for a station that has become free, where one is named (05 R89). -/
def State.retryIf (s : State) (n : Option Nat) : State :=
  match n with
  | some n => s.retryBlocked n
  | none => s

/-- A RACK notice queued, where the departure has one of its own left to send (02 R34, R35 step 7). -/
def State.noticeIf (s : State) (ev : Option RackEvent) (slot : Nat) (r : Rack) : State :=
  match ev with
  | some e => s.rackNotice e slot r r.station
  | none => s

/-- The eight steps of R35 for the record r in a slot, without the retries and the retest that follow. -/
def State.dropRack (s : State) (slot : Nat) (r : Rack) (ev : Option RackEvent) : State :=
  let s1 := (s.cancelOnFreeing slot).removeRequest slot
  let s2 := ((s1.emptyStation r.station).emptyStation r.dest).leaveIf r.station
  let s3 := (s2.lowerArea (s2.unfinishedIn r) r.area).lowerRefs r.recipe
  (s3.noticeIf ev slot r).setRack slot none

/-- The record in a slot freed, with the retries for its stations and the retest of the queue's head
(02 R35, R40, 05 R89). -/
def State.freeRack (s : State) (slot : Nat) (ev : Option RackEvent) : State :=
  match s.racks.get slot with
  | some r => (((s.dropRack slot r ev).retryIf r.station).retryIf r.dest).retestHead
  | none => s

/-! ### Placement (06 R118) -/

/-- The rack record as it begins its next step at a station (03 R66). -/
def Rack.begin (r : Rack) (station : Nat) (atBath : Bool) (target : Nat) : Rack :=
  { r with
    st := if atBath then .immersed else .atUnload
    stepIdx := r.stepIdx + 1
    station := some station
    dest := none
    acc := 0
    target := target
    dueTick := none
    overrun := 0
    flags := []
    lifted := false }

/-- The target of step k for a rack, 0 where there is no such step (03 R59). -/
def State.targetOf (s : State) (r : Rack) (k : Nat) : Nat :=
  match s.recipeStep r.recipe k with
  | some st => st.target r.adjust
  | none => 0

/-- A rack begun in a step at a BATH station: TEMP_STALE for a compensated step of a LAPSED bath (04 R73), and
the station WAITING for its generator when the step agitates (08 R152). -/
def State.beginImmersion (s : State) (recipe k station : Nat) : State :=
  match s.recipeStep recipe k with
  | some st =>
    let lapsed := decide ((s.baths.get (s.stations.get station).bath).status = .lapsed)
    let s1 := if st.compensated && lapsed then s.addCause .tempStale else s
    if st.agitate then s1.setMark station .waiting else s1
  | none => s

/-- The rack in a slot has reached AT_UNLOAD: DONE with record freed no where the station has seat sensing on;
otherwise DONE with record freed yes, and the record is freed at once (02 R34, 06 R118). -/
def State.arriveUnload (s : State) (slot : Nat) (r : Rack) (station : Nat) : State :=
  if (s.stations.get station).sensing then s.rackNotice (.done false) slot r (some station)
  else (s.rackNotice (.done true) slot r (some station)).freeRack slot none

/-- A seat window opens for a station, confirmed and closed at once where its input is seated (10 R177). -/
def State.openWindow (s : State) (n : Nat) : State :=
  if s.level n then s.setWindow n none else s.setWindow n (some Config.seatWindow)

/-- PLACED taken for a hoist's open order (06 R118). -/
def State.doPlace (s : State) (h : Hoist) : State :=
  match (s.hoist h).order with
  | some o =>
    let s1 := (s.becomeIdle h).removeRequest o.slot
    match s1.racks.get o.slot with
    | some r =>
      let bath := decide ((s1.stations.get o.dest).kind = .bath)
      let sensing := (s1.stations.get o.dest).sensing
      let next := r.begin o.dest bath (s1.targetOf r (r.stepIdx + 1))
      let s2 := (s1.setOcc o.dest (.occupied o.slot)).setRack o.slot (some next)
      let s3 := if bath then s2.beginImmersion r.recipe (r.stepIdx + 1) o.dest else s2.arriveUnload o.slot next o.dest
      if sensing then s3.openWindow o.dest else s3
    | none => s1
  | none => s

/-! ### Faults (06 R123, R124) -/

/-- The rack in a slot becomes STRANDED: its request is removed, its station and its reservation become EMPTY,
the notice is queued with whether LIFTED had been taken, and BLOCKED requests retry (06 R124). -/
def State.strand (s : State) (slot : Nat) (lifted : Bool) : State :=
  match s.racks.get slot with
  | some r =>
    let after := { r with st := .stranded, station := none, dest := none }
    let s1 := ((s.setRack slot (some after)).emptyStation r.station).emptyStation r.dest
    let s2 := (s1.removeRequest slot).rackNotice (.stranded r.stepIdx lifted) slot after none
    (s2.retryIf r.station).retryIf r.dest
  | none => s

/-- A fault closes an order by its phase (06 R124). -/
def State.faultClose (s : State) (o : Order) : State :=
  match o.phase with
  | .sent => s.returnRequest o.slot
  | .accepted => s.returnRequest o.slot
  | .poised => s.returnRequest o.slot
  | .released =>
    if (s.stations.get o.source).sensing && s.level o.source then s.returnRequest o.slot else s.strand o.slot false
  | .lifted => s.strand o.slot true

/-- The open order of a hoist, if any, closed by its fault. -/
def State.faultCloseOpen (s : State) (h : Hoist) : State :=
  match (s.hoist h).order with
  | some o => (s.setHoist h { s.hoist h with order := none, timer := none }).faultClose o
  | none => s

/-- A hoist enters FAULT (06 R123). The STRANDED notice stands before the LINE notice of the cause (log 46). -/
def State.enterFault (s : State) (h : Hoist) (reason : FaultReason) : State :=
  let s1 := (s.setHoist h { s.hoist h with st := .fault, reason := reason }).faultCloseOpen h
  (s1.addCause h.faultCause).handoverFault h

/-- The order of a hoist closes without a lift and its request returns to READY (05 R101, 06 R122). -/
def State.callOff (s : State) (h : Hoist) (o : Order) : State := (s.returnRequest o.slot).becomeIdle h

/-- The refusal mark of a request for a hoist (05 R100). -/
def Request.mark (q : Request) : Hoist → Option TickCount
  | .a => q.markA
  | .b => q.markB

/-- A request with a refusal mark for a hoist set or cleared (05 R100). -/
def Request.setMark (q : Request) : Hoist → Option TickCount → Request
  | .a, m => { q with markA := m }
  | .b, m => { q with markB := m }

/-- The request in a slot gains a refusal mark for a hoist that expires 100 ticks later (05 R100). -/
def State.markRefused (s : State) (h : Hoist) (slot : Nat) : State :=
  match s.requests.get slot with
  | some q => s.setRequest slot (some (q.setMark h (some (later s.tick Config.refusalTicks))))
  | none => s

/-! ### Due, overrun and seat-window expiry (03 R60 to R63, 10 R177) -/

/-- A hoist whose order for the rack in a slot is POISED with no cancel outstanding is sent LIFT
(03 R60, 06 R115, R122). -/
def State.liftIfPoised (s : State) (slot : Nat) : State :=
  match s.orderFor slot with
  | some (h, o) => if o.phase = .poised ∧ o.cancelOut = false then s.releaseLift h else s
  | none => s

/-- A DUE rack without a request gets one, which triggers a pass (05 R87). -/
def State.requestIfNone (s : State) (slot : Nat) : State :=
  match s.requests.get slot with
  | none => (s.createRequest slot).triggerPass
  | some _ => s

/-- An IMMERSED rack whose accumulator has reached its target (03 R60). -/
def Rack.reached (r : Rack) : Bool := decide (r.st = .immersed) && decide (r.target ≤ r.acc)

/-- The rack in a slot becomes DUE where it has reached its target, and the transition is handed on
(03 R60). -/
def State.makeDue (s : State) (slot : Nat) : State :=
  match s.racks.get slot with
  | some r =>
    if r.reached then
      ((s.setRack slot (some { r with st := .due, dueTick := some s.tick })).requestIfNone slot).liftIfPoised slot
    else s
  | none => s

/-- The OVERTIME test for the rack in a slot (03 R63). -/
def State.overtimeTest (s : State) (slot : Nat) : State :=
  match s.racks.get slot with
  | some r =>
    match s.currentStep r with
    | some st =>
      if r.st = .due ∧ st.tolerance ≠ Config.unlimited ∧ st.tolerance < r.overrun ∧ StepFlag.overtime ∉ r.flags then
        let after := { r with flags := StepFlag.overtime.addTo r.flags }
        (s.setRack slot (some after)).rackNotice (.overtime r.overrun st.tolerance) slot after r.station
      else s
    | none => s
  | none => s

/-- One more overrun tick for a rack that is DUE, with the OVERTIME test (03 R62, R63). -/
def State.overrunOne (s : State) (slot : Nat) : State :=
  match s.racks.get slot with
  | some r =>
    if r.st = .due then
      (s.setRack slot (some { r with overrun := addSaturating r.overrun 1 })).overtimeTest slot
    else s
  | none => s

/-- A hoist's phase timer has reached 0 (06 R113, R123). -/
def State.expirePhase (s : State) (h : Hoist) : State :=
  let x := s.hoist h
  match x.order, x.timer, x.suspended with
  | some o, some 0, false => s.enterFault h (.timeoutPhase o.phase)
  | _, _, _ => s

/-- The handover's acknowledgement timer has reached 0 (07 R141). At an expiry in SHRINKING, R141 lists
HANDOVER_TIMEOUT before the fault cause of V, and neither it nor R123 orders HANDOVER_TIMEOUT's LINE notice against
the RACK notice STRANDED that the fault may bring: the model adds HANDOVER_TIMEOUT first, so that its LINE notice
stands before STRANDED (log 46). -/
def State.expireAck (s : State) : State :=
  let hv := s.span.handover
  match hv.timer, hv.suspended, hv.stage with
  | some 0, false, .shrinking =>
    (s.addCause .handoverTimeout).enterFault hv.taker.other (.timeoutStage .shrinking)
  | some 0, false, .widening => s.enterFault hv.taker (.timeoutStage .widening)
  | _, _, _ => s

/-- A station's seat window has run out: SEAT_UNCONFIRMED for the rack in it, and the window closes
(10 R177). -/
def State.expireWindow (s : State) (n : Nat) : State :=
  if s.windows.get n = some 0 then
    (match s.rackAt n with
      | some (slot, _) => s.addFlag slot .seatUnconfirmed
      | none => s).setWindow n none
  else s

end Sys2Proof.Machine
end

