-- ==== Sys2Proof/Machine/Answering.lean ====
section
/-! DEFINITION. How a request of the order station is taken (11 R191), and the bytes of the contents of the query
replies (11 R188, R189; log 21 says what these rules leave open). -/

namespace Sys2Proof.Machine

/-! ### Taking a request (11 R191) -/

/-- The inbound slot of a channel. -/
def Link.slot (l : Link) (c : Nat) : Option SlotFrame := (l.channels.get c).slot

/-- The inbound slot of a channel filled or emptied. -/
def Link.setSlot (l : Link) (c : Nat) (f : Option SlotFrame) : Link :=
  { l with channels := l.channels.modify c (fun ch => { ch with slot := f }) }

/-- The order-station queue has at least three free places (11 R191). -/
def Link.hasReplyRoom (l : Link) : Bool := decide (l.held 3 + Config.replyPlaces ≤ Config.orderPlaces)

/-- The inbound slot of channel 3 filled or emptied. -/
def State.setRequestSlot (s : State) (f : Option SlotFrame) : State := { s with link := s.link.setSlot 3 f }

/-- A request handled whole by its block, with the slot emptied after it (11 R191). -/
def State.serve (s : State) (handler : State → State) : State := (handler s).setRequestSlot none

/-- A request reaches channel 3: it stands in the slot, is taken where three places are free, and waits there
otherwise (11 R191). While another frame stands in the slot, channel 3 is INHIBITED and no request can reach it
(11 R185), so nothing changes (log 8). -/
def State.takeRequest (s : State) (i : Instr) (handler : State → State) : State :=
  match s.link.slot 3 with
  | some _ => s
  | none =>
    let s1 := s.setRequestSlot (some (.good i))
    if s1.link.hasReplyRoom then s1.serve handler else s1

/-! ### Codes (11 R189) -/

/-- A field of n characters given as none: every bit set (11 R189). -/
def noneBytes (n : Nat) : List Byte := List.replicate n 255#8

/-- Place in the recipe states of R14. -/
def RecipeState.code : RecipeState → Nat
  | .empty => 0
  | .writing => 1
  | .ready => 2

/-- Place in the phases: sent, accepted, poised, released, lifted (06 introduction). -/
def Phase.code : Phase → Nat
  | .sent => 0
  | .accepted => 1
  | .poised => 2
  | .released => 3
  | .lifted => 4

/-- Place in the stages of R135. -/
def Stage.code : Stage → Nat
  | .none => 0
  | .waiting => 1
  | .shrinking => 2
  | .widening => 3

/-- Place in the hoist states of R107. -/
def HoistState.code : HoistState → Nat
  | .offline => 0
  | .idle => 1
  | .busy => 2
  | .fault => 3

/-- A fault reason: its place in R107 and its detail; a handover stage follows the five phases (log 21). -/
def FaultReason.bytes : FaultReason → List Byte
  | .none => u8 0 ++ u8 255
  | .reported c => u8 1 ++ u8 c
  | .timeoutPhase p => u8 2 ++ u8 p.code
  | .timeoutStage g => u8 2 ++ u8 (g.code + 3)
  | .restart => u8 3 ++ u8 255
  | .protocol => u8 4 ++ u8 255

/-- A request's state with its hoist (05 R85). -/
def RequestState.bytes : RequestState → List Byte
  | .blocked => u8 0 ++ u8 255
  | .ready => u8 1 ++ u8 255
  | .bound h => u8 2 ++ u8 h.code
  | .ordered h => u8 3 ++ u8 h.code

/-- Place in the agitation marks of R151. -/
def AgitationMark.code : AgitationMark → Nat
  | .out => 0
  | .waiting => 1
  | .joined => 2

/-- The low and high station of a span in a reply. R132 gives an empty span as 1 and 0 for SPAN alone: the model sends
the same two characters in replies (log 21). -/
def Span.bytes (sp : Span) : List Byte := u8 sp.ends.1 ++ u8 sp.ends.2

/-! ### Contents of the query replies -/

/-- STATION QUERY (01 R7). -/
def State.stationReply (s : State) (n : Nat) : List Byte :=
  let x := s.stations.get n
  u8 x.kind.code ++ u8 x.bath ++ listedFirst x.sensing ++ yesNo x.inService ++ u8 x.occ.code ++
    (match x.occ with
     | .reservedRack k => u8 0 ++ u8 k
     | .reservedEntry id => u8 1 ++ u16 id
     | .occupied k => u8 k ++ u16 (match s.racks.get k with | some r => r.id | none => 0)
     | _ => [])

/-- A factor record, or none (03 R52, 04 R82). No list codes the clamp indications: the model sends 1 for set and
0 for clear (log 35). -/
def factorBytes : Option Factors → List Byte
  | some f => u16 f.fT ++ u16 f.g ++ u16 f.fTA ++ yesNo f.tempClamp ++ yesNo f.actClamp
  | none => noneBytes 8

/-- BATH QUERY (04 R82). -/
def Bath.reply (x : Bath) : List Byte :=
  u16 x.tRef ++ (x.points.map u16).flatten ++ u16 x.rho ++ u8 x.slope ++ u16 x.threshold ++
    oTemp x.temp ++ u8 x.status.code ++ listedFirst x.probeFault ++ u16 x.staleCount ++
    u16 x.owed ++ u16 x.remainder ++ listedFirst x.owedUnsent ++ u16 x.areaInFlight ++
    factorBytes (some x.active) ++ factorBytes x.pendingF

/-- The eight fields of a step, as STEP SET carries them (01 R13). -/
def RecipeStep.bytes (st : RecipeStep) : List Byte :=
  u8 st.bath ++ u16 st.nominal ++ u8 st.comp.code ++ yesNo st.adjustable ++ u8 st.cls.code ++
    u16 st.tolerance ++ u8 st.drain ++ yesNo st.agitate

/-- RECIPE QUERY (01 R18). -/
def State.recipeReply (s : State) (n k : Nat) : List Byte :=
  let x := s.recipes.get n
  u8 x.st.code ++ u8 x.steps.length ++ (if x.st = .ready then u8 x.refs else []) ++
    (match s.recipeStep n k with
     | some st => st.bytes
     | none => [])

/-- The open order's hoist, order number and phase, or none (02 R43). -/
def orderBytes : Option (Hoist × Order) → List Byte
  | some (h, o) => u8 h.code ++ u8 o.number ++ u8 o.phase.code
  | none => noneBytes 3

/-- The record summary of RACK QUERY (02 R43). R188 names no length for the target, which needs three characters: the
model sends four, as for the accumulator it is compared with (log 21). -/
def State.rackSummary (s : State) (slot : Nat) (r : Rack) : List Byte :=
  u8 slot ++ u16 r.id ++ u8 r.recipe ++ u8 r.load ++ u16 r.area ++ i8 r.adjust ++ u32 r.seq.toNat ++
    u8 r.st.code ++ u8 r.stepIdx ++ o8 r.station ++ o8 r.dest ++ u32 r.acc ++ u32 r.target ++ oTick r.dueTick ++
    u32 r.overrun ++ u8 (StepFlag.code r.flags) ++ u8 r.history.length ++ orderBytes (s.orderFor slot)

/-- A history entry in RACK QUERY (02 R26, R43). -/
def HistoryEntry.bytes (e : HistoryEntry) : List Byte :=
  u8 e.step ++ u8 e.station ++ u32 e.acc ++ u32 e.overrun ++ u8 (StepFlag.code e.flags)

/-- RACK QUERY for a rack in the table (02 R43). -/
def State.rackReply (s : State) (slot : Nat) (r : Rack) (index : Nat) : List Byte :=
  if index = 0 then s.rackSummary slot r
  else match r.history[index - 1]? with
    | some e => e.bytes
    | none => s.rackSummary slot r

/-- RACK QUERY for a queue entry at a place: the state QUEUED, coded after the six rack states (02 R43,
log 22). -/
def QueueEntry.reply (e : QueueEntry) (place : Nat) : List Byte :=
  u8 6 ++ u16 e.id ++ u8 e.recipe ++ u8 e.load ++ u16 e.area ++ i8 e.adjust ++ u8 place

/-- The open order in HOIST QUERY, or none (06 R129). -/
def State.openOrderBytes (s : State) : Option Order → List Byte
  | some o =>
    u8 o.number ++ u16 (match s.racks.get o.slot with | some r => r.id | none => 0) ++ u8 o.slot ++ u8 o.source ++
      u8 o.drain ++ u8 o.dest ++ u8 o.phase.code ++ yesNo o.cancelOut ++ yesNo o.cancelCrossed
  | none => noneBytes 10

/-- HOIST QUERY (06 R129, 11 R189). The last refusal reason takes two characters, so that none (FFFFh) differs from
reason 255 (log 36). -/
def State.hoistReply (s : State) (h : Hoist) : List Byte :=
  let x := s.hoist h
  u8 x.st.code ++ yesNo x.released ++ replyPosition x.position ++ s.openOrderBytes x.order ++ o16 x.timer ++
    yesNo x.suspended ++ u8 x.lastOrder ++ o16 x.lastRefusal ++ x.reason.bytes ++ u16 x.stray ++ x.timing.payload ++
    (s.spanOf h).bytes

/-- A rack id and slot named by a slot, or none. -/
def State.slotBytes (s : State) : Option Nat → List Byte
  | some k => u16 (match s.racks.get k with | some r => r.id | none => 0) ++ u8 k
  | none => noneBytes 3

/-- The spans, the sequence and the position of a hoist in SPAN QUERY (07 R146, 11 R189). -/
def State.spanBytes (s : State) (h : Hoist) : List Byte :=
  (s.spanOf h).bytes ++ (s.effectiveSpan h).bytes ++ u8 (s.seqOf h) ++ replyPosition (s.hoist h).position

/-- SPAN QUERY (07 R146). After the taker is withdrawn the bound request is sent as none (log 37). While no
acknowledgement timer is present, "whether the timer is suspended" is sent as no, in HALT too (log 15). -/
def State.spanReply (s : State) : List Byte :=
  let hv := s.span.handover
  u8 s.span.guardGap ++ u8 s.span.split ++ s.spanBytes .a ++ s.spanBytes .b ++
    u8 hv.stage.code ++ u8 hv.taker.code ++ u8 hv.taker.other.code ++ s.slotBytes hv.bound ++
    hv.widened.bytes ++ hv.narrowed.bytes ++ hv.old.bytes ++
    (match hv.awaited with | some (h, q) => u8 h.code ++ u8 q | none => noneBytes 2) ++
    o16 hv.timer ++ yesNo hv.suspended ++ yesNo hv.withdrawn

/-- An agitation program, or none (08 R147). -/
def programBytes : Option Program → List Byte
  | some p => u8 p.prescale ++ u8 p.cycle ++ u8 p.width ++ u8 p.extra
  | none => noneBytes 4

/-- The BATH stations of a bath in a group of sixteen (08 R157), in ascending number, which is the model's own order
for the entries of the reply (log 43). -/
def State.bathGroup (s : State) (b group : Nat) : List Nat :=
  (s.stations.indices (fun x => decide (x.kind = .bath) && decide (x.bath = b))).filter (fun n => decide (n / 16 = group))

/-- AGITATION QUERY (08 R157). No list codes a valve function: on is sent as 0 and off as 1 (log 35). -/
def State.agitationReply (s : State) (b group : Nat) : List Byte :=
  let g := s.gens.get b
  programBytes (some g.active) ++ programBytes g.pendingP ++ u8 (if g.running then 1 else 0) ++ u8 g.sample ++
    u8 g.unit ++ u8 g.cycle ++ u16 g.burstLen ++ listedFirst g.burst ++
    ((s.bathGroup b group).map (fun n => u8 n ++ u8 (s.marks.get n).code ++ listedFirst (s.valveFunction n))).flatten

/-- For each bound cause in the set, whether its condition holds (09 R170), in the order of the table of R159, which is
the model's own order for these entries (log 43). -/
def State.conditionBytes (s : State) : List Byte :=
  ((s.line.causes.filterMap s.boundCondition).map yesNo).flatten

/-- LINE QUERY (09 R170). No list codes the output functions and the notices-dropped indication: a function is
sent as 0 for on and 1 for off, the indication as 1 for set and 0 for clear (log 35). -/
def State.lineReply (s : State) : List Byte :=
  u8 s.line.st.code ++ u16 (Cause.code s.line.causes) ++ s.conditionBytes ++
    listedFirst (s.permitFunction .a) ++ listedFirst (s.permitFunction .b) ++ listedFirst s.sounderFunction ++
    u8 s.overtimeRacks ++ u32 s.tick.toNat ++ u8 s.phase ++ yesNo s.link.dropped

/-- The seat sensing and the window that IO QUERY adds for a seat input (10 R183). The rule does not say what stands
for the ticks left while no window is open: the model sends the field as none, one character FFh (log 21). -/
def State.seatBytes (s : State) (n : Nat) : List Byte :=
  if n < Config.stations then
    listedFirst (s.stations.get n).sensing ++ yesNo (s.windows.get n).isSome ++ o8 (s.windows.get n)
  else []

/-- IO QUERY for an input (10 R183). -/
def State.inputReply (s : State) (n : Nat) : List Byte :=
  let x := s.io.inputs.get n
  u8 x.debounce ++ u8 (if x.polarity = .activeHigh then 0 else 1) ++ listedFirst x.enabled ++ listedFirst x.raw ++
    listedFirst x.level ++ u8 x.run ++ s.seatBytes n

/-- IO QUERY for an output (10 R183). No list codes an output function: on is sent as 0 and off as 1 (log 35). -/
def State.outputReply (s : State) (n : Nat) : List Byte :=
  let x := s.io.outputs.get n
  u8 (if x.mode = .function then 0 else 1) ++ listedFirst x.latch ++ listedFirst (s.outputFunction n) ++
    listedFirst x.commanded ++ listedFirst x.monitor ++ u8 x.run ++ listedFirst x.faulted

/-- The engine serves a channel, which alone is then OPEN; in LISTEN a channel with an empty slot is OPEN
(11 R185). -/
def Link.isOpen (l : Link) (c : Nat) : Bool :=
  match l.engine with
  | .listen => (l.slot c).isNone
  | .receiving d => decide (c = d)
  | .sending d => decide (c = d)

/-- The engine state with its channel (11 R185). -/
def Engine.bytes : Engine → List Byte
  | .listen => u8 0 ++ u8 255
  | .receiving c => u8 1 ++ u8 c
  | .sending c => u8 2 ++ u8 c

/-- The stray reports of a channel (11 R196). -/
def State.strayReports (s : State) (c : Nat) : Nat :=
  match c with
  | 0 => s.hoistA.stray
  | 1 => s.hoistB.stray
  | 2 => s.link.strayBath
  | _ => 0

/-- LINK QUERY (11 R196). Handled as its frame completes, it shows the engine in LISTEN (log 39). -/
def State.linkReply (s : State) (c : Nat) : List Byte :=
  let k := (s.link.channels.get c).counts
  u16 k.good ++ u16 k.truncated ++ u16 k.charError ++ u16 k.lengthError ++ u16 k.refused ++ u16 k.cutOff ++
    u16 k.sent ++ u16 k.missingAck ++ u16 k.noClocking ++ u16 k.lost ++ u16 (s.strayReports c) ++
    u8 (if s.link.isOpen c then 0 else 1) ++ yesNo (s.link.slot c).isSome ++ u8 (s.link.held c) ++
    s.link.engine.bytes ++ u8 s.link.lastHoist

end Sys2Proof.Machine
end

