-- ==== Sys2Proof/Machine/Dispatching.lean ====
section
/-! DEFINITION. The dispatch pass (05 R87, R92 to R98, R104), and DISPATCH CONFIG and QUEUE QUERY (05 R105, R106). -/

namespace Sys2Proof.Machine

/-! ### Order time and the critical hold (05 R94, R96) -/

/-- The order time of a request for a hoist at a position; none for a rack without a predicted due tick
(05 R94). -/
def State.orderTime (s : State) (h : Hoist) (r : Rack) (q : Request) (position : Int) : Option TickCount :=
  (s.predictedDue r q).map
    (fun due => due - BitVec.ofNat 32 ((s.hoist h).travel position q.source + s.dispatcher.orderMargin))

/-- The request's order time for a hoist is at or before a tick count; a rack that is DUE or AT_LOAD has passed
it for every hoist, and a CARRIED rack, which has no predicted due tick, has passed it for none (05 R94; log 34).
None where the hoist's position is unknown. -/
def State.orderTimeBy (s : State) (h : Hoist) (r : Rack) (q : Request) (t : TickCount) : Option Bool :=
  match (s.hoist h).position with
  | none => none
  | some p => some (r.readyToLift || (s.orderTime h r q p).any (fun o => decide (0 ≤ tickDiff t o)))

/-- A refusal mark for a hoist stands: its expiry tick is later than the present tick (05 R93, R100). -/
def State.markStands (s : State) (q : Request) (h : Hoist) : Bool :=
  match q.mark h with
  | some e => earlier s.tick e
  | none => false

/-- The job estimate of a request for a hoist at a position (05 R96). -/
def State.jobEstimate (s : State) (h : Hoist) (r : Rack) (q : Request) (position : Int) : Nat :=
  let x := s.hoist h
  x.travel position q.source + s.drainOf r + x.travel q.source (q.dest.getD 0) + x.timing.place

/-- A request Q that holds a hoist back from a job lasting `job` ticks (05 R96). -/
def State.holdsBack (s : State) (h : Hoist) (job : Nat) (slot : Nat) : Bool :=
  match s.requests.get slot, s.racks.get slot with
  | some q, some r =>
    decide (q.st = .ready) && decide (q.cls = .critical) && s.within h q.source (q.dest.getD 0)
      && s.lineAllows r && !s.markStands q h && decide (s.orderTimeBy h r q (later s.tick job) = some true)
  | _, _ => false

/-- The critical hold withholds the request in a slot from a hoist (05 R96). -/
def State.criticalHold (s : State) (h : Hoist) (slot : Nat) (r : Rack) (q : Request) : Bool :=
  match (s.hoist h).position with
  | none => false
  | some p =>
    decide (q.cls ≠ .critical)
      && (s.requests.indices Option.isSome).any
        (fun k => decide (k ≠ slot) && s.holdsBack h (s.jobEstimate h r q p) k)

/-! ### Eligibility and the choice of a hoist (05 R93, R98) -/

/-- A hoist holds a BOUND request: it is the taker of the handover in progress (05 R93). -/
def State.holdsBound (s : State) (h : Hoist) : Bool :=
  (s.requests.indices (fun o => match o with | some q => decide (q.st = .bound h) | none => false)) != []

/-- The READY request in a slot is eligible for a hoist; `used` are the hoists given a request earlier in the
pass (05 R93). -/
def State.eligible (s : State) (used : List Hoist) (h : Hoist) (slot : Nat) : Bool :=
  match s.requests.get slot, s.racks.get slot with
  | some q, some r =>
    let d := q.dest.getD 0
    decide (q.st = .ready)
      && decide ((s.hoist h).st = .idle) && !s.holdsBound h && !decide (h ∈ used)
      && s.lineAllows r && !s.markStands q h && decide (s.orderTimeBy h r q s.tick = some true)
      && (s.within h q.source d || s.canHandover h q.source d)
      && !s.criticalHold h slot r q
  | _, _ => false

/-- The choice between two eligible hoists (05 R98). -/
def State.preferred (s : State) (source dest : Nat) : Hoist :=
  if s.within .a source dest then .a
  else if s.within .b source dest then .b
  else if s.stationsAdded .a source dest < s.stationsAdded .b source dest then .a
  else if s.stationsAdded .b source dest < s.stationsAdded .a source dest then .b
  else if source < s.span.split then .a else .b

/-- The hoist the request in a slot is given to, if any is eligible (05 R98). -/
def State.chosenHoist (s : State) (used : List Hoist) (slot : Nat) : Option Hoist :=
  match s.eligible used .a slot, s.eligible used .b slot with
  | true, false => some .a
  | false, true => some .b
  | true, true => (s.requests.get slot).map (fun q => s.preferred q.source (q.dest.getD 0))
  | false, false => none

/-- The request in a slot given to a hoist: as a move order within its effective span, otherwise through a
handover (05 R98). -/
def State.giveRequest (s : State) (h : Hoist) (slot : Nat) : State :=
  match s.requests.get slot with
  | some q => if s.within h q.source (q.dest.getD 0) then s.openOrder h slot else s.startHandover h slot
  | none => s

/-- The walk over the slots of the urgency order (05 R97, R98). -/
def State.walk (s : State) (used : List Hoist) : List Nat → State
  | [] => s
  | slot :: rest =>
    match s.chosenHoist used slot with
    | some h => State.walk (s.giveRequest h slot) (h :: used) rest
    | none => State.walk s used rest

/-! ### The parts of a pass before the walk (05 R87, R100, R104) -/

/-- The crossing of the margin notice state (05 R104). -/
def State.crossNotice (s : State) (m : Option (Int × Nat)) : State :=
  let d := s.dispatcher
  match d.notice, m with
  | .clear, some (x, slot) =>
    if x < (d.lowMark : Int) then
      { s with dispatcher := { d with notice := .low } }.notify
        (.marginLow x (match s.racks.get slot with | some r => r.id | none => 0) slot)
    else s
  | .clear, none => s
  | .low, some (x, _) =>
    if (d.lowMark : Int) + d.hysteresis ≤ x then
      { s with dispatcher := { d with notice := .clear } }.notify (.marginClear (some x))
    else s
  | .low, none => { s with dispatcher := { d with notice := .clear } }.notify (.marginClear none)

/-- The crossing of the admit side; a rise retests the head of the admission queue (05 R104). -/
def State.crossAdmit (s : State) (m : Option (Int × Nat)) : State :=
  let d := s.dispatcher
  match d.side, m with
  | .above, some (x, _) =>
    if x < (d.admitMargin : Int) then { s with dispatcher := { d with side := .below } } else s
  | .above, none => s
  | .below, some (x, _) =>
    if (d.admitMargin : Int) ≤ x then State.retestHead { s with dispatcher := { d with side := .above } } else s
  | .below, none => State.retestHead { s with dispatcher := { d with side := .above } }

/-- The first step of a pass: the line margin and its crossings (05 R97, R104). The margin notice stands before what the
retest queues (log 46). -/
def State.crossMargins (s : State) : State :=
  let m := s.lineMargin
  (s.crossNotice m).crossAdmit m

/-- A mark that has lapsed is cleared: the tick count has reached its expiry tick (05 R100). -/
def liveMark (now : TickCount) (m : Option TickCount) : Option TickCount :=
  match m with
  | some e => if earlier now e then some e else none
  | none => none

/-- Lapsed marks are cleared from every request (05 R100). -/
def State.clearMarks (s : State) : State :=
  { s with requests := s.requests.map (Option.map (fun q =>
      { q with markA := liveMark s.tick q.markA, markB := liveMark s.tick q.markB })) }

/-- The IMMERSED racks without a request whose remaining ticks are within the lookahead, each with its remaining
ticks, its sequence and its slot (05 R87). -/
def State.lookaheadRacks (s : State) : List (Nat × Sequence × Nat) :=
  (List.range Config.slots).filterMap (fun slot =>
    match s.racks.get slot, s.requests.get slot with
    | some r, none =>
      if r.st = .immersed ∧ s.remainingTicks r ≤ s.dispatcher.lookahead then some (s.remainingTicks r, r.seq, slot)
      else none
    | _, _ => none)

/-- Ascending predicted due tick, then the older rack first (05 R87). -/
def lookaheadBefore (a b : Nat × Sequence × Nat) : Bool :=
  decide (a.1 < b.1) || (decide (a.1 = b.1) && older a.2.1 b.2.1)

/-- The second step of a pass: the lookahead requests (05 R87, R97). -/
def State.lookahead (s : State) : State :=
  ((sortBy lookaheadBefore s.lookaheadRacks).map (fun x => x.2.2)).foldl State.createRequest s

/-- A dispatch pass (05 R97). -/
def State.pass (s : State) : State :=
  let s1 := s.crossMargins.clearMarks.lookahead
  s1.walk [] s1.urgencyOrder

/-- DISPATCH_PASS: a pass is taken, which serves one of the triggers owed, if any (05 R97, log 6). -/
def execDispatchPass (s : State) : Host.Outcome State Fault Refusal :=
  liveDriven s (fun s =>
    State.pass { s with dispatcher := { s.dispatcher with passesOwed := s.dispatcher.passesOwed - 1 } })

/-! ### DISPATCH CONFIG (05 R105) -/

/-- DISPATCH CONFIG handled (05 R105). -/
def handleDispatchConfig (f : DispatchFields) (s : State) : State :=
  if s.line.st = .run ∨ s.line.st = .halt then s.reply 0x4F .wrongState []
  else match readDispatch f with
    | none => s.reply 0x4F .badValue []
    | some m =>
      { s with dispatcher := { s.dispatcher with
          lookahead := f.lookahead, orderMargin := f.orderMargin, admitMargin := f.admitMargin,
          lowMark := f.lowMark, hysteresis := f.hysteresis, mode := m } }.reply 0x4F .ok []

/-- DISPATCH CONFIG. -/
def execDispatchConfig (f : DispatchFields) (s : State) : Host.Outcome State Fault Refusal :=
  liveDriven s (fun s => s.takeRequest (.dispatchConfig f) (handleDispatchConfig f))

/-! ### QUEUE QUERY (05 R106) -/

/-- How many requests satisfy p. -/
def State.requestCount (s : State) (p : RequestState → Bool) : Nat :=
  (s.requests.indices (fun o => match o with | some q => p q.st | none => false)).length

/-- A request is BOUND. -/
def RequestState.isBound : RequestState → Bool
  | .bound _ => true
  | _ => false

/-- A request is ORDERED. -/
def RequestState.isOrdered : RequestState → Bool
  | .ordered _ => true
  | _ => false

/-- The id of the rack in a slot. -/
def State.idAt (s : State) (slot : Nat) : Nat :=
  match s.racks.get slot with
  | some r => r.id
  | none => 0

/-- The summary of QUEUE QUERY (05 R106). -/
def State.queueSummary (s : State) : List Byte :=
  let d := s.dispatcher
  let m := s.lineMargin
  u8 (s.requestCount (fun x => decide (x = .blocked))) ++ u8 (s.requestCount (fun x => decide (x = .ready))) ++
    u8 (s.requestCount RequestState.isBound) ++ u8 (s.requestCount RequestState.isOrdered) ++
    u16 d.lookahead ++ u16 d.orderMargin ++ u16 d.admitMargin ++ u16 d.lowMark ++ u16 d.hysteresis ++
    u8 (d.mode.code) ++ oMargin (m.map (·.1)) ++ (match m with | some (_, k) => u16 (s.idAt k) | none => []) ++
    u8 (if d.notice = .clear then 0 else 1) ++ u8 (if d.side = .above then 0 else 1) ++
    (if s.span.handover.stage = .none then [] else o16 (s.span.handover.bound.map s.idAt))

/-- Whether the order time for a hoist has passed, or none where its position is unknown (05 R106). -/
def State.orderTimeBytes (s : State) (h : Hoist) (r : Rack) (q : Request) : List Byte :=
  match s.orderTimeBy h r q s.tick with
  | some b => yesNo b
  | none => noneBytes 1

/-- One request in QUEUE QUERY; a CARRIED rack's predicted due tick is sent as none (05 R106, 11 R189; log 34). -/
def State.requestEntry (s : State) (slot : Nat) : List Byte :=
  match s.requests.get slot, s.racks.get slot with
  | some q, some r =>
    u16 r.id ++ u8 slot ++ u8 q.source ++ o8 q.dest ++ u8 q.cls.code ++ oTick (s.predictedDue r q) ++
      oTick (s.latestLift r) ++ q.st.bytes ++ oTick q.markA ++ oTick q.markB ++
      s.orderTimeBytes .a r q ++ s.orderTimeBytes .b r q
  | _, _ => []

/-- The contents of the reply to QUEUE QUERY (05 R106). -/
def State.queueReply (s : State) (index : Nat) : List Byte :=
  if index = 0 then s.queueSummary
  else match s.urgencyOrder[index - 1]? with
    | some slot => s.requestEntry slot
    | none => s.queueSummary

/-- QUEUE QUERY handled (05 R106). -/
def handleQueueQuery (index : Nat) (s : State) : State :=
  if index ≤ 24 then s.reply 0x50 .ok (s.queueReply index) else s.reply 0x50 .badValue []

/-- QUEUE QUERY. -/
def execQueueQuery (index : Nat) (s : State) : Host.Outcome State Fault Refusal :=
  live s (fun s => s.takeRequest (.queueQuery index) (handleQueueQuery index))

end Sys2Proof.Machine
end

