-- ==== Sys2Proof/Machine/HoistRequests.lean ====
section
/-! DEFINITION. The order station's requests about hoists and spans (06 R109, R122, R126, R129, 07 R131, R146). -/

namespace Sys2Proof.Machine

/-- HOIST TIMING handled (06 R109). -/
def handleHoistTiming (hoist : Option Hoist) (t : Timing) (s : State) : State :=
  if s.line.st ≠ .standby then s.reply 0x51 .wrongState []
  else match hoist with
    | some h =>
      if timingOk t then (s.setHoist h { s.hoist h with timing := t }).reply 0x51 .ok []
      else s.reply 0x51 .badValue []
    | none => s.reply 0x51 .badValue []

/-- HOIST TIMING. -/
def execHoistTiming (hoist : Option Hoist) (t : Timing) (s : State) : Host.Outcome State Fault Refusal :=
  liveDriven s (fun s => s.takeRequest (.hoistTiming hoist t) (handleHoistTiming hoist t))

/-- An order HOIST CANCEL can call off: short of LIFT, with no cancel outstanding (06 R122). -/
def Order.cancellable (o : Order) : Bool :=
  !o.cancelOut && (decide (o.phase = .sent) || decide (o.phase = .accepted) || decide (o.phase = .poised))

/-- HOIST CANCEL handled (06 R122). -/
def handleHoistCancel (hoist : Option Hoist) (s : State) : State :=
  match hoist with
  | none => s.reply 0x52 .badValue []
  | some h =>
    match (s.hoist h).order with
    | some o =>
      if o.cancellable then
        let s1 := (s.sendHoist h (.cancel o.number)).setHoist h
          { s.hoist h with order := some { o with cancelOut := true } }
        (s1.setTimer h (s.hoist h).timing.acceptTime).reply 0x52 .ok []
      else s.reply 0x52 .wrongState []
    | none => s.reply 0x52 .wrongState []

/-- HOIST CANCEL. -/
def execHoistCancel (hoist : Option Hoist) (s : State) : Host.Outcome State Fault Refusal :=
  liveDriven s (fun s => s.takeRequest (.hoistCancel hoist) (handleHoistCancel hoist))

/-- A hoist declared parked: OFFLINE, released, at its park, with an empty span (06 R126). -/
def State.releaseHoist (s : State) (h : Hoist) : State :=
  (s.setHoist h { s.hoist h with st := .offline, released := true, position := some h.park }).emptySpan h

/-- HOIST RELEASE handled (06 R126); a release taken for a hoist already OFFLINE and released changes nothing. -/
def handleHoistRelease (hoist : Option Hoist) (s : State) : State :=
  match hoist with
  | none => s.reply 0x53 .badValue []
  | some h =>
    if (s.hoist h).st = .busy ∨ s.span.handover.stage ≠ .none then s.reply 0x53 .busy []
    else if (s.hoist h).st = .offline ∧ (s.hoist h).released = true then s.reply 0x53 .ok []
    else (s.releaseHoist h).reply 0x53 .ok []

/-- HOIST RELEASE. -/
def execHoistRelease (hoist : Option Hoist) (s : State) : Host.Outcome State Fault Refusal :=
  liveDriven s (fun s => s.takeRequest (.hoistRelease hoist) (handleHoistRelease hoist))

/-- HOIST QUERY handled (06 R129). -/
def handleHoistQuery (hoist : Option Hoist) (s : State) : State :=
  match hoist with
  | some h => s.reply 0x54 .ok (s.hoistReply h)
  | none => s.reply 0x54 .badValue []

/-- HOIST QUERY. -/
def execHoistQuery (hoist : Option Hoist) (s : State) : Host.Outcome State Fault Refusal :=
  live s (fun s => s.takeRequest (.hoistQuery hoist) (handleHoistQuery hoist))

/-- SPAN CONFIG handled (07 R131). -/
def handleSpanConfig (guardGap split : Nat) (s : State) : State :=
  if s.line.st ≠ .standby then s.reply 0x55 .wrongState []
  else if spanFieldsOk guardGap split then
    { s with span := { s.span with guardGap := guardGap, split := split } }.reply 0x55 .ok []
  else s.reply 0x55 .badValue []

/-- SPAN CONFIG. -/
def execSpanConfig (guardGap split : Nat) (s : State) : Host.Outcome State Fault Refusal :=
  liveDriven s (fun s => s.takeRequest (.spanConfig guardGap split) (handleSpanConfig guardGap split))

/-- SPAN QUERY handled (07 R146). -/
def handleSpanQuery (s : State) : State := s.reply 0x56 .ok s.spanReply

/-- SPAN QUERY. -/
def execSpanQuery (s : State) : Host.Outcome State Fault Refusal :=
  live s (fun s => s.takeRequest .spanQuery handleSpanQuery)

end Sys2Proof.Machine
end

