-- ==== Sys2Proof/Machine/LineRequests.lean ====
section
/-! DEFINITION. The order station's requests about the line (09 R161 to R165, R170, R171). -/

namespace Sys2Proof.Machine

/-! ### The bound conditions (09 R161) -/

/-- A bound cause whose condition holds is added (09 R161). -/
def State.addIfHolds (s : State) (c : Cause) : State := if s.boundCondition c = some true then s.addCause c else s

/-- Every bound cause whose condition holds is added (09 R161). The rule gives no order among them: the model's
choice is the order of the table of R159 (log 38). -/
def State.evaluateBound (s : State) : State := Cause.all.foldl State.addIfHolds s

/-! ### LINE RUN (09 R162) -/

/-- The causes in the set other than OPERATOR_HOLD (09 R162). -/
def State.otherCauses (s : State) : List Cause := Cause.operatorHold.removeFrom s.line.causes

/-- A hoist that check 3 of R162 accepts: IDLE, BUSY, or OFFLINE and released. -/
def HoistRec.ready (x : HoistRec) : Bool :=
  decide (x.st = .idle) || decide (x.st = .busy) || (decide (x.st = .offline) && x.released)

/-- Some station of a kind is in service (09 R162). -/
def State.hasInService (s : State) (k : StationKind) : Bool :=
  s.stations.toList.any (fun x => decide (x.kind = k) && x.inService)

/-- The first failing check of R162, with the reply's contents, after the bound conditions are evaluated. -/
def State.runRefusal (s : State) : Option (ReplyCode × List Byte) :=
  if s.line.st ≠ .standby ∧ s.line.st ≠ .hold then some (.wrongState, [])
  else if s.otherCauses ≠ [] then some (.stillPresent, u16 (Cause.code s.otherCauses))
  else if !(s.hoistA.ready && s.hoistB.ready) then some (.wrongState, [])
  else if s.line.st = .standby ∧ !(s.hasInService .load && s.hasInService .unload) then some (.wrongState, [])
  else none

/-- The effects of a LINE RUN that is taken (09 R162). -/
def State.startRun (s : State) : State :=
  let granted := decide (s.line.st = .standby)
  let s1 := { s with line := { st := .run, causes := Cause.operatorHold.removeFrom s.line.causes } }
  ((if granted then s1.initialGrant else s1).triggerPass).retestHead

/-- LINE RUN handled (09 R161, R162). -/
def handleLineRun (s : State) : State :=
  let s1 := s.evaluateBound
  match s1.runRefusal with
  | some (code, contents) => s1.reply 0x59 code contents
  | none => s1.startRun.reply 0x59 .ok []

/-- LINE RUN. -/
def execLineRun (s : State) : Host.Outcome State Fault Refusal :=
  liveDriven s (fun s => s.takeRequest .lineRun handleLineRun)

/-! ### LINE HOLD and LINE HALT (09 R163) -/

/-- LINE HOLD handled (09 R163). -/
def handleLineHold (s : State) : State :=
  let s1 := s.addCause .operatorHold
  s1.reply 0x5A .ok (u8 s1.line.st.code)

/-- LINE HOLD. -/
def execLineHold (s : State) : Host.Outcome State Fault Refusal :=
  liveDriven s (fun s => s.takeRequest .lineHold handleLineHold)

/-- LINE HALT handled (09 R163). -/
def handleLineHalt (s : State) : State :=
  let s1 := s.addCause .operatorHalt
  s1.reply 0x5B .ok (u8 s1.line.st.code)

/-- LINE HALT. -/
def execLineHalt (s : State) : Host.Outcome State Fault Refusal :=
  liveDriven s (fun s => s.takeRequest .lineHalt handleLineHalt)

/-! ### LINE RESUME (09 R164) -/

/-- The HALT causes in the set (09 R164). -/
def State.haltCauses (s : State) : List Cause := s.line.causes.filter Cause.isHalt

/-- A hoist channel at LINE RESUME: RESUME queued, an open order's timer set afresh, nothing suspended
(06 R127). -/
def State.resumeHoist (s : State) (h : Hoist) : State :=
  let x := s.hoist h
  let timer := match x.order with
    | some o => x.phaseTime o
    | none => none
  (s.sendHoist h .resume).setHoist h { x with timer := timer, suspended := false }

/-- The running handover's timer at LINE RESUME: set afresh, no longer suspended (07 R143). -/
def State.resumeHandover (s : State) : State :=
  let hv := s.span.handover
  match hv.timer, hv.awaited with
  | some _, some (h, _) =>
    s.setHandover { hv with timer := some (s.hoist h).timing.spanAck, suspended := false }
  | _, _ => s.setHandover { hv with suspended := false }

/-- The effects of a LINE RESUME that is taken (09 R164). Hoist A's RESUME is queued first (log 41). -/
def State.resumeLine (s : State) : State :=
  let s1 := { s with line := { s.line with st := .hold } }
  (((s1.resumeHoist .a).resumeHoist .b).resumeHandover.triggerPass).retestHead

/-- LINE RESUME handled (09 R161, R164). The reply lists the causes the request left in the set. -/
def handleLineResume (s : State) : State :=
  let s1 := s.evaluateBound
  if s1.line.st ≠ .halt then s1.reply 0x5C .wrongState []
  else if s1.haltCauses ≠ [] then s1.reply 0x5C .stillPresent (u16 (Cause.code s1.haltCauses))
  else s1.resumeLine.reply 0x5C .ok (u16 (Cause.code s1.line.causes))

/-- LINE RESUME. -/
def execLineResume (s : State) : Host.Outcome State Fault Refusal :=
  liveDriven s (fun s => s.takeRequest .lineResume handleLineResume)

/-! ### CAUSE CLEAR (09 R165) -/

/-- The cause a code names, by its place in the table of R159 (11 R189). -/
def causeOf (n : Nat) : Option Cause := Cause.all[n]?

/-- The causes a request names; none where a code is not one of the eleven (09 R165). -/
def readCauses : List Nat → Option (List Cause)
  | [] => some []
  | n :: rest =>
    match causeOf n, readCauses rest with
    | some c, some cs => some (c :: cs)
    | _, _ => none

/-- A named cause is kept: it is in the set, bound, and its condition holds (09 R165). -/
def State.keeps (s : State) (named : List Cause) (c : Cause) : Bool :=
  decide (c ∈ named) && decide (c ∈ s.line.causes) && decide (s.boundCondition c = some true)

/-- The named causes that a CAUSE CLEAR keeps, in the order of R159. -/
def State.keptCauses (s : State) (named : List Cause) : List Cause := Cause.all.filter (s.keeps named)

/-- The named causes that are not kept leave the set (09 R165). -/
def State.clearCauses (s : State) (named : List Cause) : State :=
  { s with line := { s.line with
      causes := s.line.causes.filter (fun c => !decide (c ∈ named) || s.keeps named c) } }

/-- CAUSE CLEAR handled (09 R165). -/
def handleCauseClear (codes : List Nat) (s : State) : State :=
  match readCauses codes with
  | none => s.reply 0x5E .badValue []
  | some named =>
    let kept := s.keptCauses named
    (s.clearCauses named).reply 0x5E (if kept = [] then .ok else .stillPresent) (u16 (Cause.code kept))

/-- CAUSE CLEAR. -/
def execCauseClear (codes : List Nat) (s : State) : Host.Outcome State Fault Refusal :=
  liveDriven s (fun s => s.takeRequest (.causeClear codes) (handleCauseClear codes))

/-! ### LINE QUERY (09 R170) -/

/-- LINE QUERY handled: the reply, then the notices-dropped indication cleared (09 R170). -/
def handleLineQuery (s : State) : State :=
  let s1 := s.reply 0x5F .ok s.lineReply
  { s1 with link := { s1.link with dropped := false } }

/-- LINE QUERY. -/
def execLineQuery (s : State) : Host.Outcome State Fault Refusal :=
  live s (fun s => s.takeRequest .lineQuery handleLineQuery)

/-! ### LINE CLEAR (09 R171) -/

/-- The record in a slot freed by LINE CLEAR, with its REMOVED notice (02 R35, 09 R171). -/
def State.clearSlot (s : State) (slot : Nat) : State :=
  match s.racks.get slot with
  | some r => s.dropRack slot r (some (.removed .cleared))
  | none => s

/-- The admission queue is discarded (02 R32, 09 R171). -/
def State.discardQueue (s : State) : State :=
  { s.queue.foldl (fun s e => s.lowerRefs e.recipe) s with queue := [] }

/-- The station map's clear rule (01 R8). -/
def State.clearStations (s : State) : State :=
  { s with stations := s.stations.mapIdx (fun n x =>
      { x with occ := if x.sensing && s.level n then .foreign else .empty }) }

/-- The clear rule of a hoist record (06 R128). -/
def HoistRec.clear (x : HoistRec) : HoistRec :=
  { x with
    st := match x.st with
      | .busy => .idle
      | .fault => .offline
      | st => st
    released := if x.st = .fault then false else x.released
    order := none
    timer := none
    suspended := false }

/-- CANCEL for an order still open when a hoist record is cleared (06 R128). -/
def State.cancelOpen (s : State) (h : Hoist) : State :=
  match (s.hoist h).order with
  | some o => s.sendHoist h (.cancel o.number)
  | none => s

/-- The clear rule of a hoist channel (06 R128). -/
def State.clearHoist (s : State) (h : Hoist) : State :=
  (s.cancelOpen h).setHoist h (s.hoist h).clear

/-- The clear rules of the blocks (09 R171 step 3): the station map, the bath table, the recipe store (its counts
fell with the records and entries), the dispatcher, the hoist channels, span control and the agitation marks with
the seat windows. -/
def State.clearBlocks (s : State) : State :=
  let s1 := s.clearStations
  let s2 := { s1 with
    baths := s1.baths.map (fun b => { b with areaInFlight := 0 })
    requests := Table.replicate 24 none
    dispatcher := { s1.dispatcher with notice := .clear, side := .above }
    marks := Table.replicate 32 .out
    windows := Table.replicate 32 none }
  ((((s2.clearHoist .a).clearHoist .b).emptySpan .a).emptySpan .b).setHandover Handover.blank

/-- RESUME to both hoists where the line was HALT, hoist A's first (09 R171 step 4; log 41). -/
def State.resumeIfHalted (s : State) : State :=
  if s.line.st = .halt then (s.sendHoist .a .resume).sendHoist .b .resume else s

/-- The effects of a LINE CLEAR that is taken (09 R171). The handover record is blanked first, so that no order
closed by the clear begins SHRINKING (07 R145, log 25). -/
def State.clearLine (s : State) : State :=
  let freed := (List.range Config.slots).foldl State.clearSlot (s.setHandover Handover.blank)
  { freed.discardQueue.clearBlocks.resumeIfHalted with line := { st := .standby, causes := [] } }

/-- LINE CLEAR handled (09 R171). -/
def handleLineClear (s : State) : State :=
  if s.line.st = .standby ∨ s.line.st = .halt then s.clearLine.reply 0x5D .ok []
  else s.reply 0x5D .wrongState []

/-- LINE CLEAR. -/
def execLineClear (s : State) : Host.Outcome State Fault Refusal :=
  liveDriven s (fun s => s.takeRequest .lineClear handleLineClear)

end Sys2Proof.Machine
end

