-- ==== Sys2Proof/Machine/RackRequests.lean ====
section
/-! DEFINITION. The order station's requests about racks: ADMIT, WITHDRAW, RACK REMOVE, RACK PLACE and RACK QUERY
(02 R29 to R43). -/

namespace Sys2Proof.Machine

/-! ### ADMIT (02 R29, R31, R32) -/

/-- The id is in the rack table or in the admission queue (02 R29). -/
def State.knownId (s : State) (id : Nat) : Bool := (s.slotOf id).isSome || s.queue.any (fun e => decide (e.id = id))

/-- A load station that check 5 of R29 accepts. -/
def Station.takesAdmit (x : Station) : Bool :=
  decide (x.kind = .load) && x.inService && (decide (x.occ = .empty) || decide (x.occ = .foreign))

/-- The first failing check of R29. -/
def State.admitRefusal (s : State) (e : QueueEntry) : Option ReplyCode :=
  if s.line.st = .standby then some .wrongState
  else if !admitFieldsOk e then some .badValue
  else if s.knownId e.id then some .duplicate
  else if (s.recipes.get e.recipe).st ≠ .ready then some .noRecipe
  else if !(s.stations.get e.load).takesAdmit then some .busy
  else if !s.loadSeated e.load then some .notLoaded
  else none

/-- An ADMIT joins the tail of the queue (02 R32). -/
def State.joinQueue (s : State) (e : QueueEntry) : State :=
  ({ s with queue := s.queue ++ [e] }.setOcc e.load (.reservedEntry e.id)).raiseRefs e.recipe

/-- ADMIT handled (02 R29, R31, R32). -/
def handleAdmit (e : QueueEntry) (s : State) : State :=
  match s.admitRefusal e with
  | some code => s.reply 0x40 code []
  | none =>
    if s.queue = [] ∧ s.admissionTest e = true then
      match s.freeSlot with
      | some slot => (((s.placeAdmitted e slot).raiseRefs e.recipe).reply 0x40 .ok []).noticeAdmitted slot
      | none => s
    else if s.queue.length < Config.admissionPlaces then (s.joinQueue e).reply 0x40 .queued []
    else s.reply 0x40 .full []

/-- ADMIT. -/
def execAdmitRack (id recipe load area : Nat) (adjust : Int) (s : State) : Host.Outcome State Fault Refusal :=
  liveDriven s (fun s => s.takeRequest (.admitRack id recipe load area adjust)
    (handleAdmit { id := id, recipe := recipe, load := load, area := area, adjust := adjust }))

/-! ### WITHDRAW (02 R37) -/

/-- A queue entry is withdrawn: it leaves the queue, its load station becomes EMPTY or FOREIGN, and its recipe's
count falls (02 R37). -/
def State.withdrawEntry (s : State) (e : QueueEntry) : State :=
  let s1 := { s with queue := s.queue.filter (fun x => decide (x.id ≠ e.id)) }
  let s2 :=
    if (s1.stations.get e.load).sensing && s1.level e.load then
      (s1.setOcc e.load .foreign).stationNotice .foreign e.load
    else (s1.setOcc e.load .empty).retryBlocked e.load
  s2.lowerRefs e.recipe

/-- The phase of the open order for the rack in a slot, if any. -/
def State.orderPhase (s : State) (slot : Nat) : Option Phase := (s.orderFor slot).map (fun p => p.2.phase)

/-- A rack that WITHDRAW frees: AT_LOAD with no open order, or with its order in phase SENT (02 R37). -/
def State.withdrawable (s : State) (slot : Nat) (r : Rack) : Bool :=
  decide (r.st = .atLoad) && (decide (s.orderPhase slot = none) || decide (s.orderPhase slot = some .sent))

/-- WITHDRAW handled (02 R37). -/
def handleWithdraw (id : Nat) (s : State) : State :=
  if !rackIdOk id then s.reply 0x41 .badValue []
  else match s.queue.find? (fun e => decide (e.id = id)) with
    | some e => (s.withdrawEntry e).reply 0x41 .ok []
    | none =>
      match s.slotOf id with
      | some slot =>
        match s.racks.get slot with
        | some r =>
          if s.withdrawable slot r then (s.freeRack slot (some (.removed .withdraw))).reply 0x41 .ok []
          else s.reply 0x41 .inFlight []
        | none => s.reply 0x41 .unknown []
      | none => s.reply 0x41 .unknown []

/-- WITHDRAW. -/
def execWithdraw (id : Nat) (s : State) : Host.Outcome State Fault Refusal :=
  liveDriven s (fun s => s.takeRequest (.withdraw id) (handleWithdraw id))

/-! ### RACK REMOVE (02 R38) -/

/-- A rack that RACK REMOVE refuses: CARRIED, or with an order in phase RELEASED (02 R38). -/
def State.inHoistHands (s : State) (slot : Nat) (r : Rack) : Bool :=
  decide (r.st = .carried) || decide (s.orderPhase slot = some .released)

/-- RACK REMOVE handled (02 R38). -/
def handleRackRemove (id : Nat) (s : State) : State :=
  if !rackIdOk id then s.reply 0x42 .badValue []
  else match s.slotOf id with
    | some slot =>
      match s.racks.get slot with
      | some r =>
        if s.inHoistHands slot r then s.reply 0x42 .inFlight []
        else (s.freeRack slot (some (.removed .remove))).reply 0x42 .ok []
      | none => s.reply 0x42 .unknown []
    | none => s.reply 0x42 .unknown []

/-- RACK REMOVE. -/
def execRackRemove (id : Nat) (s : State) : Host.Outcome State Fault Refusal :=
  liveDriven s (fun s => s.takeRequest (.rackRemove id) (handleRackRemove id))

/-! ### RACK PLACE (02 R41, R42) -/

/-- The station's kind fits the step index (02 R41, check 5). -/
def State.placeFits (s : State) (r : Rack) (step station : Nat) : Bool :=
  let x := s.stations.get station
  if step = 0 then decide (x.kind = .load)
  else if step = s.stepCount r + 1 then decide (x.kind = .unload)
  else match s.recipeStep r.recipe step with
    | some st => decide (x.kind = .bath) && decide (x.bath = st.bath)
    | none => false

/-- A station that check 6 of R41 accepts. -/
def Station.takesPlace (x : Station) : Bool := x.inService && (decide (x.occ = .empty) || decide (x.occ = .foreign))

/-- The first unfinished step of a rack placed into a step (02 R39, R42). -/
def placedFrom (step : Nat) : Nat := if step = 0 then 1 else step

/-- A bath that the placement brings into the set of R39. -/
def State.placeAdds (s : State) (r : Rack) (step b : Nat) : Bool :=
  s.usedFrom r.recipe (placedFrom step) b && !s.unfinishedIn r b

/-- A bath that the placement takes out of the set of R39. -/
def State.placeDrops (s : State) (r : Rack) (step b : Nat) : Bool :=
  s.unfinishedIn r b && !s.usedFrom r.recipe (placedFrom step) b

/-- Check 7 of R41: some bath would carry more than 65535 area units. -/
def State.placeOverflows (s : State) (r : Rack) (step : Nat) : Bool :=
  (List.range Config.baths).any (fun b =>
    s.placeAdds r step b && decide (65535 < (s.baths.get b).areaInFlight + r.area))

/-- The first failing check of R41 after the first two, for the rack found. -/
def State.placeRefusal (s : State) (r : Rack) (step station : Nat) : Option ReplyCode :=
  if r.st ≠ .stranded then some .wrongState
  else if s.stepCount r + 1 < step then some .badValue
  else if !s.placeFits r step station then some .badValue
  else if !(s.stations.get station).takesPlace then some .wrongState
  else if s.placeOverflows r step then some .full
  else none

/-- The flags a rack had in the step it was stranded in: its present flags where LIFTED had not been taken,
otherwise those of that step's history entry, or none (02 R42). -/
def Rack.strandedFlags (r : Rack) : List StepFlag :=
  if r.lifted then
    match r.history.find? (fun e => decide (e.step = r.stepIdx)) with
    | some e => e.flags
    | none => []
  else r.flags

/-- The state of a rack placed into a step with an accumulator and a target (02 R42). -/
def placedState (steps step acc target : Nat) : RackState :=
  if step = 0 then .atLoad
  else if step = steps + 1 then .atUnload
  else if target ≤ acc then .due else .immersed

/-- The record of a rack placed by hand (02 R42); `steps` is the number of steps of its recipe. -/
def Rack.placeBack (r : Rack) (steps step station target : Nat) (now : TickCount) : Rack :=
  let same := decide (step = r.stepIdx)
  let acc := if same then r.acc else 0
  let st := placedState steps step acc target
  { r with
    history := r.history.filter (fun e => decide (e.step < step))
    acc := acc
    overrun := if same then r.overrun else 0
    flags := StepFlag.manualPlaced.addTo (if same then r.strandedFlags else [])
    stepIdx := step
    target := target
    st := st
    dueTick := if st = .due then some now else none
    station := some station
    dest := none
    lifted := false }

/-- A RACK PLACE that passes its checks (02 R42). -/
def State.placeByHand (s : State) (slot : Nat) (r : Rack) (step station : Nat) : State :=
  let steps := s.stepCount r
  let next := r.placeBack steps step station (s.targetOf r step) s.tick
  let s1 := ((s.setOcc station (.occupied slot)).setRack slot (some next))
  let s2 := (s1.raiseArea (fun b => s.placeAdds r step b) r.area).lowerArea (fun b => s.placeDrops r step b) r.area
  if step = steps + 1 then s2.arriveUnload slot next station
  else
    ((if step = 0 then s2 else s2.beginImmersion r.recipe step station).createRequest slot).triggerPass

/-- RACK PLACE handled (02 R41, R42). -/
def handleRackPlace (id step station : Nat) (s : State) : State :=
  if !placeFieldsOk id step station then s.reply 0x43 .badValue []
  else match s.slotOf id with
    | some slot =>
      match s.racks.get slot with
      | some r =>
        match s.placeRefusal r step station with
        | some code => s.reply 0x43 code []
        | none => (s.placeByHand slot r step station).reply 0x43 .ok []
      | none => s.reply 0x43 .unknown []
    | none => s.reply 0x43 .unknown []

/-- RACK PLACE. -/
def execRackPlace (id step station : Nat) (s : State) : Host.Outcome State Fault Refusal :=
  liveDriven s (fun s => s.takeRequest (.rackPlace id step station) (handleRackPlace id step station))

/-! ### RACK QUERY (02 R43) -/

/-- The reply to RACK QUERY (02 R43). -/
def State.rackQueryReply (s : State) (id index : Nat) : ReplyCode × List Byte :=
  if !(rackIdOk id && decide (index ≤ 12)) then (.badValue, [])
  else match s.slotOf id with
    | some slot =>
      match s.racks.get slot with
      | some r => (.ok, s.rackReply slot r index)
      | none => (.unknown, [])
    | none =>
      match s.queue.zipIdx.find? (fun p => decide (p.1.id = id)) with
      | some (e, n) => (.ok, e.reply (n + 1))
      | none => (.unknown, [])

/-- RACK QUERY handled (02 R43). -/
def handleRackQuery (id index : Nat) (s : State) : State :=
  s.reply 0x44 (s.rackQueryReply id index).1 (s.rackQueryReply id index).2

/-- RACK QUERY. -/
def execRackQuery (id index : Nat) (s : State) : Host.Outcome State Fault Refusal :=
  live s (fun s => s.takeRequest (.rackQuery id index) (handleRackQuery id index))

end Sys2Proof.Machine
end

