-- ==== Sys2Proof/Machine/Reports.lean ====
section
/-! DEFINITION. The ten hoist reports and the two cabinet reports (06 R111 to R125, 07 R132, 04 R68 to R70, R78). -/

namespace Sys2Proof.Machine

/-! ### Reports that name an order (06 R111) -/

/-- The open order of a hoist that a report naming this number is about (06 R111). -/
def State.namedOrder (s : State) (h : Hoist) (number : Nat) : Option Order :=
  match (s.hoist h).order with
  | some o => if o.number = number then some o else none
  | none => none

/-- A report that names an order and carries a position: stray where the position is none or the order is not
open; otherwise the meaning acts on the order and the position (06 R111). -/
def State.orderReport (s : State) (h : Hoist) (number : Nat) (position : Option Int)
    (act : Order → Int → State) : State :=
  match readPosition position, s.namedOrder h number with
  | some p, some o => act o p
  | _, _ => s.stray h

/-- The phase of a hoist's open order changed, with its timer (06 R113). -/
def State.toPhase (s : State) (h : Hoist) (o : Order) (phase : Phase) (timer : Option Nat) : State :=
  let s1 := s.setHoist h { s.hoist h with order := some { o with phase := phase } }
  match timer with
  | some v => s1.setTimer h v
  | none => s1.setHoist h { s1.hoist h with timer := none }

/-- ACCEPT taken (06 R114, R119, R122). -/
def takeAccept (h : Hoist) (number : Nat) (position : Option Int) (s : State) : State :=
  s.orderReport h number position (fun o p =>
    if o.phase = .sent ∧ o.cancelOut = false then
      let x := s.hoist h
      (s.recordPosition h p).toPhase h o .accepted (some (x.travel p o.source + x.timing.approach))
    else s.stray h)

/-- The hoist is over the source: LIFT at once where the rack is ready, otherwise the hoist waits (06 R115). -/
def State.poise (s : State) (h : Hoist) (o : Order) : State :=
  match s.racks.get o.slot with
  | some r => if r.readyToLift then s.releaseLift h else s.toPhase h o .poised none
  | none => s.toPhase h o .poised none

/-- POISED taken (06 R115, R119, R122). -/
def takePoised (h : Hoist) (number : Nat) (position : Option Int) (s : State) : State :=
  s.orderReport h number position (fun o p =>
    if (o.phase = .sent ∨ o.phase = .accepted) ∧ o.cancelOut = false then (s.recordPosition h p).poise h o
    else s.stray h)

/-- LIFTED taken (06 R116, R117, R119, R122). -/
def takeLifted (h : Hoist) (number : Nat) (position : Option Int) (s : State) : State :=
  s.orderReport h number position (fun o p =>
    match o.phase with
    | .lifted => s.stray h
    | .released => (s.recordPosition h p).doLift h false
    | _ => (s.recordPosition h p).doLift h true)

/-- PLACED taken; before LIFTED it is taken as the LIFTED that phase would take, followed by the PLACED
(06 R118, R119, R122). -/
def takePlaced (h : Hoist) (number : Nat) (position : Option Int) (s : State) : State :=
  s.orderReport h number position (fun o p =>
    match o.phase with
    | .lifted => (s.recordPosition h p).doPlace h
    | .released => ((s.recordPosition h p).doLift h false).doPlace h
    | _ => ((s.recordPosition h p).doLift h true).doPlace h)

/-- The reason code of a REFUSE kept (06 R120). -/
def State.keepRefusal (s : State) (h : Hoist) (reason : Nat) : State :=
  s.setHoist h { s.hoist h with lastRefusal := some reason }

/-- REFUSE taken (06 R119, R120, R122). -/
def takeRefuse (h : Hoist) (number reason : Nat) (s : State) : State :=
  match s.namedOrder h number with
  | none => s.stray h
  | some o =>
    if o.cancelOut then (s.keepRefusal h reason).callOff h o
    else match o.phase with
      | .sent => ((s.keepRefusal h reason).markRefused h o.slot).callOff h o
      | .accepted => ((s.keepRefusal h reason).markRefused h o.slot).callOff h o
      | _ => s.enterFault h .protocol

/-- CANCELLED taken (06 R119, R122). -/
def takeCancelled (h : Hoist) (number : Nat) (s : State) : State :=
  match s.namedOrder h number with
  | none => s.stray h
  | some o =>
    if o.cancelOut then s.callOff h o
    else match o.phase with
      | .sent => s.callOff h o
      | .accepted => s.callOff h o
      | .poised => s.callOff h o
      | .released => s.enterFault h .protocol
      | .lifted =>
        if o.cancelCrossed then
          (s.setHoist h { s.hoist h with order := some { o with cancelCrossed := false } }).stray h
        else s.enterFault h .protocol

/-! ### The other hoist reports (06 R111, R123, R125) -/

/-- POSITION taken (06 R111). -/
def takePosition (h : Hoist) (position : Option Int) (s : State) : State :=
  match readPosition position with
  | some p => s.recordPosition h p
  | none => s.stray h

/-- FAULT taken (06 R123). -/
def takeFault (h : Hoist) (code : Nat) (s : State) : State :=
  match (s.hoist h).st with
  | .idle => s.enterFault h (.reported code)
  | .busy => s.enterFault h (.reported code)
  | _ => s.setHoist h { s.hoist h with reason := .reported code }

/-- A hoist out of an order enters IDLE by its HELLO: a pass, and SPAN with its recorded span (06 R125). -/
def State.helloIdle (s : State) (h : Hoist) : State :=
  ((s.setHoist h { s.hoist h with st := .idle }).sendSpan h).triggerPass

/-- The position is the hoist's park. -/
def atPark (h : Hoist) (p : Option Int) : Bool := decide (p = some h.park)

/-- The position lies in a span. -/
def Span.holdsReported (sp : Span) (p : Option Int) : Bool :=
  match p with
  | some x => sp.holds x
  | none => false

/-- The position of a HELLO from an IDLE hoist checked (06 R125, 07 R134). -/
def State.checkHello (s : State) (h : Hoist) (p : Option Int) : State :=
  match p with
  | some x => s.checkPosition h x (s.checkedSpan h)
  | none => s

/-- HELLO taken, its position recorded in every state (06 R125, log 19). -/
def takeHello (h : Hoist) (position : Option Int) (s : State) : State :=
  let p := readPosition position
  let s1 := s.notePosition h p
  match (s.hoist h).st with
  | .offline =>
    if atPark h p then (s1.setHoist h { s1.hoist h with released := false }).helloIdle h else s1.sendSpan h
  | .idle => (s1.checkHello h p).sendSpan h
  | .busy => s1.enterFault h .restart
  | .fault =>
    if (s.spanOf h).holdsReported p || atPark h p then s1.helloIdle h else s1.addCause .spanViolation

/-- SPAN_ACK taken (07 R132, R139, R140). -/
def takeSpanAckReport (h : Hoist) (sequence : Nat) (position : Option Int) (s : State) : State :=
  s.takeSpanAck h sequence position

/-! ### Cabinet reports (04 R68 to R70, R78) -/

/-- A cabinet report that names no bath is counted (04 R70). -/
def State.strayCabinet (s : State) : State :=
  { s with link := { s.link with strayBath := saturate Config.max16 s.link.strayBath } }

/-- The bath record after a valid temperature report (04 R68). -/
def Bath.freshen (b : Bath) (t : Int) : Bath :=
  { b with temp := some t, status := .fresh, staleCount := 0, probeFault := false }.computePending

/-- A valid report sends RESTORED where the status was STALE or LAPSED or probe fault was set (04 R68). -/
def Bath.restores (b : Bath) : Bool := decide (b.status = .stale) || decide (b.status = .lapsed) || b.probeFault

/-- TEMP taken (04 R68 to R70). -/
def takeTemp (b : Nat) (t : Int) (s : State) : State :=
  if !bathOk b then s.strayCabinet
  else
    let x := s.baths.get b
    if 100 ≤ t ∧ t ≤ 400 then
      let s1 := s.setBath b (x.freshen t)
      if x.restores then s1.bathNotice (.restored x.status) b else s1
    else
      let s1 := s.setBath b { x with probeFault := true }
      if x.probeFault then s1 else s1.bathNotice (.probeFault t) b

/-- PUMPED taken (04 R70, R78). -/
def takePumped (b volume : Nat) (s : State) : State :=
  if !bathOk b then s.strayCabinet
  else
    let x := s.baths.get b
    (s.setBath b { x with owed := x.owed - volume }.computePending).sendOwed b

/-! ### The commands -/

/-- HELLO. -/
def execHello (h : Hoist) (position : Option Int) (s : State) : Host.Outcome State Fault Refusal :=
  liveDriven s (takeHello h position)

/-- ACCEPT. -/
def execAccept (h : Hoist) (number : Nat) (position : Option Int) (s : State) : Host.Outcome State Fault Refusal :=
  liveDriven s (takeAccept h number position)

/-- REFUSE. -/
def execRefuse (h : Hoist) (number reason : Nat) (s : State) : Host.Outcome State Fault Refusal :=
  liveDriven s (takeRefuse h number reason)

/-- POISED. -/
def execPoised (h : Hoist) (number : Nat) (position : Option Int) (s : State) : Host.Outcome State Fault Refusal :=
  liveDriven s (takePoised h number position)

/-- LIFTED. -/
def execLifted (h : Hoist) (number : Nat) (position : Option Int) (s : State) : Host.Outcome State Fault Refusal :=
  liveDriven s (takeLifted h number position)

/-- PLACED. -/
def execPlaced (h : Hoist) (number : Nat) (position : Option Int) (s : State) : Host.Outcome State Fault Refusal :=
  liveDriven s (takePlaced h number position)

/-- CANCELLED. -/
def execCancelled (h : Hoist) (number : Nat) (s : State) : Host.Outcome State Fault Refusal :=
  liveDriven s (takeCancelled h number)

/-- POSITION. -/
def execPosition (h : Hoist) (position : Option Int) (s : State) : Host.Outcome State Fault Refusal :=
  liveDriven s (takePosition h position)

/-- SPAN ACK. -/
def execSpanAck (h : Hoist) (sequence : Nat) (position : Option Int) (s : State) : Host.Outcome State Fault Refusal :=
  liveDriven s (takeSpanAckReport h sequence position)

/-- FAULT. -/
def execFault (h : Hoist) (code : Nat) (s : State) : Host.Outcome State Fault Refusal :=
  liveDriven s (takeFault h code)

/-- TEMP. -/
def execTemp (b : Nat) (t : Int) (s : State) : Host.Outcome State Fault Refusal :=
  liveDriven s (takeTemp b t)

/-- PUMPED. -/
def execPumped (b volume : Nat) (s : State) : Host.Outcome State Fault Refusal :=
  liveDriven s (takePumped b volume)

end Sys2Proof.Machine
end

