-- ==== Sys2Proof/Machine/Agitation.lean ====
section
/-! DEFINITION. Gas-burst agitation (08 R147 to R157): the generators, CYCLE_START, BURST_END, AGITATION SET and
AGITATION QUERY. -/

namespace Sys2Proof

/-- A program whose four fields are 0 (08 R147). -/
def Program.isZero (p : Program) : Bool :=
  decide (p.prescale = 0) && decide (p.cycle = 0) && decide (p.width = 0) && decide (p.extra = 0)

/-- The cycle length in units (08 R147). -/
def Program.cycleUnits (p : Program) : Nat := (p.cycle + 1) * 16

/-- The burst length of cycle j (08 R149). -/
def Program.burstUnits (p : Program) (j : Nat) : Nat :=
  min (p.width + (if Machine.spread p.extra j then 1 else 0)) p.cycleUnits

end Sys2Proof

namespace Sys2Proof.Machine

/-- Steps 1 to 4 of a cycle start (08 R148). -/
def Generator.cycleStart (g : Generator) : Generator :=
  let p := g.pendingP.getD g.active
  let j := (g.cycle + 1) % 16
  if p.isZero then
    { active := p, pendingP := none, running := false, sample := 0, unit := 0, cycle := 0, burstLen := 0,
      burst := false }
  else
    { active := p, pendingP := none, running := true, sample := 0, unit := 0, cycle := j,
      burstLen := p.burstUnits j, burst := decide (1 ≤ p.burstUnits j) }

/-- A STOPPED generator started with a program, in cycle 0 (08 R150). -/
def startedGenerator (p : Program) : Generator where
  active := p
  pendingP := none
  running := true
  sample := 0
  unit := 0
  cycle := 0
  burstLen := p.burstUnits 0
  burst := decide (1 ≤ p.burstUnits 0)

/-- Every WAITING station of a bath becomes JOINED (08 R148 step 5, R152). -/
def State.joinWaiting (s : State) (b : Nat) : State :=
  { s with marks := s.marks.mapIdx (fun n m =>
      if m = .waiting ∧ (s.stations.get n).bath = b then .joined else m) }

/-- A cycle start of a bath's generator (08 R148). -/
def State.cycleStart (s : State) (b : Nat) : State :=
  let g := (s.gens.get b).cycleStart
  let s1 := s.setGen b g
  if g.running then s1.joinWaiting b else s1

/-- The cycle of a RUNNING generator has ended: its unit index has reached the cycle length (08 R148). -/
def Generator.cycleOver (g : Generator) : Bool := g.running && decide (g.active.cycleUnits ≤ g.unit)

/-- The burst of a RUNNING generator has ended: its unit index has reached b within the cycle (08 R149). -/
def Generator.burstOver (g : Generator) : Bool :=
  g.running && g.burst && decide (g.burstLen ≤ g.unit) && decide (g.unit < g.active.cycleUnits)

/-- One sample counted (08 R148). -/
def Generator.count (g : Generator) : Generator :=
  if g.active.prescale + 1 ≤ g.sample + 1 then { g with sample := 0, unit := g.unit + 1 }
  else { g with sample := g.sample + 1 }

/-- The cycle start or the burst end that a bath's generator has reached (08 R148, R149). -/
def State.settleGen (s : State) (b : Nat) : State :=
  let g := s.gens.get b
  if g.cycleOver then s.cycleStart b
  else if g.burstOver then s.setGen b { g with burst := false }
  else s

/-- A bath's generator at a sample event; a STOPPED generator does not count (08 R148). -/
def State.sampleGen (s : State) (b : Nat) : State :=
  if (s.gens.get b).running then (s.setGen b (s.gens.get b).count).settleGen b else s

/-- CYCLE_START of a bath's generator: the cycle start that a RUNNING generator takes when its unit index has
reached the cycle length; otherwise nothing changes (08 R148, log 2). -/
def execCycleStart (b : Nat) (s : State) : Host.Outcome State Fault Refusal :=
  liveDriven s (fun s => if (s.gens.get b).cycleOver then s.cycleStart b else s)

/-- BURST_END of a bath's generator: the burst goes off when the unit index has reached b; otherwise nothing
changes (08 R149, log 2). -/
def execBurstEnd (b : Nat) (s : State) : Host.Outcome State Fault Refusal :=
  liveDriven s (fun s => if (s.gens.get b).burstOver then s.setGen b { s.gens.get b with burst := false } else s)

/-- A program given to a bath's generator (08 R150). -/
def State.setProgram (s : State) (b : Nat) (p : Program) : State :=
  let g := s.gens.get b
  if g.running then s.setGen b { g with pendingP := some p }
  else if p.isZero then s
  else (s.setGen b (startedGenerator p)).joinWaiting b

/-- AGITATION SET handled (08 R150). -/
def handleAgitationSet (b : Nat) (p : Program) (s : State) : State :=
  if programOk b p then (s.setProgram b p).reply 0x57 .ok [] else s.reply 0x57 .badValue []

/-- AGITATION SET. -/
def execAgitationSet (b : Nat) (p : Program) (s : State) : Host.Outcome State Fault Refusal :=
  liveDriven s (fun s => s.takeRequest (.agitationSet b p) (handleAgitationSet b p))

/-- AGITATION QUERY handled (08 R157). -/
def handleAgitationQuery (b group : Nat) (s : State) : State :=
  if bathOk b && decide (group ≤ 1) then s.reply 0x58 .ok (s.agitationReply b group) else s.reply 0x58 .badValue []

/-- AGITATION QUERY. -/
def execAgitationQuery (b group : Nat) (s : State) : Host.Outcome State Fault Refusal :=
  live s (fun s => s.takeRequest (.agitationQuery b group) (handleAgitationQuery b group))

end Sys2Proof.Machine
end

