-- ==== Sys2Proof/Machine/StationIo.lean ====
section
/-! DEFINITION. Station inputs and outputs (10 R172 to R183): the sample event, the seat and auxiliary events, the
output fault marks, and the order station's requests about inputs and outputs. -/

namespace Sys2Proof.Machine

/-! ### Seat events (10 R175, R176, 02 R36) -/

/-- The entry a station is RESERVED for is the head of the admission queue (10 R175). -/
def State.headIs (s : State) (id : Nat) : Bool :=
  match s.queue with
  | e :: _ => decide (e.id = id)
  | [] => false

/-- A SEATED event at a station with seat sensing on (10 R175). -/
def State.seatedAt (s : State) (n : Nat) : State :=
  match (s.stations.get n).occ with
  | .empty => (s.setOcc n .foreign).stationNotice .foreign n
  | .reservedEntry id => if s.headIs id then s.retestHead else s
  | .reservedRack slot =>
    match s.racks.get slot with
    | some r => if r.st = .carried then s else s.stationNotice .intruded n
    | none => s.stationNotice .intruded n
  | .occupied _ => s.setWindow n none
  | .foreign => s

/-- The logical level of an input set by an event, with its run count at 0 (10 R173). -/
def State.setLevel (s : State) (n : Nat) (level : Bool) : State :=
  s.setInput n { s.io.inputs.get n with level := level, run := 0 }

/-- What a seat input's becoming seated does (10 R175). -/
def State.seatEvent (s : State) (n : Nat) : State := if (s.stations.get n).sensing then s.seatedAt n else s

/-- The seat of the rack AT_LOAD in a slot has released (02 R36). -/
def State.loadReleased (s : State) (slot : Nat) : State :=
  match s.orderFor slot with
  | none => s.freeRack slot (some (.removed .loadReleased))
  | some (_, o) =>
    if o.phase = .sent ∨ o.phase = .accepted then s.freeRack slot (some (.removed .loadReleased)) else s

/-- The seat of a rack in a bath has released: UNEXPECTED_RELEASE unless LIFT has been sent (10 R176). -/
def State.bathReleased (s : State) (slot : Nat) : State :=
  match s.orderFor slot with
  | none => s.addFlag slot .unexpectedRelease
  | some (_, o) =>
    if o.phase = .sent ∨ o.phase = .accepted ∨ o.phase = .poised then s.addFlag slot .unexpectedRelease else s

/-- A RELEASED event at a station with seat sensing on (10 R176). -/
def State.releasedAt (s : State) (n : Nat) : State :=
  match (s.stations.get n).occ with
  | .foreign => ((s.setOcc n .empty).stationNotice .empty n).retryBlocked n
  | .occupied slot =>
    match s.racks.get slot with
    | some r =>
      match r.st with
      | .atLoad => s.loadReleased slot
      | .immersed => s.bathReleased slot
      | .due => s.bathReleased slot
      | .atUnload => s.freeRack slot (some (.done true))
      | _ => s
    | none => s
  | _ => s

/-- What a seat input's becoming released does (10 R176). -/
def State.releaseEvent (s : State) (n : Nat) : State := if (s.stations.get n).sensing then s.releasedAt n else s

/-! ### Auxiliary events (10 R178) -/

/-- A rack in a station whose mark is WAITING or JOINED gains AGITATION_LOST (08 R155, R156). -/
def State.loseAgitation (s : State) (n : Nat) : State :=
  if s.marks.get n = .out then s
  else match s.rackAt n with
    | some (slot, _) => s.addFlag slot .agitationLost
    | none => s

/-- GAS-OK has become inactive: GAS_LOW, and AGITATION_LOST for every rack in agitation (10 R178, 08 R155). -/
def State.gasLost (s : State) : State := (List.range Config.stations).foldl State.loseAgitation (s.addCause .gasLow)

/-- The event of an input whose logical level has changed to the level given (10 R173, R175, R176, R178). -/
def State.inputEvent (s : State) (n : Nat) (level : Bool) : State :=
  if n < Config.stations then (if level then s.seatEvent n else s.releaseEvent n)
  else if n = Config.eStop then (if level then s.addCause .estop else s)
  else if n = Config.gasOk then (if level then s else s.gasLost)
  else if n = Config.pause then (if level then s.addCause .pauseInput else s)
  else s

/-- An input event commanded on its own: it is taken where the input is enabled and its logical level differs
from the new one, which it becomes; otherwise nothing changes (log 4). Before the first sample, where R172 has every
level released or inactive, it is taken as at any other time (log 42). -/
def State.pinEvent (s : State) (n : Nat) (level : Bool) : State :=
  if n < Config.inputs ∧ (s.io.inputs.get n).enabled = true ∧ s.level n ≠ level then
    (s.setLevel n level).inputEvent n level
  else s

/-- SEATED (10 R175). -/
def execSeated (n : Nat) (s : State) : Host.Outcome State Fault Refusal :=
  liveDriven s (fun s => if stationOk n then s.pinEvent n true else s)

/-- RELEASED (10 R176). -/
def execReleased (n : Nat) (s : State) : Host.Outcome State Fault Refusal :=
  liveDriven s (fun s => if stationOk n then s.pinEvent n false else s)

/-- E_STOP_ACTIVE (10 R178). -/
def execEStopActive (s : State) : Host.Outcome State Fault Refusal :=
  liveDriven s (fun s => s.pinEvent Config.eStop true)

/-- GAS_OK_INACTIVE (10 R178, 08 R155). -/
def execGasOkInactive (s : State) : Host.Outcome State Fault Refusal :=
  liveDriven s (fun s => s.pinEvent Config.gasOk false)

/-- GAS_OK_ACTIVE: valve functions follow their generators again (10 R178, 08 R155). -/
def execGasOkActive (s : State) : Host.Outcome State Fault Refusal :=
  liveDriven s (fun s => s.pinEvent Config.gasOk true)

/-- PAUSE_ACTIVE (10 R178). -/
def execPauseActive (s : State) : Host.Outcome State Fault Refusal :=
  liveDriven s (fun s => s.pinEvent Config.pause true)

end Sys2Proof.Machine

/-- The input number of E-STOP or PAUSE (10, Inputs). -/
def Sys2Proof.AuxInput.number : AuxInput → Nat
  | .eStop => Config.eStop
  | .pause => Config.pause

namespace Sys2Proof.Machine

/-- AUXILIARY_INACTIVE: the level changes and nothing else (10 R178). -/
def execAuxiliaryInactive (which : AuxInput) (s : State) : Host.Outcome State Fault Refusal :=
  liveDriven s (fun s => s.pinEvent which.number false)

/-! ### Output monitoring (10 R182) -/

/-- What an output line's becoming marked faulted does: OUTPUT_FAULT, and AGITATION_LOST for the rack of a valve
line's station (10 R182, 08 R156). -/
def State.faultMarked (s : State) (n : Nat) : State :=
  let s1 := s.addCause .outputFault
  if n < Config.stations then s1.loseAgitation n else s1

/-- OUTPUT_FAULT_MARK_SET: a line whose mark is clear becomes marked faulted; otherwise nothing changes
(10 R182, log 4). -/
def execOutputFaultMarkSet (n : Nat) (s : State) : Host.Outcome State Fault Refusal :=
  liveDriven s (fun s =>
    let o := s.io.outputs.get n
    if n < Config.outputs ∧ o.faulted = false then
      (s.setOutput n { o with faulted := true, run := 0 }).faultMarked n
    else s)

/-- OUTPUT_FAULT_MARK_CLEAR: a line's fault mark clears (10 R182, log 4). -/
def execOutputFaultMarkClear (n : Nat) (s : State) : Host.Outcome State Fault Refusal :=
  liveDriven s (fun s =>
    let o := s.io.outputs.get n
    if n < Config.outputs ∧ o.faulted = true then s.setOutput n { o with faulted := false, run := 0 } else s)

/-! ### The sample event (10 R172, R173, R182) -/

/-- A raw level read through an input's polarity (10 R172). -/
def Input.reading (x : Input) (raw : Bool) : Bool := if x.polarity = .activeHigh then raw else !raw

/-- An input at its first sample after power-on: seeded with no event; a disabled input keeps its level
(10 R172, log 23). -/
def Input.seed (x : Input) (raw : Bool) : Input :=
  if x.enabled then { x with raw := raw, level := x.reading raw, run := 0 } else { x with raw := raw }

/-- An input at a later sample (10 R173). -/
def Input.sample (x : Input) (raw : Bool) : Input :=
  if !x.enabled then { x with raw := raw }
  else if x.reading raw = x.level then { x with raw := raw, run := 0 }
  else if x.debounce ≤ x.run + 1 then { x with raw := raw, level := x.reading raw, run := 0 }
  else { x with raw := raw, run := x.run + 1 }

/-- An output at a sample: the monitor level, the run count and the fault mark (10 R182). -/
def Output.sample (o : Output) (monitor : Bool) : Output :=
  let agrees := decide (monitor = o.commanded)
  if agrees = o.faulted then
    if Config.monitorSamples ≤ o.run + 1 then { o with monitor := monitor, run := 0, faulted := !o.faulted }
    else { o with monitor := monitor, run := o.run + 1 }
  else { o with monitor := monitor, run := 0 }

/-- Every input and output sampled. -/
def State.sampleLines (s : State) (pins monitors : BitVec 35) : State :=
  { s with io :=
      { inputs := s.io.inputs.mapIdx (fun n x =>
          if s.io.seeded then x.sample (pins.getLsbD n) else x.seed (pins.getLsbD n))
        outputs := s.io.outputs.mapIdx (fun n o => o.sample (monitors.getLsbD n))
        seeded := true } }

/-- The inputs whose logical level changed between two states, ascending. -/
def changedInputs (before after : State) : List Nat :=
  (List.range Config.inputs).filter (fun n => decide (before.level n ≠ after.level n))

/-- The outputs marked faulted between two states, ascending. -/
def newlyFaulted (before after : State) : List Nat :=
  (List.range Config.outputs).filter (fun n =>
    !(before.io.outputs.get n).faulted && (after.io.outputs.get n).faulted)

/-- The events of a sample that is not the first: inputs in ascending order, then output fault marks
(log 3). -/
def State.sampleEvents (s before : State) : State :=
  let s1 := (changedInputs before s).foldl (fun t n => t.inputEvent n (s.level n)) s
  (newlyFaulted before s).foldl State.faultMarked s1

/-- SAMPLE_EVENT: inputs and monitors sampled, their events taken, and the generators counted
(10 R172, R173, R182, 08 R148). The first sample after power-on seeds the inputs and makes no input event. -/
def execSampleEvent (pins monitors : BitVec 35) (s : State) : Host.Outcome State Fault Refusal :=
  liveDriven s (fun s =>
    let s1 := s.sampleLines pins monitors
    let s2 := if s.io.seeded then s1.sampleEvents s else (newlyFaulted s s1).foldl State.faultMarked s1
    (List.range Config.baths).foldl State.sampleGen s2)

/-! ### Requests (10 R174, R180, R181, R183) -/

/-- The input after INPUT SET (10 R174). Before the first sample every level stays released or inactive
(10 R172, log 23). -/
def Input.configure (x : Input) (debounce : Nat) (polarity : Polarity) (enabled seeded : Bool) : Input :=
  let y := { x with debounce := debounce, polarity := polarity, enabled := enabled, run := 0 }
  if seeded && enabled && (decide (polarity ≠ x.polarity) || !x.enabled) then { y with level := y.reading x.raw } else y

/-- INPUT SET handled (10 R174). -/
def handleInputSet (n debounce : Nat) (polarity : Option Polarity) (enable : Option Bool) (s : State) : State :=
  match readInputFields n debounce polarity enable with
  | none => s.reply 0x60 .badValue []
  | some (p, e) => (s.setInput n ((s.io.inputs.get n).configure debounce p e s.io.seeded)).reply 0x60 .ok []

/-- INPUT SET. -/
def execInputSet (n debounce : Nat) (polarity : Option Polarity) (enable : Option Bool) (s : State) :
    Host.Outcome State Fault Refusal :=
  liveDriven s (fun s => s.takeRequest (.inputSet n debounce polarity enable) (handleInputSet n debounce polarity enable))

/-- A station holds a rack that is IMMERSED or DUE in a step whose agitate field is yes (10 R180). -/
def State.agitatedAt (s : State) (n : Nat) : Bool :=
  match s.rackAt n with
  | some (_, r) => r.inBath && (match s.currentStep r with | some st => st.agitate | none => false)
  | none => false

/-- The mode of a line written (10 R180). -/
def State.setMode (s : State) (n : Nat) (m : OutputMode) : State := s.setOutput n { s.io.outputs.get n with mode := m }

/-- OUTPUT MODE to MANUAL is refused for a pair that holds an agitated rack, but in HALT (10 R180). -/
def State.pairBusy (s : State) (p : Nat) : Bool :=
  (s.agitatedAt (2 * p) || s.agitatedAt (2 * p + 1)) && decide (s.line.st ≠ .halt)

/-- The mode of a pair that is in force already: asking for it again changes nothing (10 R180). -/
def State.pairInMode (s : State) (p : Nat) (m : OutputMode) : Bool :=
  decide ((s.io.outputs.get (2 * p)).mode = m) && decide ((s.io.outputs.get (2 * p + 1)).mode = m)

/-- OUTPUT MODE handled (10 R180). -/
def handleOutputMode (target : ModeTarget) (mode : Option OutputMode) (s : State) : State :=
  match target, mode with
  | .pair p, some m =>
    if 16 ≤ p then s.reply 0x61 .badValue []
    else if s.pairInMode p m then s.reply 0x61 .ok []
    else if m = .manual ∧ s.pairBusy p = true then s.reply 0x61 .busy []
    else ((s.setMode (2 * p) m).setMode (2 * p + 1) m).reply 0x61 .ok []
  | .sounder, some m => (s.setMode Config.sounder m).reply 0x61 .ok []
  | _, _ => s.reply 0x61 .badValue []

/-- OUTPUT MODE. -/
def execOutputMode (target : ModeTarget) (mode : Option OutputMode) (s : State) : Host.Outcome State Fault Refusal :=
  liveDriven s (fun s => s.takeRequest (.outputMode target mode) (handleOutputMode target mode))

/-- OUTPUT LATCH handled (10 R181). -/
def handleOutputLatch (n : Nat) (level : Option Bool) (s : State) : State :=
  match level with
  | some l =>
    if latchable n then (s.setOutput n { s.io.outputs.get n with latch := l }).reply 0x62 .ok []
    else s.reply 0x62 .badValue []
  | none => s.reply 0x62 .badValue []

/-- OUTPUT LATCH. -/
def execOutputLatch (n : Nat) (level : Option Bool) (s : State) : Host.Outcome State Fault Refusal :=
  liveDriven s (fun s => s.takeRequest (.outputLatch n level) (handleOutputLatch n level))

/-- IO QUERY handled (10 R183). -/
def handleIoQuery (kind : Option IoKind) (n : Nat) (s : State) : State :=
  match kind with
  | some .input => if n < Config.inputs then s.reply 0x63 .ok (s.inputReply n) else s.reply 0x63 .badValue []
  | some .output => if n < Config.outputs then s.reply 0x63 .ok (s.outputReply n) else s.reply 0x63 .badValue []
  | none => s.reply 0x63 .badValue []

/-- IO QUERY. -/
def execIoQuery (kind : Option IoKind) (n : Nat) (s : State) : Host.Outcome State Fault Refusal :=
  live s (fun s => s.takeRequest (.ioQuery kind n) (handleIoQuery kind n))

end Sys2Proof.Machine
end

