-- ==== Sys2Proof/Machine/StationRequests.lean ====
section
/-! DEFINITION. The order station's requests about stations, baths and recipes (01 R4 to R18, 04 R79, R82). -/

namespace Sys2Proof.Machine

/-! ### STATION SET (01 R4 to R6) -/

/-- Occupancy of an EMPTY or FOREIGN station after a change of seat sensing (01 R6). -/
def sensedOccupancy (occ : Occupancy) (was now level : Bool) : Occupancy :=
  if was && !now && decide (occ = .foreign) then .empty
  else if !was && now && decide (occ = .empty) && level then .foreign
  else occ

/-- STATION SET taken in STANDBY: the four fields written, occupancy brought into step with the seat input, and
a STATION notice where the station becomes FOREIGN (01 R4, R6). -/
def State.writeStation (s : State) (n : Nat) (kind : StationKind) (bath : Nat) (sensing inService : Bool) : State :=
  let x := s.stations.get n
  let occ := sensedOccupancy x.occ x.sensing sensing (s.level n)
  let s1 := s.setStation n
    { kind := kind, bath := if kind = .bath then bath else 0, sensing := sensing, inService := inService, occ := occ }
  if occ = .foreign ∧ x.occ ≠ .foreign then s1.stationNotice .foreign n else s1

/-- A request of the only form RUN and HOLD take: the station's present kind, bath and seat sensing, and in
service no (01 R5). -/
def Station.takenOut (x : Station) (kind : StationKind) (bath : Nat) (sensing inService : Bool) : Bool :=
  decide (kind = x.kind) && decide (bath = x.bath) && decide (sensing = x.sensing) && !inService

/-- STATION SET handled (01 R4, R5). -/
def handleStationSet (n : Nat) (kind : Option StationKind) (bath : Nat) (sensing inService : Option Bool)
    (s : State) : State :=
  match readStationFields n kind bath sensing inService with
  | none => s.reply 0x45 .badValue []
  | some (k, se, sv) =>
    match s.line.st with
    | .standby => (s.writeStation n k bath se sv).reply 0x45 .ok []
    | .halt => s.reply 0x45 .wrongState []
    | _ =>
      let x := s.stations.get n
      if !x.takenOut k bath se sv then s.reply 0x45 .wrongState []
      else if x.occ ≠ .empty then s.reply 0x45 .busy []
      else (s.setStation n { x with inService := false }).reply 0x45 .ok []

/-- STATION SET. -/
def execStationSet (n : Nat) (kind : Option StationKind) (bath : Nat) (sensing inService : Option Bool) (s : State) :
    Host.Outcome State Fault Refusal :=
  liveDriven s (fun s => s.takeRequest (.stationSet n kind bath sensing inService)
    (handleStationSet n kind bath sensing inService))

/-! ### STATION QUERY (01 R7) -/

/-- STATION QUERY handled (01 R7). -/
def handleStationQuery (n : Nat) (s : State) : State :=
  if stationOk n then s.reply 0x46 .ok (s.stationReply n) else s.reply 0x46 .badValue []

/-- STATION QUERY. -/
def execStationQuery (n : Nat) (s : State) : Host.Outcome State Fault Refusal :=
  live s (fun s => s.takeRequest (.stationQuery n) (handleStationQuery n))

/-! ### Baths (01 R10, R11, 04 R79, R82) -/

/-- BATH SET handled (01 R10). -/
def handleBathSet (b tRef rho slope threshold : Nat) (s : State) : State :=
  if bathFieldsOk b tRef rho slope threshold then
    let x := { s.baths.get b with tRef := tRef, rho := rho, slope := slope, threshold := threshold }
    (s.setBath b x.computePending).reply 0x47 .ok []
  else s.reply 0x47 .badValue []

/-- BATH SET. -/
def execBathSet (b tRef rho slope threshold : Nat) (s : State) : Host.Outcome State Fault Refusal :=
  liveDriven s (fun s => s.takeRequest (.bathSet b tRef rho slope threshold) (handleBathSet b tRef rho slope threshold))

/-- BATH TABLE SET handled (01 R11). -/
def handleBathTableSet (b : Nat) (points : List Nat) (s : State) : State :=
  if pointsOk b points then
    (s.setBath b { s.baths.get b with points := points }.computePending).reply 0x48 .ok []
  else s.reply 0x48 .badValue []

/-- BATH TABLE SET. -/
def execBathTableSet (b : Nat) (points : List Nat) (s : State) : Host.Outcome State Fault Refusal :=
  liveDriven s (fun s => s.takeRequest (.bathTableSet b points) (handleBathTableSet b points))

/-- BATH OWED CLEAR handled (04 R79). -/
def handleBathOwedClear (b : Nat) (s : State) : State :=
  if bathOk b then
    ((s.setBath b { s.baths.get b with owed := 0, remainder := 0 }.computePending).sendOwed b).reply 0x49 .ok []
  else s.reply 0x49 .badValue []

/-- BATH OWED CLEAR. -/
def execBathOwedClear (b : Nat) (s : State) : Host.Outcome State Fault Refusal :=
  liveDriven s (fun s => s.takeRequest (.bathOwedClear b) (handleBathOwedClear b))

/-- BATH QUERY handled (04 R82). -/
def handleBathQuery (b : Nat) (s : State) : State :=
  if bathOk b then s.reply 0x4A .ok (s.baths.get b).reply else s.reply 0x4A .badValue []

/-- BATH QUERY. -/
def execBathQuery (b : Nat) (s : State) : Host.Outcome State Fault Refusal :=
  live s (fun s => s.takeRequest (.bathQuery b) (handleBathQuery b))

/-! ### Recipes (01 R15 to R18) -/

/-- RECIPE OPEN handled (01 R15). -/
def handleRecipeOpen (n : Nat) (s : State) : State :=
  if !recipeOk n then s.reply 0x4B .badValue []
  else
    let x := s.recipes.get n
    if x.st = .ready ∧ 0 < x.refs then s.reply 0x4B .inUse []
    else (s.setRecipe n { x with st := .writing, steps := [] }).reply 0x4B .ok []

/-- RECIPE OPEN. -/
def execRecipeOpen (n : Nat) (s : State) : Host.Outcome State Fault Refusal :=
  liveDriven s (fun s => s.takeRequest (.recipeOpen n) (handleRecipeOpen n))

/-- A step list with step k replaced, or with a step appended where k is one more than its length (01 R16). -/
def putStep (steps : List RecipeStep) (k : Nat) (st : RecipeStep) : List RecipeStep :=
  if k ≤ steps.length then steps.set (k - 1) st else steps ++ [st]

/-- STEP SET handled (01 R16). -/
def handleStepSet (n k : Nat) (fields : StepFields) (s : State) : State :=
  if !recipeOk n then s.reply 0x4C .badValue []
  else
    let x := s.recipes.get n
    if x.st ≠ .writing then s.reply 0x4C .wrongState []
    else if k = 0 ∨ Config.maxSteps < k ∨ x.steps.length + 1 < k then s.reply 0x4C .badValue []
    else match readStep fields with
      | none => s.reply 0x4C .badValue []
      | some st => (s.setRecipe n { x with steps := putStep x.steps k st }).reply 0x4C .ok []

/-- STEP SET. -/
def execStepSet (n k : Nat) (fields : StepFields) (s : State) : Host.Outcome State Fault Refusal :=
  liveDriven s (fun s => s.takeRequest (.stepSet n k fields) (handleStepSet n k fields))

/-- Why RECIPE CLOSE fails (01 R17). -/
inductive CloseReason where
  | noSteps | noStation | repeatedBath
deriving DecidableEq, Repr

/-- The character of a reason. No list and no layout table codes the reasons: the model takes the order in which R17's
prose names them (log 22). -/
def CloseReason.code : CloseReason → Nat
  | .noSteps => 0
  | .noStation => 1
  | .repeatedBath => 2

/-- A bath has a BATH station in service (01 R17). -/
def State.bathServed (s : State) (b : Nat) : Bool :=
  s.stations.toList.any (fun x => decide (x.kind = .bath) && decide (x.bath = b) && x.inService)

/-- The first step that fails, from step k on, with the bath of the step before (01 R17). -/
def State.failingStep (s : State) (k : Nat) (before : Option Nat) : List RecipeStep → Option (Nat × CloseReason)
  | [] => none
  | st :: rest =>
    if !s.bathServed st.bath then some (k, .noStation)
    else if before = some st.bath then some (k, .repeatedBath)
    else State.failingStep s (k + 1) (some st.bath) rest

/-- The validation of R17. -/
def State.closeFailure (s : State) (steps : List RecipeStep) : Option (Nat × CloseReason) :=
  if steps = [] then some (0, .noSteps) else s.failingStep 1 none steps

/-- RECIPE CLOSE handled (01 R17). -/
def handleRecipeClose (n : Nat) (s : State) : State :=
  if !recipeOk n then s.reply 0x4D .badValue []
  else
    let x := s.recipes.get n
    if x.st ≠ .writing then s.reply 0x4D .wrongState []
    else match s.closeFailure x.steps with
      | some (k, why) => s.reply 0x4D .badValue (u8 k ++ u8 why.code)
      | none => (s.setRecipe n { x with st := .ready, refs := 0 }).reply 0x4D .ok []

/-- RECIPE CLOSE. -/
def execRecipeClose (n : Nat) (s : State) : Host.Outcome State Fault Refusal :=
  liveDriven s (fun s => s.takeRequest (.recipeClose n) (handleRecipeClose n))

/-- RECIPE QUERY handled (01 R18). -/
def handleRecipeQuery (n k : Nat) (s : State) : State :=
  if recipeOk n && decide (k ≤ 12) then s.reply 0x4E .ok (s.recipeReply n k) else s.reply 0x4E .badValue []

/-- RECIPE QUERY. -/
def execRecipeQuery (n k : Nat) (s : State) : Host.Outcome State Fault Refusal :=
  live s (fun s => s.takeRequest (.recipeQuery n k) (handleRecipeQuery n k))

end Sys2Proof.Machine
end

