-- ==== Sys2Proof/Machine/Links.lean ====
section
/-! DEFINITION. The shared link engine (11 R185 to R196): receptions, their endings, the delivery of good frames,
sends and their endings, and LINK QUERY. -/

namespace Sys2Proof.Machine

/-! ### LINK QUERY (11 R196) -/

/-- LINK QUERY handled (11 R196). -/
def handleLinkQuery (c : Nat) (s : State) : State :=
  if c < Config.channels then s.reply 0x64 .ok (s.linkReply c) else s.reply 0x64 .badValue []

/-- LINK QUERY. -/
def execLinkQuery (c : Nat) (s : State) : Host.Outcome State Fault Refusal :=
  live s (fun s => s.takeRequest (.linkQuery c) (handleLinkQuery c))

/-! ### Delivery (11 R191) -/

/-- A request handled by the block that owns it; a command that is no request changes nothing. -/
def handleRequest (i : Instr) : State → State :=
  match i with
  | .admitRack id recipe load area adjust =>
    handleAdmit { id := id, recipe := recipe, load := load, area := area, adjust := adjust }
  | .withdraw id => handleWithdraw id
  | .rackRemove id => handleRackRemove id
  | .rackPlace id step station => handleRackPlace id step station
  | .rackQuery id index => handleRackQuery id index
  | .stationSet n kind bath sensing inService => handleStationSet n kind bath sensing inService
  | .stationQuery n => handleStationQuery n
  | .bathSet b tRef rho slope threshold => handleBathSet b tRef rho slope threshold
  | .bathTableSet b points => handleBathTableSet b points
  | .bathOwedClear b => handleBathOwedClear b
  | .bathQuery b => handleBathQuery b
  | .recipeOpen n => handleRecipeOpen n
  | .stepSet n k fields => handleStepSet n k fields
  | .recipeClose n => handleRecipeClose n
  | .recipeQuery n k => handleRecipeQuery n k
  | .dispatchConfig f => handleDispatchConfig f
  | .queueQuery index => handleQueueQuery index
  | .hoistTiming h t => handleHoistTiming h t
  | .hoistCancel h => handleHoistCancel h
  | .hoistRelease h => handleHoistRelease h
  | .hoistQuery h => handleHoistQuery h
  | .spanConfig g sp => handleSpanConfig g sp
  | .spanQuery => handleSpanQuery
  | .agitationSet b p => handleAgitationSet b p
  | .agitationQuery b g => handleAgitationQuery b g
  | .lineRun => handleLineRun
  | .lineHold => handleLineHold
  | .lineHalt => handleLineHalt
  | .lineResume => handleLineResume
  | .lineClear => handleLineClear
  | .causeClear codes => handleCauseClear codes
  | .lineQuery => handleLineQuery
  | .inputSet n d p e => handleInputSet n d p e
  | .outputMode t m => handleOutputMode t m
  | .outputLatch n l => handleOutputLatch n l
  | .ioQuery k n => handleIoQuery k n
  | .linkQuery c => handleLinkQuery c
  | _ => id

/-- A report taken by the block that owns it; a command that is no report changes nothing. -/
def takeReport (i : Instr) : State → State :=
  match i with
  | .hello h p => takeHello h p
  | .accept h n p => takeAccept h n p
  | .refuse h n r => takeRefuse h n r
  | .poised h n p => takePoised h n p
  | .lifted h n p => takeLifted h n p
  | .placed h n p => takePlaced h n p
  | .cancelled h n => takeCancelled h n
  | .position h p => takePosition h p
  | .spanAck h q p => takeSpanAckReport h q p
  | .fault h c => takeFault h c
  | .temp b t => takeTemp b t
  | .pumped b v => takePumped b v
  | _ => id

/-- A good frame delivered: a report at once, a request as R191 states. -/
def State.deliver (s : State) (c : Nat) (i : Instr) : State :=
  if c = 3 then s.takeRequest i (handleRequest i) else takeReport i s

/-- FRAME REFUSED answering a refused frame on channel 3, which finds room as a reply does (11 R190). -/
def refuseOnThree (kind : Byte) (s : State) : State := { s with link := s.link.push 3 (.frameRefused kind) }

/-- A refused frame stands in the slot of channel 3 until it can be answered (11 R190). -/
def State.takeRefused (s : State) (kind : Byte) : State :=
  match s.link.slot 3 with
  | some _ => s
  | none =>
    let s1 := s.setRequestSlot (some (.refused kind))
    if s1.link.hasReplyRoom then s1.serve (refuseOnThree kind) else s1

/-- A frame refused on a channel (11 R190). -/
def State.refuseFrame (s : State) (c : Nat) (kind : Byte) : State :=
  if c = 3 then s.takeRefused kind else { s with link := s.link.send c (.frameRefused kind) }

/-- What stands in the slot of channel 3 is taken where three places are free (11 R191). -/
def State.serveSlot (s : State) : State :=
  match s.link.slot 3 with
  | some (.good i) => if s.link.hasReplyRoom then s.serve (handleRequest i) else s
  | some (.refused kind) => if s.link.hasReplyRoom then s.serve (refuseOnThree kind) else s
  | none => s

/-! ### Receptions (11 R186) -/

/-- The order in which the engine takes start bits: the hoist channel other than the last received, the other
hoist channel, the cabinet, the order station (11 R186). -/
def Link.tieOrder (l : Link) : List Nat := [1 - l.lastHoist, l.lastHoist, 2, 3]

/-- The channels with a start bit that the engine can see: those that are OPEN in LISTEN (11 R185, R186). -/
def Link.seen (l : Link) (starts : BitVec 4) : List Nat :=
  l.tieOrder.filter (fun c => starts.getLsbD c && (l.slot c).isNone)

/-- A count that stops at 65535 raised (11 R196). -/
def raise (n : Nat) : Nat := saturate Config.max16 n

/-- The reception of a channel begins; the other channels with a start bit are cut off (11 R186). R193 does not say
whether a listen window in which a reception began still bars a send when that reception ends inside the 2 ms: in the
model the beginning of a reception closes the window for good, so that a send may begin on the return to LISTEN
(log 47). -/
def Link.receive (l : Link) (c : Nat) (cut : List Nat) : Link :=
  let l1 := cut.foldl (fun l d => l.count d (fun k => { k with cutOff := raise k.cutOff })) l
  { l1 with engine := .receiving c, window := false, lastHoist := if c = 0 ∨ c = 1 then c else l.lastHoist }

/-- The first of the start bits seen is taken; nothing where none is seen. -/
def Link.takeStarts (l : Link) (starts : BitVec 4) : Option Link :=
  match l.seen starts with
  | c :: cut => some (l.receive c cut)
  | [] => none

/-- START_BIT: start bits seen in LISTEN, or within the listen window (11 R186, R193). -/
def execStartBit (starts : BitVec 4) (s : State) : Host.Outcome State Fault Refusal :=
  live s (fun s =>
    match s.link.engine, s.link.takeStarts starts with
    | .listen, some l => { s with link := l }
    | _, _ => s)

/-! ### Endings of a reception (11 R187) -/

/-- The channel of the reception in progress; none in another engine state or while a discard wait is set. -/
def Link.receptionOn (l : Link) : Option Nat :=
  match l.engine, l.discardWait with
  | .receiving c, none => some c
  | _, _ => none

/-- The engine returns to LISTEN. -/
def Link.toListen (l : Link) : Link := { l with engine := .listen }

/-- A length error: the frame is discarded and the discard wait is set (11 R187). -/
def Link.lengthErrorOn (l : Link) (c : Nat) : Link :=
  { l.count c (fun k => { k with lengthError := raise k.lengthError }) with discardWait := some c }

/-- A reception ends refused (11 R187, R190). -/
def State.endRefused (s : State) (c : Nat) (kind : Byte) : State :=
  let l := (s.link.count c (fun k => { k with refused := raise k.refused })).toListen
  State.refuseFrame { s with link := l } c kind

/-- A reception ends good: the engine is in LISTEN before the frame is delivered (11 R187, R191; log 39). -/
def State.endGood (s : State) (c : Nat) (i : Instr) : State :=
  let l := (s.link.count c (fun k => { k with good := raise k.good })).toListen
  State.deliver { s with link := l } c i

/-- The frame being received completes with no character error (11 R187, R188). -/
def State.endFrame (s : State) (c : Nat) (kind : Byte) (payload : List Byte) : State :=
  if Config.maxPayload < payload.length then { s with link := s.link.lengthErrorOn c }
  else match decodeFrame c kind payload with
    | some i => s.endGood c i
    | none => s.endRefused c kind

/-- FRAME_RECEIVED: a good frame is delivered; one of unknown kind or wrong length is refused (11 R187). -/
def execFrameReceived (kind : Byte) (payload : List Byte) (s : State) : Host.Outcome State Fault Refusal :=
  liveDriven s (fun s =>
    match s.link.receptionOn with
    | some c => s.endFrame c kind payload
    | none => s)

/-- FRAME_TRUNCATED (11 R187). -/
def execFrameTruncated (s : State) : Host.Outcome State Fault Refusal :=
  live s (fun s =>
    match s.link.receptionOn with
    | some c => { s with link := (s.link.count c (fun k => { k with truncated := raise k.truncated })).toListen }
    | none => s)

/-- LENGTH_ERROR: a length character over 30 (11 R187). -/
def execLengthError (length : Byte) (s : State) : Host.Outcome State Fault Refusal :=
  live s (fun s =>
    match s.link.receptionOn with
    | some c => if Config.maxPayload < length.toNat then { s with link := s.link.lengthErrorOn c } else s
    | none => s)

/-- CHARACTER_ERROR: the frame reaches its length and this character of it has a character error; a character
without one is no error and changes nothing (11 R184, R187). -/
def execCharacterError (character : Character) (s : State) : Host.Outcome State Fault Refusal :=
  live s (fun s =>
    match s.link.receptionOn with
    | some c =>
      if Character.hasError character then
        { s with link := { s.link.count c (fun k => { k with charError := raise k.charError }) with
            discardWait := some c } }
      else s
    | none => s)

/-- DISCARD_WAIT_END: the first gap over 5 ms ends the wait (11 R187). -/
def execDiscardWaitEnd (s : State) : Host.Outcome State Fault Refusal :=
  live s (fun s =>
    match s.link.discardWait with
    | some _ => { s with link := { s.link.toListen with discardWait := none } }
    | none => s)

/-- REFUSED_FRAME: the frame being received completes with an unknown kind or a wrong length (11 R190). -/
def execRefusedFrame (kind : Byte) (s : State) : Host.Outcome State Fault Refusal :=
  liveDriven s (fun s =>
    match s.link.receptionOn with
    | some c => s.endRefused c kind
    | none => s)

/-! ### Sends (11 R193, R194) -/

/-- The stamp of the oldest frame of a channel's queue. -/
def Link.headStamp (l : Link) (c : Nat) : Option Nat := (l.channels.get c).queue.head?.map (·.stamp)

/-- The channel whose oldest frame is sent next (11 R193). -/
def Link.nextToSend (l : Link) : Option Nat :=
  match l.headStamp 0, l.headStamp 1 with
  | some a, some b => some (if b < a then 1 else 0)
  | some _, none => some 0
  | none, some _ => some 1
  | none, none => if l.held 2 ≠ 0 then some 2 else if l.held 3 ≠ 0 then some 3 else none

/-- A send begins: a start bit detected first begins a reception in its place (11 R193). -/
def Link.beginSend (l : Link) (starts : BitVec 4) : Link :=
  match l.takeStarts starts, l.nextToSend with
  | some l1, _ => l1
  | none, some c => { l with engine := .sending c }
  | none, none => l

/-- SEND_BEGIN: in LISTEN outside the listen window, with a frame queued (11 R193). -/
def execSendBegin (starts : BitVec 4) (s : State) : Host.Outcome State Fault Refusal :=
  live s (fun s =>
    match s.link.engine, s.link.window, s.link.nextToSend with
    | .listen, false, some _ => { s with link := s.link.beginSend starts }
    | _, _, _ => s)

/-- LISTEN_WINDOW_END: the window closes, and a send begins where a frame is queued (11 R193). -/
def execListenWindowEnd (starts : BitVec 4) (s : State) : Host.Outcome State Fault Refusal :=
  live s (fun s =>
    match s.link.engine, s.link.window with
    | .listen, true => { s with link := Link.beginSend { s.link with window := false } starts }
    | _, _ => s)

/-- The frame being sent leaves its queue, and the engine returns to LISTEN with its listen window
(11 R192, R194). -/
def Link.leave (l : Link) (c : Nat) (f : Counts → Counts) : Link :=
  let l1 := l.count c f
  { l1 with
    channels := l1.channels.modify c (fun ch => { ch with queue := ch.queue.drop 1 })
    engine := .listen
    window := true }

/-- What follows a frame's leaving: a marked bath's OWED takes the place freed on channel 2, and the request that
waits on channel 3 is taken where three places are free (04 R77, 11 R191). -/
def State.afterLeave (s : State) (c : Nat) : State :=
  if c = 2 then s.serveUnsent else if c = 3 then s.serveSlot else s

/-- The send in progress ends, with the counts f raises (11 R194). -/
def State.endSend (s : State) (f : Counts → Counts) : State :=
  match s.link.engine with
  | .sending c => State.afterLeave { s with link := s.link.leave c f } c
  | _ => s

/-- A message that a hoist channel or span control queues; FRAME REFUSED, which the link engine queues itself,
is none (06 R110, 11 R190). -/
def OutMsg.isHoistMessage : OutMsg → Bool
  | .frameRefused _ => false
  | _ => true

/-- The frame being sent is a hoist message, which counts as a lost send when it is dropped (06 R110, 07 R132). -/
def Link.sendsHoistMessage (l : Link) : Bool :=
  match l.engine with
  | .sending c => decide (c < 2) && (l.channels.get c).queue.head?.any (fun e => e.msg.isHoistMessage)
  | _ => false

/-- The send in progress is dropped, with the count f raises; a hoist message dropped raises the lost sends as well
(06 R110, 07 R132, 11 R194; log 40). -/
def State.dropSend (s : State) (f : Counts → Counts) : State :=
  let lost := s.link.sendsHoistMessage
  s.endSend (fun k => { f k with lost := if lost then raise k.lost else k.lost })

/-- FRAME_SENT (11 R194). -/
def execFrameSent (s : State) : Host.Outcome State Fault Refusal :=
  liveDriven s (fun s => s.endSend (fun k => { k with sent := raise k.sent }))

/-- MISSING_ACKNOWLEDGE (11 R194). -/
def execMissingAcknowledge (s : State) : Host.Outcome State Fault Refusal :=
  liveDriven s (fun s => s.dropSend (fun k => { k with missingAck := raise k.missingAck }))

/-- NO_CLOCKING (11 R194). -/
def execNoClocking (s : State) : Host.Outcome State Fault Refusal :=
  liveDriven s (fun s => s.dropSend (fun k => { k with noClocking := raise k.noClocking }))

end Sys2Proof.Machine
end

