-- ==== Sys2Proof/Machine/TimeBase.lean ====
section
/-! DEFINITION. Power-on and RESET (00 Conventions, 11 R185), the line tick and the events that come at a tick
(03 R44, R45, R60 to R63, 04 R71 to R73, 06 R113, 07 R141, 10 R177). -/

namespace Sys2Proof.Machine

/-! ### Power-on and RESET -/

/-- POWER_ON: power-on state (00 Conventions); the commands that are waiting stay. -/
def execPowerOn (s : State) : Host.Outcome State Fault Refusal :=
  .next { State.reset with pending := s.pending }

/-- RESET_ASSERTED: every block held at its power-on state (00 Electrical Summary, 11 R185). -/
def execResetAsserted (s : State) : Host.Outcome State Fault Refusal :=
  .next { State.reset with resetHeld := true, pending := s.pending }

/-! ### Timers at a tick (06 R113, 07 R141, 10 R177) -/

/-- A timer that is not suspended falls by one; a timer at 0 stays there until its expiry is taken. -/
def fall (timer : Option Nat) (suspended : Bool) : Option Nat :=
  match timer, suspended with
  | some (n + 1), false => some n
  | t, _ => t

/-- A hoist's phase timer at a tick (06 R113). -/
def HoistRec.fallTimer (x : HoistRec) : HoistRec := { x with timer := fall x.timer x.suspended }

/-- A bath's stale count at a tick (04 R71). -/
def Bath.age (b : Bath) : Bath :=
  if b.status = .none then b else { b with staleCount := saturate Config.max16 b.staleCount }

/-- The tick count and every count that follows it: the phase timers, the acknowledgement timer, the seat windows
and the stale counts (03 R44, 04 R71, 06 R113, 07 R141, 10 R177). -/
def State.countTick (s : State) : State :=
  let hv := s.span.handover
  { s with
    tick := s.tick + 1
    hoistA := s.hoistA.fallTimer
    hoistB := s.hoistB.fallTimer
    span := { s.span with handover := { hv with timer := fall hv.timer hv.suspended } }
    windows := s.windows.map (fun w => fall w false)
    baths := s.baths.map Bath.age }

/-- Step 1 of R45: at phase 0 every pending factor record becomes active (03 R54). -/
def State.loadPending (s : State) : State := if s.phase = 0 then { s with baths := s.baths.map Bath.loadFactors } else s

/-- Step 2 of R45: every rack in a bath is advanced (03 R56). -/
def State.advanceRacks (s : State) : State := { s with racks := s.racks.map (Option.map s.advanceRack) }

/-- The slots whose rack is DUE. -/
def State.dueSlots (s : State) : List Nat :=
  s.racks.indices (fun o => match o with | some r => decide (r.st = .due) | none => false)

/-- A bath whose stale count has reached 300 becomes STALE with its notice (04 R71). -/
def State.becomeStale (s : State) (b : Nat) : State :=
  let x := s.baths.get b
  if x.status = .fresh ∧ Config.staleAt ≤ x.staleCount then
    (s.setBath b { x with status := .stale }).bathNotice .stale b
  else s

/-- A bath whose stale count has reached 1200 becomes LAPSED with its notice, and TEMP_STALE is added where it
holds a rack in a compensated step (04 R71, R73). No rule orders the BATH notice and the LINE notice of the cause: the
model queues the BATH notice first (log 46). -/
def State.becomeLapsed (s : State) (b : Nat) : State :=
  let x := s.baths.get b
  if x.status = .stale ∧ Config.lapsedAt ≤ x.staleCount then
    let s1 := (s.setBath b { x with status := .lapsed }).bathNotice .lapsed b
    if s1.bathCompensates b then s1.addCause .tempStale else s1
  else s

/-- The compensation unit's work at a tick, in the order of R45. -/
def State.compensate (s : State) : State :=
  let s1 := s.loadPending.advanceRacks
  let s2 := (List.range Config.slots).foldl State.makeDue s1
  s.dueSlots.foldl State.overrunOne s2

/-- The events that timers and counts bring at a tick (04 R71, 06 R113, 07 R141, 10 R177). -/
def State.expiries (s : State) : State :=
  let s1 := (List.range Config.baths).foldl (fun t b => (t.becomeStale b).becomeLapsed b) s
  (List.range Config.stations).foldl State.expireWindow (((s1.expirePhase .a).expirePhase .b).expireAck)

/-- LINE_TICK: the counts, the compensation unit's work, the events that fall at this tick, and the trigger of its
dispatch pass (03 R44, R45, 05 R97; the order of the blocks is log 5). -/
def execLineTick (s : State) : Host.Outcome State Fault Refusal :=
  liveDriven s (fun s => s.countTick.compensate.expiries.triggerPass)

/-! ### The events of a tick as commands of their own (log 2) -/

/-- DUE: the rack in a slot becomes DUE where it has reached its target (03 R60). -/
def execDue (slot : Nat) (s : State) : Host.Outcome State Fault Refusal := liveDriven s (fun s => s.makeDue slot)

/-- OVERTIME: the OVERTIME test for the rack in a slot (03 R63). -/
def execOvertime (slot : Nat) (s : State) : Host.Outcome State Fault Refusal :=
  liveDriven s (fun s => s.overtimeTest slot)

/-- STALE (04 R71). -/
def execStale (b : Nat) (s : State) : Host.Outcome State Fault Refusal := liveDriven s (fun s => s.becomeStale b)

/-- LAPSED (04 R71, R73). -/
def execLapsed (b : Nat) (s : State) : Host.Outcome State Fault Refusal := liveDriven s (fun s => s.becomeLapsed b)

/-- PHASE_TIMER_EXPIRY (06 R113, R123). -/
def execPhaseTimerExpiry (h : Hoist) (s : State) : Host.Outcome State Fault Refusal :=
  liveDriven s (fun s => s.expirePhase h)

/-- ACKNOWLEDGEMENT_TIMER_EXPIRY (07 R141). -/
def execAcknowledgementTimerExpiry (s : State) : Host.Outcome State Fault Refusal :=
  liveDriven s (fun s => s.expireAck)

/-- SEAT_WINDOW_EXPIRY (10 R177). -/
def execSeatWindowExpiry (n : Nat) (s : State) : Host.Outcome State Fault Refusal :=
  liveDriven s (fun s => s.expireWindow n)

end Sys2Proof.Machine
end

