-- ==== Sys2Proof/Machine/Dispatch.lean ====
section
/-! DEFINITION. The meaning of every command: one arm per row of spec/opcode_table.json. -/

namespace Sys2Proof.Machine

def exec (i : Instr) (s : State) : Host.Outcome State Fault Refusal :=
  match i with
  | .powerOn => Sys2Proof.Machine.execPowerOn s
  | .lineTick => Sys2Proof.Machine.execLineTick s
  | .due slot => Sys2Proof.Machine.execDue slot s
  | .overtime slot => Sys2Proof.Machine.execOvertime slot s
  | .stale bath => Sys2Proof.Machine.execStale bath s
  | .lapsed bath => Sys2Proof.Machine.execLapsed bath s
  | .phaseTimerExpiry h => Sys2Proof.Machine.execPhaseTimerExpiry h s
  | .acknowledgementTimerExpiry => Sys2Proof.Machine.execAcknowledgementTimerExpiry s
  | .seatWindowExpiry station => Sys2Proof.Machine.execSeatWindowExpiry station s
  | .sampleEvent pins monitors => Sys2Proof.Machine.execSampleEvent pins monitors s
  | .seated station => Sys2Proof.Machine.execSeated station s
  | .released station => Sys2Proof.Machine.execReleased station s
  | .eStopActive => Sys2Proof.Machine.execEStopActive s
  | .gasOkInactive => Sys2Proof.Machine.execGasOkInactive s
  | .gasOkActive => Sys2Proof.Machine.execGasOkActive s
  | .pauseActive => Sys2Proof.Machine.execPauseActive s
  | .auxiliaryInactive which => Sys2Proof.Machine.execAuxiliaryInactive which s
  | .outputFaultMarkSet line => Sys2Proof.Machine.execOutputFaultMarkSet line s
  | .outputFaultMarkClear line => Sys2Proof.Machine.execOutputFaultMarkClear line s
  | .cycleStart bath => Sys2Proof.Machine.execCycleStart bath s
  | .burstEnd bath => Sys2Proof.Machine.execBurstEnd bath s
  | .dispatchPass => Sys2Proof.Machine.execDispatchPass s
  | .admitRack id recipe load area adjust => Sys2Proof.Machine.execAdmitRack id recipe load area adjust s
  | .withdraw id => Sys2Proof.Machine.execWithdraw id s
  | .rackRemove id => Sys2Proof.Machine.execRackRemove id s
  | .rackPlace id step station => Sys2Proof.Machine.execRackPlace id step station s
  | .rackQuery id index => Sys2Proof.Machine.execRackQuery id index s
  | .stationSet station kind bath sensing inService => Sys2Proof.Machine.execStationSet station kind bath sensing inService s
  | .stationQuery station => Sys2Proof.Machine.execStationQuery station s
  | .bathSet bath tRef rho slope threshold => Sys2Proof.Machine.execBathSet bath tRef rho slope threshold s
  | .bathTableSet bath points => Sys2Proof.Machine.execBathTableSet bath points s
  | .bathOwedClear bath => Sys2Proof.Machine.execBathOwedClear bath s
  | .bathQuery bath => Sys2Proof.Machine.execBathQuery bath s
  | .recipeOpen recipe => Sys2Proof.Machine.execRecipeOpen recipe s
  | .stepSet recipe index fields => Sys2Proof.Machine.execStepSet recipe index fields s
  | .recipeClose recipe => Sys2Proof.Machine.execRecipeClose recipe s
  | .recipeQuery recipe index => Sys2Proof.Machine.execRecipeQuery recipe index s
  | .dispatchConfig settings => Sys2Proof.Machine.execDispatchConfig settings s
  | .queueQuery index => Sys2Proof.Machine.execQueueQuery index s
  | .hoistTiming hoist timing => Sys2Proof.Machine.execHoistTiming hoist timing s
  | .hoistCancel hoist => Sys2Proof.Machine.execHoistCancel hoist s
  | .hoistRelease hoist => Sys2Proof.Machine.execHoistRelease hoist s
  | .hoistQuery hoist => Sys2Proof.Machine.execHoistQuery hoist s
  | .spanConfig guardGap split => Sys2Proof.Machine.execSpanConfig guardGap split s
  | .spanQuery => Sys2Proof.Machine.execSpanQuery s
  | .agitationSet bath program => Sys2Proof.Machine.execAgitationSet bath program s
  | .agitationQuery bath group => Sys2Proof.Machine.execAgitationQuery bath group s
  | .lineRun => Sys2Proof.Machine.execLineRun s
  | .lineHold => Sys2Proof.Machine.execLineHold s
  | .lineHalt => Sys2Proof.Machine.execLineHalt s
  | .lineResume => Sys2Proof.Machine.execLineResume s
  | .lineClear => Sys2Proof.Machine.execLineClear s
  | .causeClear codes => Sys2Proof.Machine.execCauseClear codes s
  | .lineQuery => Sys2Proof.Machine.execLineQuery s
  | .inputSet input debounce polarity enable => Sys2Proof.Machine.execInputSet input debounce polarity enable s
  | .outputMode target mode => Sys2Proof.Machine.execOutputMode target mode s
  | .outputLatch output level => Sys2Proof.Machine.execOutputLatch output level s
  | .ioQuery kind number => Sys2Proof.Machine.execIoQuery kind number s
  | .linkQuery channel => Sys2Proof.Machine.execLinkQuery channel s
  | .hello h position => Sys2Proof.Machine.execHello h position s
  | .accept h order position => Sys2Proof.Machine.execAccept h order position s
  | .refuse h order reason => Sys2Proof.Machine.execRefuse h order reason s
  | .poised h order position => Sys2Proof.Machine.execPoised h order position s
  | .lifted h order position => Sys2Proof.Machine.execLifted h order position s
  | .placed h order position => Sys2Proof.Machine.execPlaced h order position s
  | .cancelled h order => Sys2Proof.Machine.execCancelled h order s
  | .position h position => Sys2Proof.Machine.execPosition h position s
  | .spanAck h sequence position => Sys2Proof.Machine.execSpanAck h sequence position s
  | .fault h code => Sys2Proof.Machine.execFault h code s
  | .temp bath temperature => Sys2Proof.Machine.execTemp bath temperature s
  | .pumped bath volume => Sys2Proof.Machine.execPumped bath volume s
  | .startBit starts => Sys2Proof.Machine.execStartBit starts s
  | .frameReceived kind payload => Sys2Proof.Machine.execFrameReceived kind payload s
  | .frameTruncated => Sys2Proof.Machine.execFrameTruncated s
  | .lengthError length => Sys2Proof.Machine.execLengthError length s
  | .characterError character => Sys2Proof.Machine.execCharacterError character s
  | .discardWaitEnd => Sys2Proof.Machine.execDiscardWaitEnd s
  | .refusedFrame kind => Sys2Proof.Machine.execRefusedFrame kind s
  | .sendBegin starts => Sys2Proof.Machine.execSendBegin starts s
  | .listenWindowEnd starts => Sys2Proof.Machine.execListenWindowEnd starts s
  | .frameSent => Sys2Proof.Machine.execFrameSent s
  | .missingAcknowledge => Sys2Proof.Machine.execMissingAcknowledge s
  | .noClocking => Sys2Proof.Machine.execNoClocking s
  | .resetAsserted => Sys2Proof.Machine.execResetAsserted s

end Sys2Proof.Machine
end

