-- ==== Sys2Proof/Safety.lean ====
section
/-! DEFINITION. The laws the spec says the DL32 keeps, as predicates on its state: the terms the statements use. -/

namespace Sys2Proof

/-- The command is a request of the order station, by the table of kinds of channel 3 (11, Kinds from the order
station). -/
def Instr.isRequest : Instr → Bool
  | .admitRack .. | .withdraw .. | .rackRemove .. | .rackPlace .. | .rackQuery .. | .stationSet .. | .stationQuery ..
  | .bathSet .. | .bathTableSet .. | .bathOwedClear .. | .bathQuery .. | .recipeOpen .. | .stepSet .. | .recipeClose ..
  | .recipeQuery .. | .dispatchConfig .. | .queueQuery .. | .hoistTiming .. | .hoistCancel .. | .hoistRelease ..
  | .hoistQuery .. | .spanConfig .. | .spanQuery | .agitationSet .. | .agitationQuery .. | .lineRun | .lineHold
  | .lineHalt | .lineResume | .lineClear | .causeClear .. | .lineQuery | .inputSet .. | .outputMode ..
  | .outputLatch .. | .ioQuery .. | .linkQuery .. => true
  | _ => false

/-- The command is a report of a hoist or of the cabinet, by the tables of kinds of channels 0 to 2 (11). -/
def Instr.isReport : Instr → Bool
  | .hello .. | .accept .. | .refuse .. | .poised .. | .lifted .. | .placed .. | .cancelled .. | .position ..
  | .spanAck .. | .fault .. | .temp .. | .pumped .. => true
  | _ => false

end Sys2Proof

namespace Sys2Proof.Machine

/-! ### When a command can act -/

/-- A request of the order station is taken at once: RESET is not held low, channel 3's slot is empty, and its
outbound queue has at least three free places (11 R191). -/
def State.TakesRequests (s : State) : Prop :=
  s.resetHeld = false ∧ s.link.slot 3 = none ∧ s.link.held 3 + 3 ≤ 8

/-! ### Outputs (10 R179) -/

/-- Every line's commanded level is its source: its latch in MANUAL mode, its function otherwise (10 R179). -/
def State.OutputsFollow (s : State) : Prop :=
  ∀ n < 35, (s.io.outputs.get n).commanded = s.outputSource n (s.io.outputs.get n)

/-! ### Line state and causes (09 R159) -/

/-- The cause set holds only causes of the table of R159, each at most once: it is listed in the table's order. -/
def Line.Ordered (l : Line) : Prop := l.causes = Cause.all.filter (fun c => decide (c ∈ l.causes))

/-- In RUN the cause set is empty, and in HOLD it holds no HALT cause (09 R159). -/
def Line.CausesFit (l : Line) : Prop :=
  (l.st = .run → l.causes = []) ∧ (l.st = .hold → ∀ c ∈ l.causes, c.isHalt = false)

/-- Hoist timers are marked suspended exactly while the line is HALT, and so is a handover timer that runs
(06 R107, R127, 07 R143). -/
def State.SuspendedInHalt (s : State) : Prop :=
  (s.hoistA.suspended = true ↔ s.line.st = .halt) ∧ (s.hoistB.suspended = true ↔ s.line.st = .halt) ∧
    (s.span.handover.timer ≠ none → (s.span.handover.suspended = true ↔ s.line.st = .halt))

/-! ### Baths (03 R52, 04 R67) -/

/-- Rate factors lie within 256..4095 and the activity factor within 512..1024 (03 R52). -/
def Factors.InRange (f : Factors) : Prop :=
  256 ≤ f.fT ∧ f.fT ≤ 4095 ∧ 512 ≤ f.g ∧ f.g ≤ 1024 ∧ 256 ≤ f.fTA ∧ f.fTA ≤ 4095

/-- The bath table's laws: every field of the configuration half in the range of R9; the last temperature none or in
100..400; factors, owed volume, remainder, stale count and area in flight in range; and a stale count of 0 in status
NONE (01 R9, 02 R39, 03 R52, 04 R67, R71). -/
structure Bath.Lawful (b : Bath) : Prop where
  tRef      : 150 ≤ b.tRef ∧ b.tRef ≤ 300
  length    : b.points.length = 9
  points    : ∀ p ∈ b.points, 256 ≤ p ∧ p ≤ 4095
  rho       : b.rho ≤ 2000
  slope     : b.slope ≤ 255
  threshold : b.threshold ≤ 65535
  temp      : ∀ t ∈ b.temp, 100 ≤ t ∧ t ≤ 400
  active    : b.active.InRange
  pendingF  : ∀ f ∈ b.pendingF, f.InRange
  owed      : b.owed ≤ 65535
  remainder : b.remainder ≤ 999
  stale     : b.staleCount ≤ 65535
  fresh     : b.status = .none → b.staleCount = 0
  area      : b.areaInFlight ≤ 65535

/-- Every bath is lawful. -/
def State.BathsLawful (s : State) : Prop := ∀ n < 8, (s.baths.get n).Lawful

/-! ### Outbound queues (11 R192) -/

/-- Each outbound queue holds at most the frames R185 gives it: four on channels 0 to 2, eight on channel 3; and the
last hoist received is one of the two (11 R185). -/
def State.QueuesBounded (s : State) : Prop :=
  s.link.held 0 ≤ 4 ∧ s.link.held 1 ≤ 4 ∧ s.link.held 2 ≤ 4 ∧ s.link.held 3 ≤ 8 ∧ s.link.lastHoist ≤ 1

/-! ### Hoists and orders (06 R108) -/

/-- A hoist has an open order exactly while it is BUSY (06 R108). -/
def HoistRec.OrderFits (x : HoistRec) : Prop := x.order.isSome = decide (x.st = .busy)

/-- Both hoists keep R108. -/
def State.OrdersFit (s : State) : Prop := s.hoistA.OrderFits ∧ s.hoistB.OrderFits

/-- A timing table within the ranges of R109. -/
def Timing.InRange (t : Timing) : Prop :=
  t.fixed ≤ 600 ∧ 1 ≤ t.perStation ∧ t.perStation ≤ 300 ∧ t.place ≤ 600 ∧ 5 ≤ t.acceptTime ∧ t.acceptTime ≤ 600 ∧
    t.approach ≤ 3000 ∧ 5 ≤ t.lift ∧ t.lift ≤ 600 ∧ 10 ≤ t.spanAck ∧ t.spanAck ≤ 3000

/-- Both hoists' timing tables are within the ranges of R109. -/
def State.TimingsInRange (s : State) : Prop := Timing.InRange s.hoistA.timing ∧ Timing.InRange s.hoistB.timing

/-! ### Spans (07 R130) -/

/-- Both spans non-empty: b_lo − a_hi − 1 is at least the guard gap (07 R130). -/
def SpanControl.Apart (c : SpanControl) : Prop :=
  match c.spanA, c.spanB with
  | .range _ hi, .range lo _ => hi + c.guardGap + 1 ≤ lo
  | _, _ => True

/-- The spans with those of a hoist and of the other one replaced. -/
def SpanControl.give (c : SpanControl) (h : Hoist) (own others : Span) : SpanControl :=
  match h with
  | .a => { c with spanA := own, spanB := others }
  | .b => { c with spanA := others, spanB := own }

/-- The spans keep apart now and at the end of the handover in progress: the guard gap and split leave room, no span
is granted in STANDBY, and what a handover still has to grant is apart from what the other hoist will then have
(07 R130, R131, R133, R136, R139). -/
def State.SpansLawful (s : State) : Prop :=
  let hv := s.span.handover
  s.span.Apart ∧ 1 ≤ s.span.split ∧ s.span.split + s.span.guardGap ≤ 31 ∧
    (s.line.st = .standby → s.span.spanA = .empty ∧ s.span.spanB = .empty ∧ hv.stage = .none) ∧
    (hv.stage = .waiting → (s.span.give hv.taker hv.widened hv.narrowed).Apart ∧
      (s.span.give hv.taker (s.spanOf hv.taker) hv.narrowed).Apart) ∧
    (hv.stage = .shrinking → (s.span.give hv.taker hv.widened (s.spanOf hv.taker.other)).Apart)

/-! ### The end of a victim's order (06 R108, R121, 07 R138, R139) -/

/-- The SPAN message that carries a span under a sequence, an empty span as low station 1 and high station 0
(07 R132). -/
def Span.message (sp : Span) (sequence : Nat) : OutMsg :=
  match sp with
  | .empty => .span 1 0 sequence
  | .range lo hi => .span lo hi sequence

/-- A handover is WAITING for the open order of this hoist, its victim (07 R138). -/
def State.WaitsFor (s : State) (h : Hoist) : Prop := s.span.handover.stage = .waiting ∧ h ≠ s.span.handover.taker

/-- SHRINKING has begun for the victim v, from s to t: its recorded span is the narrowed span, its next sequence is the
one awaited, and the timer is its span acknowledge timeout, suspended in HALT; nothing else of span control changes but
the bound request, which is given (07 R132, R138, R139). -/
structure State.ShrinkBegun (s t : State) (v : Hoist) (bound : Option Nat) : Prop where
  narrowed : t.spanOf v = s.span.handover.narrowed
  taker    : t.spanOf v.other = s.spanOf v.other ∧ t.seqOf v.other = s.seqOf v.other
  sequence : t.seqOf v = if 255 ≤ s.seqOf v then 1 else s.seqOf v + 1
  record   : t.span.handover =
    { s.span.handover with
      stage := .shrinking, awaited := some (v, t.seqOf v), timer := some (s.hoist v).timing.spanAck
      suspended := decide (s.line.st = .halt), bound := bound }
  settings : t.span.guardGap = s.span.guardGap ∧ t.span.split = s.span.split

/-- What the closing of a hoist's order without a fault does to span control, from s to t: SHRINKING begins where a
handover was WAITING for this order, and otherwise only the bound request can change, to the one given (07 R138). -/
def State.OrderClosed (s t : State) (h : Hoist) (bound : Option Nat) : Prop :=
  (s.WaitsFor h → s.ShrinkBegun t h bound) ∧
    (¬s.WaitsFor h → t.span = { s.span with handover := { s.span.handover with bound := bound } })

/-- The bound request of the handover once the request of a slot has left the move queue (07 R135, 05 R102). -/
def State.boundWithout (s : State) (slot : Nat) : Option Nat :=
  if s.span.handover.bound = some slot then none else s.span.handover.bound

/-- The messages of a channel's outbound queue, oldest first (11 R192). -/
def State.queued (s : State) (c : Nat) : List OutMsg := (s.link.channels.get c).queue.map (·.msg)

/-- The cancel on freeing of the order o that hoist h had open for the rack of a slot, from s to t: the hoist IDLE,
CANCEL queued where there is room, and after it the SPAN of SHRINKING where a handover was WAITING for this order; a
pass triggered; the other hoist untouched (02 R35, 06 R108, R110, R121, 07 R138). -/
structure State.CancelledOnFreeing (s t : State) (slot : Nat) (h : Hoist) (o : Order) : Prop where
  hoist  : t.hoist h = { s.hoist h with st := .idle, order := none, timer := none }
  other  : t.hoist h.other = s.hoist h.other ∧ t.queued h.other.channel = s.queued h.other.channel
  cancel : ∃ rest, t.queued h.channel =
      s.queued h.channel ++ (if s.link.held h.channel < 4 then [.cancel o.number] else []) ++ rest ∧
    (s.WaitsFor h → s.link.held h.channel < 3 → rest = [s.span.handover.narrowed.message (t.seqOf h)]) ∧
    (¬s.WaitsFor h ∨ 3 ≤ s.link.held h.channel → rest = [])
  pass   : s.dispatcher.passesOwed < t.dispatcher.passesOwed
  span   : s.OrderClosed t h (s.boundWithout slot)

/-- What the freeing of the record in a slot does to hoists and spans, from s to t: the cancel on freeing of its open
order, and nothing to the hoists and the spans where it has none (02 R35, 05 R99, 06 R121). -/
def State.OrderFreed (s t : State) (slot : Nat) : Prop :=
  (∀ h o, s.orderFor slot = some (h, o) → s.CancelledOnFreeing t slot h o) ∧
    (s.orderFor slot = none → t.hoistA = s.hoistA ∧ t.hoistB = s.hoistB ∧ t.queued 0 = s.queued 0 ∧
      t.queued 1 = s.queued 1 ∧
      t.span = { s.span with handover := { s.span.handover with bound := s.boundWithout slot } })

/-! ### Replies and records handed back (11 R195, 02 R35) -/

/-- The last frame queued on channel 3 is the one part of a reply: what ends the handling of a request whose
notices all stand before its reply (11 R195). -/
def State.Answered (s : State) (kind : Nat) (code : ReplyCode) (contents : List Byte) : Prop :=
  (s.link.channels.get 3).queue.getLast?.map (·.msg) = some (.reply kind code 1 1 contents)

/-- A RACK notice with an event and the rack's id, slot, state and step index, whatever its station character, which is
log 16 (02 R27). -/
def OutMsg.tells (m : OutMsg) (event : RackEvent) (slot : Nat) (r : Rack) : Bool :=
  match m with
  | .rack e id k st step _ => decide (e = event ∧ id = r.id ∧ k = slot ∧ st = r.st ∧ step = r.stepIdx)
  | _ => false

/-- A RACK notice stands in the order station's queue, or was dropped for want of room as any notice is (02 R27,
11 R192). -/
def State.Told (t : State) (event : RackEvent) (slot : Nat) (r : Rack) : Prop :=
  (∃ f ∈ (t.link.channels.get 3).queue, f.msg.tells event slot r = true) ∨ (t.link.dropped = true ∧ 5 ≤ t.link.held 3)

/-- What the freeing of the record r of a slot with an event hands back, from s to t, while no ADMIT waits: the slot,
its request, its stations, its areas and its recipe's count, with the station it was in OUT of agitation and its window
closed, and the event told; other racks keep all but a destination a retry may give them, and other stations that are
not EMPTY keep their occupancy (02 R34, R35, R39, 10 R177). -/
structure State.Freed (s t : State) (slot : Nat) (r : Rack) (event : RackEvent) : Prop where
  record   : t.racks.get slot = none
  request  : t.requests.get slot = none
  station  : ∀ n ∈ r.station, (t.stations.get n).occ ≠ .occupied slot
  dest     : ∀ n ∈ r.dest, (t.stations.get n).occ ≠ .reservedRack slot
  kept     : ∀ n < 32, r.station ≠ some n → r.dest ≠ some n → (s.stations.get n).occ ≠ .empty →
    (t.stations.get n).occ = (s.stations.get n).occ
  areas    : ∀ b < 8, (t.baths.get b).areaInFlight =
    (s.baths.get b).areaInFlight - (if s.unfinishedIn r b then r.area else 0)
  count    : (t.recipes.get r.recipe).refs = (s.recipes.get r.recipe).refs - 1
  others   : ∀ k < 24, k ≠ slot → (t.racks.get k).map (fun x => { x with dest := none }) =
    (s.racks.get k).map (fun x => { x with dest := none })
  line     : t.line = s.line
  tick     : t.tick = s.tick
  queue    : t.queue = s.queue
  left     : ∀ n ∈ r.station, n < 32 → t.marks.get n = .out ∧ t.windows.get n = none
  told     : t.Told event slot r

end Sys2Proof.Machine
end

