-- ==== Sys2Proof/WellFormed.lean ====
section
/-! DEFINITION. Well-formed commands. An event's operand names something the part has; a request's or report's
operands are values its frame's fields can carry (11 R188), whatever the owning block then makes of them. -/

namespace Sys2Proof

/-- A value that a field of one character carries. -/
def fits8 (n : Nat) : Bool := decide (n < 256)
/-- A value that a field of two characters carries. -/
def fits16 (n : Nat) : Bool := decide (n < 65536)
/-- A value that a signed field of one character carries. -/
def fitsInt8 (x : Int) : Bool := decide (-128 ≤ x) && decide (x ≤ 127)
/-- A value that a signed field of two characters carries. -/
def fitsInt16 (x : Int) : Bool := decide (-32768 ≤ x) && decide (x ≤ 32767)

/-- A position a report's character carries; 80h, that is −128, is "unknown" (11, Hoist report layout). -/
def fitsPosition : Option Int → Bool
  | some x => decide (-128 < x) && decide (x ≤ 127)
  | none => true

/-- The fields of STEP SET fit their characters (11, STEP SET layout). -/
def StepFields.fits (f : StepFields) : Bool :=
  fits8 f.bath && fits16 f.nominal && fits16 f.tolerance && fits8 f.drain

/-- The settings of HOIST TIMING fit their characters (06 R109, 11 R188). -/
def Timing.fits (t : Timing) : Bool :=
  fits16 t.fixed && fits16 t.perStation && fits16 t.place && fits16 t.acceptTime && fits16 t.approach && fits16 t.lift
    && fits16 t.spanAck

/-- The fields of AGITATION SET fit their characters (08 R147, 11 R188). -/
def Program.fits (p : Program) : Bool := fits8 p.prescale && fits8 p.cycle && fits8 p.width && fits8 p.extra

/-- The settings of DISPATCH CONFIG fit their characters (05 R105, 11 R188). -/
def DispatchFields.fits (f : DispatchFields) : Bool :=
  fits16 f.lookahead && fits16 f.orderMargin && fits16 f.admitMargin && fits16 f.lowMark && fits16 f.hysteresis

/-- What OUTPUT MODE names fits its character, which codes a pair by its number, the sounder by 16 and a permit
line by nothing (10 R180, log 22). -/
def ModeTarget.fits : ModeTarget → Bool
  | .pair n => fits8 n && decide (n ≠ 16)
  | .permit _ => false
  | .sounder => true

/-- A well-formed command. -/
def Instr.wellFormed : Instr → Bool
  | .powerOn => true
  | .lineTick => true
  | .due slot => decide (slot < Config.slots)
  | .overtime slot => decide (slot < Config.slots)
  | .stale b => decide (b < Config.baths)
  | .lapsed b => decide (b < Config.baths)
  | .phaseTimerExpiry _ => true
  | .acknowledgementTimerExpiry => true
  | .seatWindowExpiry n => decide (n < Config.stations)
  | .sampleEvent _ _ => true
  | .seated n => decide (n < Config.stations)
  | .released n => decide (n < Config.stations)
  | .eStopActive => true
  | .gasOkInactive => true
  | .gasOkActive => true
  | .pauseActive => true
  | .auxiliaryInactive _ => true
  | .outputFaultMarkSet n => decide (n < Config.outputs)
  | .outputFaultMarkClear n => decide (n < Config.outputs)
  | .cycleStart b => decide (b < Config.baths)
  | .burstEnd b => decide (b < Config.baths)
  | .dispatchPass => true
  | .admitRack id recipe load area adjust => fits16 id && fits8 recipe && fits8 load && fits16 area && fitsInt8 adjust
  | .withdraw id => fits16 id
  | .rackRemove id => fits16 id
  | .rackPlace id step station => fits16 id && fits8 step && fits8 station
  | .rackQuery id index => fits16 id && fits8 index
  | .stationSet n _ b _ _ => fits8 n && fits8 b
  | .stationQuery n => fits8 n
  | .bathSet b tRef rho slope threshold => fits8 b && fits16 tRef && fits16 rho && fits8 slope && fits16 threshold
  | .bathTableSet b points => fits8 b && decide (points.length = 9) && points.all fits16
  | .bathOwedClear b => fits8 b
  | .bathQuery b => fits8 b
  | .recipeOpen n => fits8 n
  | .stepSet n k f => fits8 n && fits8 k && f.fits
  | .recipeClose n => fits8 n
  | .recipeQuery n k => fits8 n && fits8 k
  | .dispatchConfig f => f.fits
  | .queueQuery k => fits8 k
  | .hoistTiming _ t => t.fits
  | .hoistCancel _ => true
  | .hoistRelease _ => true
  | .hoistQuery _ => true
  | .spanConfig g sp => fits8 g && fits8 sp
  | .spanQuery => true
  | .agitationSet b p => fits8 b && p.fits
  | .agitationQuery b g => fits8 b && fits8 g
  | .lineRun => true
  | .lineHold => true
  | .lineHalt => true
  | .lineResume => true
  | .lineClear => true
  | .causeClear codes => decide (codes.length ≤ 11) && codes.all fits8
  | .lineQuery => true
  | .inputSet n d _ _ => fits8 n && fits8 d
  | .outputMode t _ => t.fits
  | .outputLatch n _ => fits8 n
  | .ioQuery _ n => fits8 n
  | .linkQuery c => fits8 c
  | .hello _ p => fitsPosition p
  | .accept _ n p => fits8 n && fitsPosition p
  | .refuse _ n r => fits8 n && fits8 r
  | .poised _ n p => fits8 n && fitsPosition p
  | .lifted _ n p => fits8 n && fitsPosition p
  | .placed _ n p => fits8 n && fitsPosition p
  | .cancelled _ n => fits8 n
  | .position _ p => fitsPosition p
  | .spanAck _ q p => fits8 q && fitsPosition p
  | .fault _ c => fits8 c
  | .temp b t => fits8 b && fitsInt16 t
  | .pumped b v => fits8 b && fits16 v
  | .startBit _ => true
  | .frameReceived _ payload => decide (payload.length ≤ 255)
  | .frameTruncated => true
  | .lengthError l => decide (Config.maxPayload < l.toNat)
  | .characterError _ => true
  | .discardWaitEnd => true
  | .refusedFrame _ => true
  | .sendBegin _ => true
  | .listenWindowEnd _ => true
  | .frameSent => true
  | .missingAcknowledge => true
  | .noClocking => true
  | .resetAsserted => true

end Sys2Proof
end

