-- ==== Sys2Proof/Certificates/Slice0/Obligations.lean ====
section
/-! DEFINITION. The statements for the provers. Each docstring says which rules of spec/ it formalises, and names the
log entry where it rests on a choice of the model. -/

section
open Sys2Proof Sys2Proof.Machine

/-! ### The step and the machine as a whole -/

/-- One step runs the command at the front of the queue on the state with the queue's rest; with no command waiting
the block idles (the model's own: log 1). -/
def Obligations.StepRunsFrontCommand : Prop :=
  ∀ (s : State) (c : Instr) (rest : List Instr),
    (s.pending = c :: rest → step s = exec c { s with pending := rest }) ∧ (s.pending = [] → step s = .next s)

/-- POWER_ON brings every block to its power-on state, and RESET_ASSERTED holds it there (00 Conventions, 11 R185);
the queue of waiting commands is the model's own (log 1, log 9). The power-on values that R8, R9, R20, R28, R44, R52,
R67, R104, R105, R107, R109, R131, R145, R147, R151, R158, R172, R177, R179, R185 and R196 give. -/
def Obligations.PowerOnState : Prop :=
  (∀ (s : State),
     exec .powerOn s = .next { State.reset with pending := s.pending } ∧
       exec .resetAsserted s = .next { State.reset with resetHeld := true, pending := s.pending }) ∧
  (State.reset.tick = 0 ∧
   (∀ n < 32, State.reset.stations.get n =
     { kind := .unused, bath := 0, sensing := false, inService := false, occ := .empty }) ∧
   (∀ n < 8, (State.reset.baths.get n).tRef = 200 ∧ (State.reset.baths.get n).points = List.replicate 9 1024 ∧
     (State.reset.baths.get n).rho = 0 ∧ (State.reset.baths.get n).slope = 0 ∧ (State.reset.baths.get n).threshold = 0 ∧
     (State.reset.baths.get n).probeFault = false ∧ (State.reset.baths.get n).staleCount = 0 ∧
     (State.reset.baths.get n).remainder = 0 ∧ (State.reset.baths.get n).owedUnsent = false ∧
     (State.reset.baths.get n).areaInFlight = 0 ∧
     (State.reset.baths.get n).temp = none ∧ (State.reset.baths.get n).status = .none ∧
     (State.reset.baths.get n).owed = 0 ∧ (State.reset.baths.get n).pendingF = none ∧
     (State.reset.baths.get n).active =
       { fT := 1024, g := 1024, fTA := 1024, tempClamp := false, actClamp := false }) ∧
   (∀ n < 16, State.reset.recipes.get n = { st := .empty, steps := [], refs := 0 }) ∧
   (∀ n < 24, State.reset.racks.get n = none ∧ State.reset.requests.get n = none) ∧
   State.reset.queue = [] ∧ State.reset.seqCounter = 0 ∧
   State.reset.dispatcher.lookahead = 300 ∧ State.reset.dispatcher.orderMargin = 30 ∧
   State.reset.dispatcher.admitMargin = 300 ∧ State.reset.dispatcher.lowMark = 100 ∧
   State.reset.dispatcher.hysteresis = 50 ∧ State.reset.dispatcher.mode = .deadline ∧
   State.reset.dispatcher.notice = .clear ∧ State.reset.dispatcher.side = .above ∧
   State.reset.hoistA = State.reset.hoistB ∧ State.reset.hoistA.st = .offline ∧ State.reset.hoistA.released = false ∧
   State.reset.hoistA.position = none ∧ State.reset.hoistA.order = none ∧
   State.reset.hoistA.timer = none ∧ State.reset.hoistA.suspended = false ∧ State.reset.hoistA.lastOrder = 0 ∧
   State.reset.hoistA.lastRefusal = none ∧ State.reset.hoistA.reason = .none ∧ State.reset.hoistA.stray = 0 ∧
   State.reset.hoistA.timing =
     { fixed := 20, perStation := 15, place := 40, acceptTime := 20, approach := 100, lift := 50, spanAck := 150 } ∧
   State.reset.span.spanA = .empty ∧ State.reset.span.spanB = .empty ∧ State.reset.span.guardGap = 1 ∧
   State.reset.span.split = 16 ∧ State.reset.span.seqA = 0 ∧ State.reset.span.seqB = 0 ∧
   State.reset.span.handover.stage = .none ∧ State.reset.span.handover.timer = none ∧
   State.reset.span.handover.withdrawn = false ∧
   (∀ n < 8, State.reset.gens.get n =
     { active := { prescale := 0, cycle := 0, width := 0, extra := 0 }, pendingP := none, running := false, sample := 0,
       unit := 0, cycle := 0, burstLen := 0, burst := false }) ∧
   (∀ n < 32, State.reset.marks.get n = .out ∧ State.reset.windows.get n = none) ∧
   State.reset.line = { st := .standby, causes := [] } ∧
   (∀ n < 35, (State.reset.io.inputs.get n).debounce = 3 ∧ (State.reset.io.inputs.get n).polarity = .activeHigh ∧
     (State.reset.io.inputs.get n).enabled = true ∧ (State.reset.io.inputs.get n).level = false ∧
     (State.reset.io.inputs.get n).run = 0) ∧
   (∀ n < 35, (State.reset.io.outputs.get n).mode = .function ∧ (State.reset.io.outputs.get n).commanded = false ∧
     (State.reset.io.outputs.get n).latch = false ∧ (State.reset.io.outputs.get n).run = 0 ∧
     (State.reset.io.outputs.get n).faulted = false) ∧
   State.reset.link.engine = .listen ∧ State.reset.link.lastHoist = 1 ∧ State.reset.link.discardWait = none ∧
   State.reset.link.dropped = false ∧
   State.reset.link.strayBath = 0 ∧
   ∀ c < 4, State.reset.link.slot c = none ∧ State.reset.link.held c = 0 ∧
     (State.reset.link.channels.get c).counts =
       { good := 0, truncated := 0, charError := 0, lengthError := 0, refused := 0, cutOff := 0, sent := 0,
         missingAck := 0, noClocking := 0, lost := 0 })

/-- The laws that the invariance statements keep all hold right after reset. -/
def Obligations.ResetKeepsLaws : Prop :=
  State.reset.OutputsFollow ∧ State.reset.line.CausesFit ∧ State.reset.line.Ordered ∧ State.reset.SuspendedInHalt ∧
    State.reset.BathsLawful ∧ State.reset.QueuesBounded ∧ State.reset.OrdersFit ∧ State.reset.TimingsInRange ∧
    State.reset.SpansLawful

/-- While RESET is held low every block stays at its power-on state: no command but POWER_ON and RESET_ASSERTED
changes anything (11 R185). The queue of waiting commands is the model's own (log 9). The tick count rises only at
LINE_TICK, and otherwise changes only at power-on and RESET; no command touches the queue of waiting commands (03 R44,
log 1). -/
def Obligations.ResetHeldAndTickCount : Prop :=
  (∀ (s : State) (c : Instr), s.resetHeld = true → c ≠ .powerOn → c ≠ .resetAsserted → exec c s = .next s) ∧
  (∀ (s t : State) (c : Instr), exec c s = .next t →
     t.pending = s.pending ∧
       (c ≠ .powerOn → c ≠ .resetAsserted →
         t.tick = if c = .lineTick ∧ s.resetHeld = false then s.tick + 1 else s.tick))

/-! ### The laws every step keeps -/

/-- Every step keeps every output line's commanded level at its source: the function in FUNCTION mode, the latch in
MANUAL mode (10 R179). -/
def Obligations.OutputsFollowKept : Prop :=
  ∀ (s t : State), s.OutputsFollow → step s = .next t → t.OutputsFollow

/-- Every step keeps the cause set's law: each cause at most once, no cause in RUN, no HALT cause in HOLD (09 R159).
-/
def Obligations.CauseLawKept : Prop :=
  ∀ (s t : State), s.line.CausesFit ∧ s.line.Ordered → step s = .next t → t.line.CausesFit ∧ t.line.Ordered

/-- Every step keeps hoist timers, and a handover timer that runs, suspended exactly while the line is HALT (06 R107,
R127, 07 R143). -/
def Obligations.SuspensionKept : Prop :=
  ∀ (s t : State), s.SuspendedInHalt → step s = .next t → t.SuspendedInHalt

/-- Every step keeps the bath table's laws: every field of the configuration half in the range of R9, the last
temperature none or within 100..400, rate factors within 256..4095, activity factors within 512..1024, owed volume
within 0..65535 and its remainder within 0..999, stale count and area in flight within 0..65535, and the stale count 0
in status NONE (01 R9, 02 R39, 03 R52, 04 R67, R71). -/
def Obligations.BathLawsKept : Prop :=
  ∀ (s t : State), s.BathsLawful → step s = .next t → t.BathsLawful

/-- Every step keeps every outbound queue within its places, four frames on channels 0 to 2 and eight on channel 3,
and the last hoist received one of the two (11 R185, R192). -/
def Obligations.QueuesStayBounded : Prop :=
  ∀ (s t : State), s.QueuesBounded → step s = .next t → t.QueuesBounded

/-- Every step keeps a hoist's open order present exactly while the hoist is BUSY (06 R108). Every step keeps both
hoists' timing tables within the ranges of R109 (06 R109). -/
def Obligations.OrdersFitKept : Prop :=
  (∀ (s t : State), s.OrdersFit → step s = .next t → t.OrdersFit) ∧
  (∀ (s t : State), s.TimingsInRange → step s = .next t → t.TimingsInRange)

/-- Every step keeps the two recorded spans apart by the guard gap, and with them what a handover in progress still
has to grant: the widened span of its taker and the narrowed span of the other hoist (07 R130, R133, R136, R139,
R140). -/
def Obligations.SpansNeverMeet : Prop :=
  ∀ (s t : State), s.SpansLawful → step s = .next t → t.SpansLawful

/-! ### How requests wait and how queries answer -/

/-- A request that finds fewer than three free places of the order-station queue stays in the slot of channel 3, and
nothing else happens (11 R191); a request cannot reach a slot that is filled (11 R185, log 8). -/
def Obligations.RequestWaits : Prop :=
  ∀ (s : State) (i : Instr), i.isRequest = true → s.resetHeld = false → s.OutputsFollow →
    (s.link.slot 3 = none → 8 < s.link.held 3 + 3 →
      exec i s = .next { s with link := s.link.setSlot 3 (some (.good i)) }) ∧
    (s.link.slot 3 ≠ none → exec i s = .next s)

/-- RACK QUERY, STATION QUERY, BATH QUERY and RECIPE QUERY only queue their reply (02 R43, 01 R7, 04 R82, 01 R18).
QUEUE QUERY, HOIST QUERY, SPAN QUERY and AGITATION QUERY only queue their reply (05 R106, 06 R129, 07 R146, 08 R157).
LINE QUERY queues its reply and then clears the notices-dropped indication, changing nothing else (09 R170); IO QUERY
and LINK QUERY only queue their reply, the latter with the query itself in channel 3's slot (10 R183, 11 R196). A reply
is one to three frames at the tail of channel 3's queue, one after another: contents of at most 27 characters make one
part, of at most 54 two, and longer ones three, each part but the last 27 characters long and carrying the request's
kind, the reply code, its number and the number of parts; nothing else changes (11 R195). A hoist message, or FRAME
REFUSED on channels 0 to 2, joins the tail where fewer than four frames are held and is a lost send otherwise; a notice
joins channel 3's tail where fewer than five are held, and is otherwise a lost send that sets the notices-dropped
indication (06 R110, 11 R192). -/
def Obligations.QueriesOnlyReply : Prop :=
  (∀ (s : State) (id index n k slot place : Nat) (r : Rack) (e : QueueEntry), s.TakesRequests →
     (¬(1 ≤ id ∧ id ≤ 65534 ∧ index ≤ 12) → exec (.rackQuery id index) s = .next (s.reply 0x44 .badValue [])) ∧
     (1 ≤ id → id ≤ 65534 → index ≤ 12 →
       (s.slotOf id = some slot → s.racks.get slot = some r →
         exec (.rackQuery id index) s = .next (s.reply 0x44 .ok (s.rackReply slot r index))) ∧
       (s.slotOf id = none → s.queue[place]? = some e → e.id = id →
         (∀ j < place, s.queue[j]?.map (·.id) ≠ some id) →
         exec (.rackQuery id index) s = .next (s.reply 0x44 .ok (e.reply (place + 1)))) ∧
       (s.slotOf id = none → (∀ x ∈ s.queue, x.id ≠ id) →
         exec (.rackQuery id index) s = .next (s.reply 0x44 .unknown []))) ∧
     exec (.stationQuery n) s =
       .next (if n ≤ 31 then s.reply 0x46 .ok (s.stationReply n) else s.reply 0x46 .badValue []) ∧
     exec (.bathQuery n) s =
       .next (if n ≤ 7 then s.reply 0x4A .ok (s.baths.get n).reply else s.reply 0x4A .badValue []) ∧
     exec (.recipeQuery n k) s =
       .next (if n ≤ 15 ∧ k ≤ 12 then s.reply 0x4E .ok (s.recipeReply n k) else s.reply 0x4E .badValue [])) ∧
  (∀ (s : State) (h : Hoist) (n k : Nat), s.TakesRequests →
     exec (.queueQuery n) s =
       .next (if n ≤ 24 then s.reply 0x50 .ok (s.queueReply n) else s.reply 0x50 .badValue []) ∧
     exec (.hoistQuery (some h)) s = .next (s.reply 0x54 .ok (s.hoistReply h)) ∧
     exec (.hoistQuery none) s = .next (s.reply 0x54 .badValue []) ∧
     exec .spanQuery s = .next (s.reply 0x56 .ok s.spanReply) ∧
     exec (.agitationQuery n k) s =
       .next (if n ≤ 7 ∧ k ≤ 1 then s.reply 0x58 .ok (s.agitationReply n k) else s.reply 0x58 .badValue [])) ∧
  (∀ (s : State) (n : Nat), s.TakesRequests →
     exec .lineQuery s = .next
       { s with link := { s.link.reply 0x5F .ok s.lineReply with dropped := false } } ∧
     exec (.ioQuery (some .input) n) s =
       .next (if n ≤ 34 then s.reply 0x63 .ok (s.inputReply n) else s.reply 0x63 .badValue []) ∧
     exec (.ioQuery (some .output) n) s =
       .next (if n ≤ 34 then s.reply 0x63 .ok (s.outputReply n) else s.reply 0x63 .badValue []) ∧
     exec (.ioQuery none n) s = .next (s.reply 0x63 .badValue []) ∧
     exec (.linkQuery n) s =
       .next (if n ≤ 3 then
           s.reply 0x64 .ok (({ s with link := s.link.setSlot 3 (some (.good (.linkQuery n))) } : State).linkReply n)
         else s.reply 0x64 .badValue [])) ∧
  (∀ (s : State) (kind : Nat) (code : ReplyCode) (contents : List Byte),
     (let t := s.reply kind code contents
      let parts :=
        if contents.length ≤ 27 then [contents]
        else if contents.length ≤ 54 then [contents.take 27, contents.drop 27]
        else [contents.take 27, (contents.drop 27).take 27, contents.drop 54]
      t.queued 3 = s.queued 3 ++ parts.zipIdx.map (fun p => .reply kind code (p.2 + 1) parts.length p.1) ∧
      (contents.length ≤ 81 → ∀ p ∈ parts, p.length ≤ 27) ∧ parts.flatten = contents ∧
      t = { s with link := t.link } ∧
      { t.link with channels := s.link.channels, stamp := s.link.stamp } = s.link ∧
      (t.link.channels.get 3).slot = (s.link.channels.get 3).slot ∧
      (t.link.channels.get 3).counts = (s.link.channels.get 3).counts ∧
      ∀ c < 3, t.link.channels.get c = s.link.channels.get c)) ∧
  (∀ (l : Link) (c : Nat) (m : OutMsg), c < 4 →
     (let x := fun (n : Nat) => l.channels.get n
      let joined := fun (n : Nat) =>
        { l with
          channels := l.channels.set n { x n with queue := (x n).queue ++ [{ msg := m, stamp := l.stamp }] }
          stamp := l.stamp + 1 }
      let lost := fun (n : Nat) =>
        { l with channels := l.channels.set n { x n with counts := { (x n).counts with
            lost := if 65535 ≤ (x n).counts.lost then 65535 else (x n).counts.lost + 1 } } }
      l.send c m = (if (x c).queue.length < 4 then joined c else lost c) ∧
      l.notify m = (if (x 3).queue.length < 5 then joined 3 else { lost 3 with dropped := true })))

/-! ### Stations, baths and recipes -/

/-- STATION SET with a value out of range is BAD_VALUE in every line state, HALT included: R4 has it "checked first for
its values", R5 has it refused in HALT with WRONG_STATE "whatever it carries", and that the check of the values comes
first there too is the model's reading (log 28). STATION SET in STANDBY: the four fields written, occupancy brought
into step with the seat input, and a STATION notice where the station becomes FOREIGN (01 R4, R6). With its values in
range, in RUN and HOLD it only takes an EMPTY station out of service, and in HALT it is refused with WRONG_STATE (01
R5). -/
def Obligations.StationSetByLineState : Prop :=
  (∀ (s : State) (n bath : Nat) (kind : Option StationKind) (sensing inService : Option Bool) (k : StationKind)
     (se sv : Bool), s.TakesRequests →
     ((kind = none ∨ sensing = none ∨ inService = none ∨ 31 < n ∨ 7 < bath ∨
         (kind = some .unused ∧ inService = some true)) →
       exec (.stationSet n kind bath sensing inService) s = .next (s.reply 0x45 .badValue []).driveOutputs) ∧
     (s.line.st = .standby → n ≤ 31 → bath ≤ 7 → ¬(k = .unused ∧ sv = true) →
       exec (.stationSet n (some k) bath (some se) (some sv)) s = .next (State.reply
         (let x := s.stations.get n
          let foreign := x.sensing = false ∧ se = true ∧ x.occ = .empty ∧ s.level n = true
          let occ :=
            if foreign then .foreign
            else if x.sensing = true ∧ se = false ∧ x.occ = .foreign then .empty
            else x.occ
          let link := if foreign then s.link.notify (.station n .foreign .foreign) else s.link
          { s with
            stations := s.stations.set n
              { kind := k, bath := if k = .bath then bath else 0, sensing := se, inService := sv, occ := occ }
            link := link }) 0x45 .ok []).driveOutputs)) ∧
  (∀ (s : State) (n bath : Nat) (k : StationKind) (se sv : Bool), s.TakesRequests → s.line.st ≠ .standby →
     n ≤ 31 → bath ≤ 7 → ¬(k = .unused ∧ sv = true) →
     exec (.stationSet n (some k) bath (some se) (some sv)) s = .next (State.driveOutputs
       (let x := s.stations.get n
        if s.line.st = .halt ∨ ¬(k = x.kind ∧ bath = x.bath ∧ se = x.sensing ∧ sv = false) then
          s.reply 0x45 .wrongState []
        else if x.occ ≠ .empty then s.reply 0x45 .busy []
        else State.reply { s with stations := s.stations.set n { x with inService := false } } 0x45 .ok [])))

/-- BATH SET: the four fields written together with a new pending factor record, or BAD_VALUE (01 R10, 03 R53). -/
def Obligations.BathSetWritesAndComputes : Prop :=
  ∀ (s : State) (b tRef rho slope threshold : Nat), s.TakesRequests →
    exec (.bathSet b tRef rho slope threshold) s = .next (State.driveOutputs
      (if b ≤ 7 ∧ 150 ≤ tRef ∧ tRef ≤ 300 ∧ rho ≤ 2000 ∧ slope ≤ 255 ∧ threshold ≤ 65535 then
        (let x := { s.baths.get b with tRef := tRef, rho := rho, slope := slope, threshold := threshold }
         State.reply { s with baths := s.baths.set b { x with pendingF := some x.computeFactors } } 0x47 .ok [])
      else s.reply 0x47 .badValue []))

/-- BATH TABLE SET: nine points replaced together with a new pending factor record, or BAD_VALUE and no point written
(01 R11). -/
def Obligations.BathTableSetReplacesAll : Prop :=
  ∀ (s : State) (b : Nat) (points : List Nat), s.TakesRequests → points.length = 9 →
    exec (.bathTableSet b points) s = .next (State.driveOutputs
      (if b ≤ 7 ∧ ∀ p ∈ points, 256 ≤ p ∧ p ≤ 4095 then
        (let x := { s.baths.get b with points := points }
         State.reply { s with baths := s.baths.set b { x with pendingF := some x.computeFactors } } 0x48 .ok [])
      else s.reply 0x48 .badValue []))

/-- BATH OWED CLEAR and PUMPED: E and, for the clear, the remainder; a new pending factor record; and OWED with the
new E (04 R78, R79). OWED: a waiting OWED of the bath takes the new figure in its place, else the tail of a queue with
room, else the bath is marked owed unsent (04 R77, 11 R192). -/
def Obligations.OwedClearedAndSent : Prop :=
  (∀ (s : State) (b volume n : Nat), b ≤ 7 →
     (s.TakesRequests →
       exec (.bathOwedClear b) s = .next (State.driveOutputs
         (let x := { s.baths.get b with owed := 0, remainder := 0 }
          (State.sendOwed { s with baths := s.baths.set b { x with pendingF := some x.computeFactors } } b).reply
            0x49 .ok []))) ∧
     (s.TakesRequests → 7 < n → exec (.bathOwedClear n) s = .next (s.reply 0x49 .badValue []).driveOutputs) ∧
     (s.resetHeld = false →
       exec (.pumped b volume) s = .next (State.driveOutputs
         (let x := { s.baths.get b with owed := (s.baths.get b).owed - volume }
          State.sendOwed { s with baths := s.baths.set b { x with pendingF := some x.computeFactors } } b)))) ∧
  (∀ (s : State) (b : Nat),
     (let x := s.baths.get b
      let frames := (s.link.channels.get 2).queue
      let begun := if s.link.engine = .sending 2 then 1 else 0
      let waits := ∃ f ∈ frames.drop begun, match f.msg with | .owed c _ => c = b | _ => False
      (waits →
        ((s.sendOwed b).link.channels.get 2).queue.map (·.msg) =
          (frames.take begun).map (·.msg) ++ (frames.drop begun).map (fun f =>
            match f.msg with
            | .owed c v => if c = b then .owed b x.owed else .owed c v
            | m => m) ∧
        s.sendOwed b = { s with link := (s.sendOwed b).link } ∧
        (∀ c < 4, c ≠ 2 → (s.sendOwed b).link.channels.get c = s.link.channels.get c)) ∧
      (¬waits → frames.length < 4 → s.sendOwed b = { s with link := s.link.push 2 (.owed b x.owed) }) ∧
      (¬waits → 4 ≤ frames.length → s.sendOwed b = { s with baths := s.baths.set b { x with owedUnsent := true } })))

/-- RECIPE OPEN (01 R15). STEP SET: its four checks in order, then the step replaced or appended (01 R16, with the
ranges of R13). RECIPE CLOSE: refused out of range or not OPEN; otherwise READY when no step fails, and BAD_VALUE with
the first failing step and its reason when one does (01 R17; that NO_STEPS, NO_STATION and REPEATED_BATH are sent as
0, 1 and 2 is the model's choice, log 22). -/
def Obligations.RecipeWriting : Prop :=
  (∀ (s : State) (n : Nat), s.TakesRequests →
     exec (.recipeOpen n) s = .next (State.driveOutputs
       (let x := s.recipes.get n
        if 15 < n then s.reply 0x4B .badValue []
        else if x.st = .ready ∧ 0 < x.refs then s.reply 0x4B .inUse []
        else State.reply { s with recipes := s.recipes.set n { x with st := .writing, steps := [] } } 0x4B .ok []))) ∧
  (∀ (s : State) (n k bath nominal tolerance drain : Nat) (comp : Option Compensation) (adjustable agitate : Option Bool)
     (cls : Option StepClass) (c : Compensation) (ad ag : Bool) (cl : StepClass), s.TakesRequests →
     (let x := s.recipes.get n
      let f : StepFields := { bath := bath, nominal := nominal, comp := comp, adjustable := adjustable, cls := cls,
                              tolerance := tolerance, drain := drain, agitate := agitate }
      let ranged := bath ≤ 7 ∧ 1 ≤ nominal ∧ nominal ≤ 36000 ∧ tolerance ≤ 65535 ∧ drain ≤ 255
      (15 < n → exec (.stepSet n k f) s = .next (s.reply 0x4C .badValue []).driveOutputs) ∧
      (n ≤ 15 → x.st ≠ .writing → exec (.stepSet n k f) s = .next (s.reply 0x4C .wrongState []).driveOutputs) ∧
      (n ≤ 15 → x.st = .writing →
        (k = 0 ∨ 12 < k ∨ x.steps.length + 1 < k ∨ comp = none ∨ adjustable = none ∨ cls = none ∨ agitate = none ∨
          ¬ranged) →
        exec (.stepSet n k f) s = .next (s.reply 0x4C .badValue []).driveOutputs) ∧
      (n ≤ 15 → x.st = .writing → 1 ≤ k → k ≤ 12 → k ≤ x.steps.length + 1 → ranged →
        exec (.stepSet n k { f with comp := some c, adjustable := some ad, cls := some cl, agitate := some ag }) s =
          .next (State.driveOutputs
            (let st : RecipeStep := { bath := bath, nominal := nominal, comp := c, adjustable := ad, cls := cl,
                                      tolerance := tolerance, drain := drain, agitate := ag }
             State.reply { s with recipes := s.recipes.set n { x with steps :=
               if k = x.steps.length + 1 then x.steps ++ [st] else x.steps.set (k - 1) st } } 0x4C .ok []))))) ∧
  (∀ (s : State) (n k : Nat), s.TakesRequests →
     (let x := s.recipes.get n
      let served := fun j => (List.range 32).any (fun m => decide ((s.stations.get m).kind = .bath) &&
        decide (some (s.stations.get m).bath = x.steps[j]?.map (·.bath)) && (s.stations.get m).inService)
      let repeated := fun j => decide (0 < j) && decide (x.steps[j - 1]?.map (·.bath) = x.steps[j]?.map (·.bath))
      (15 < n → exec (.recipeClose n) s = .next (s.reply 0x4D .badValue []).driveOutputs) ∧
      (n ≤ 15 → x.st ≠ .writing → exec (.recipeClose n) s = .next (s.reply 0x4D .wrongState []).driveOutputs) ∧
      (n ≤ 15 → x.st = .writing →
        (x.steps = [] → exec (.recipeClose n) s = .next (s.reply 0x4D .badValue [0, 0]).driveOutputs) ∧
        (k < x.steps.length → k < 12 → (∀ j < k, served j = true ∧ repeated j = false) →
          (served k = false →
            exec (.recipeClose n) s = .next (s.reply 0x4D .badValue [BitVec.ofNat 8 (k + 1), 1]).driveOutputs) ∧
          (served k = true → repeated k = true →
            exec (.recipeClose n) s = .next (s.reply 0x4D .badValue [BitVec.ofNat 8 (k + 1), 2]).driveOutputs)) ∧
        (x.steps ≠ [] → (∀ j < x.steps.length, served j = true ∧ repeated j = false) →
          exec (.recipeClose n) s = .next (State.driveOutputs (State.reply
            { s with recipes := s.recipes.set n { x with st := .ready, refs := 0 } } 0x4D .ok []))))))

/-! ### Rate factors and targets -/

/-- The temperature factor: the clamped difference, the interpolation rounded with halves away from zero, the clamp,
and its indication; F_4 while the bath has had no valid report (03 R46, R47, R48). The activity factor with its floor
of 512, and the combined factor with a half rounded up and its clamp; the activity clamp indication (03 R49, R50,
R51). -/
def Obligations.RateFactors : Prop :=
  (∀ (x : Bath) (t : Int),
     (x.status = .none → x.tempFactor = (x.point 4, false)) ∧
     (x.status ≠ .none → x.temp = some t →
       (let dT : Int := max (-80) (min 80 (t - x.tRef))
        let k := ((dT + 80) / 20).toNat
        let r := (dT + 80) % 20
        let dr : Int := ((x.point (k + 1) : Int) - x.point k) * r
        let v : Int := if dT = 80 then x.point 8
          else if 0 ≤ dr then x.point k + (dr + 10) / 20 else x.point k - (10 - dr) / 20
        x.tempFactor = ((max 256 (min 4095 v)).toNat,
          decide (t - x.tRef < -80 ∨ 80 < t - x.tRef ∨ v < 256 ∨ 4095 < v)) ∧
        (x.points.length = 9 → (∀ p ∈ x.points, 256 ≤ p ∧ p ≤ 4095) → 256 ≤ v ∧ v ≤ 4095)))) ∧
  (∀ (x : Bath),
     (let q := x.owed * x.slope / 256
      let g := if 512 < q then 512 else 1024 - q
      let v := (x.tempFactor.1 * g + 512) / 1024
      x.computeFactors.g = g ∧ x.computeFactors.g ≤ 1024 ∧ (x.slope = 0 → x.computeFactors.g = 1024) ∧
      x.computeFactors.fT = x.tempFactor.1 ∧ x.computeFactors.tempClamp = x.tempFactor.2 ∧
      x.computeFactors.fTA = max 256 (min 4095 v) ∧
      x.computeFactors.actClamp = decide (512 < q ∨ v < 256 ∨ 4095 < v)))

/-- A step's target: N × 64, scaled by 100 + adjust and rounded down where the step is adjustable (03 R59). Over the 16
phases a rack gains exactly F units, and phase 0 never receives the extra unit (03 R56). The step a rack is in is the
step of its recipe that its step index names, counted from 1, and none at index 0 and past the last step (02 R24). -/
def Obligations.TargetsAndIncrements : Prop :=
  (∀ (st : RecipeStep) (adjust : Int),
     (st.adjustable = false → st.target adjust = st.nominal * 64) ∧
     (st.adjustable = true → -30 ≤ adjust → adjust ≤ 100 →
       st.target adjust = st.nominal * 64 * (100 + adjust).toNat / 100) ∧
     (1 ≤ st.nominal → st.nominal ≤ 36000 → -30 ≤ adjust → adjust ≤ 100 →
       44 ≤ st.target adjust ∧ st.target adjust ≤ 4608000)) ∧
  (∀ (f : Nat), ((List.range 16).map (increment f)).sum = f ∧ increment f 0 = f / 16 ∧
     ∀ p < 16, increment f p = f / 16 ∨ increment f p = f / 16 + 1) ∧
  (∀ (s : State) (r : Rack) (recipe k : Nat),
     s.currentStep r = (if r.stepIdx = 0 then none else (s.recipes.get r.recipe).steps[r.stepIdx - 1]?) ∧
     s.recipeStep recipe k = (if k = 0 then none else (s.recipes.get recipe).steps[k - 1]?))

/-! ### Settings and agitation -/

/-- HOIST TIMING, SPAN CONFIG and DISPATCH CONFIG: the line states that take them, their ranges, and all settings
written together (06 R109, 07 R131, 05 R105; the order of the two checks is log 28). -/
def Obligations.SettingsWritten : Prop :=
  ∀ (s : State) (h : Hoist) (t : Timing) (g sp : Nat) (f : DispatchFields) (m : UrgencyMode), s.TakesRequests →
    exec (.hoistTiming (some h) t) s = .next (State.driveOutputs
      (if s.line.st ≠ .standby then s.reply 0x51 .wrongState []
      else if t.fixed ≤ 600 ∧ 1 ≤ t.perStation ∧ t.perStation ≤ 300 ∧ t.place ≤ 600 ∧ 5 ≤ t.acceptTime ∧
          t.acceptTime ≤ 600 ∧ t.approach ≤ 3000 ∧ 5 ≤ t.lift ∧ t.lift ≤ 600 ∧ 10 ≤ t.spanAck ∧ t.spanAck ≤ 3000 then
        (s.setHoist h { s.hoist h with timing := t }).reply 0x51 .ok []
      else s.reply 0x51 .badValue [])) ∧
    exec (.hoistTiming none t) s = .next (State.driveOutputs
      (if s.line.st ≠ .standby then s.reply 0x51 .wrongState [] else s.reply 0x51 .badValue [])) ∧
    exec (.spanConfig g sp) s = .next (State.driveOutputs
      (if s.line.st ≠ .standby then s.reply 0x55 .wrongState []
      else if g ≤ 3 ∧ 1 ≤ sp ∧ sp ≤ 31 ∧ sp + g ≤ 31 then
        State.reply { s with span := { s.span with guardGap := g, split := sp } } 0x55 .ok []
      else s.reply 0x55 .badValue [])) ∧
    exec (.dispatchConfig { f with mode := some m }) s = .next (State.driveOutputs
      (if s.line.st = .run ∨ s.line.st = .halt then s.reply 0x4F .wrongState []
      else if 50 ≤ f.lookahead ∧ f.lookahead ≤ 3000 ∧ f.orderMargin ≤ 600 ∧ f.admitMargin ≤ 3000 ∧ f.lowMark ≤ 3000 ∧
          f.hysteresis ≤ 600 then
        State.reply { s with dispatcher := { s.dispatcher with
          lookahead := f.lookahead, orderMargin := f.orderMargin, admitMargin := f.admitMargin,
          lowMark := f.lowMark, hysteresis := f.hysteresis, mode := m } } 0x4F .ok []
      else s.reply 0x4F .badValue [])) ∧
    exec (.dispatchConfig { f with mode := none }) s = .next (State.driveOutputs
      (if s.line.st = .run ∨ s.line.st = .halt then s.reply 0x4F .wrongState [] else s.reply 0x4F .badValue []))

/-- AGITATION SET: a RUNNING generator holds the program as pending; a STOPPED one starts with it at cycle 0, and its
WAITING stations join; an all-zero program leaves a STOPPED one as it is (08 R150, with R148 steps 4 and 5).
CYCLE_START: the next cycle with its pending program, or the stop where that program is all zero; WAITING stations
join a generator that runs on. It acts when the cycle has ended (08 R148; that condition is log 2). -/
def Obligations.AgitationPrograms : Prop :=
  (∀ (s : State) (b : Nat) (p : Program), s.TakesRequests →
     exec (.agitationSet b p) s = .next (State.driveOutputs
       (let g := s.gens.get b
        if ¬(b ≤ 7 ∧ p.prescale ≤ 255 ∧ p.cycle ≤ 15 ∧ p.width ≤ 255 ∧ p.extra ≤ 15) then s.reply 0x57 .badValue []
        else if g.running = true then State.reply { s with gens := s.gens.set b { g with pendingP := some p } } 0x57 .ok []
        else if p = { prescale := 0, cycle := 0, width := 0, extra := 0 } then s.reply 0x57 .ok []
        else State.reply
          { s with
            gens := s.gens.set b
              { active := p, pendingP := none, running := true, sample := 0, unit := 0, cycle := 0,
                burstLen := min p.width ((p.cycle + 1) * 16), burst := decide (1 ≤ p.width) }
            marks := s.marks.mapIdx (fun n m => if m = .waiting ∧ (s.stations.get n).bath = b then .joined else m) }
          0x57 .ok []))) ∧
  (∀ (s : State) (b : Nat), s.resetHeld = false →
     (let g := s.gens.get b
      let p := g.pendingP.getD g.active
      let j := (g.cycle + 1) % 16
      let units := min (p.width + (if 1 ≤ rev4 j ∧ rev4 j ≤ p.extra then 1 else 0)) ((p.cycle + 1) * 16)
      exec (.cycleStart b) s = .next (State.driveOutputs
        (if ¬(g.running = true ∧ (g.active.cycle + 1) * 16 ≤ g.unit) then s
        else if p = { prescale := 0, cycle := 0, width := 0, extra := 0 } then
          { s with
            gens := s.gens.set b
              { active := p, pendingP := none, running := false, sample := 0, unit := 0, cycle := 0, burstLen := 0,
                burst := false } }
        else
          { s with
            gens := s.gens.set b
              { active := p, pendingP := none, running := true, sample := 0, unit := 0, cycle := j, burstLen := units,
                burst := decide (1 ≤ units) }
            marks := s.marks.mapIdx (fun n m => if m = .waiting ∧ (s.stations.get n).bath = b then .joined else m) })) ∧
      exec (.burstEnd b) s = .next (State.driveOutputs
        (if g.running = true ∧ g.burst = true ∧ g.burstLen ≤ g.unit ∧ g.unit < (g.active.cycle + 1) * 16 then
          { s with gens := s.gens.set b { g with burst := false } }
        else s))))

/-! ### The line -/

/-- Adding a cause: nothing where it is in the set; otherwise it enters the set, the line moves by the table, the move
to HALT queues HALT to both hoists and suspends their timers and a running acknowledgement timer, and a LINE notice
with the state and the set after it is queued (09 R160, R167, 06 R127, 07 R143; that hoist A's HALT is the older is the
model's choice, log 41, and so is the suspended mark "no" of a handover without a timer, log 15). -/
def Obligations.CauseAddition : Prop :=
  ∀ (s : State) (c : Cause),
    (let set := Cause.all.filter (fun x => decide (x = c ∨ x ∈ s.line.causes))
     (c ∈ s.line.causes → s.addCause c = s) ∧
     (c ∉ s.line.causes →
       (c.isHalt = true → (s.line.st = .run ∨ s.line.st = .hold) → s.addCause c =
         { s with
           line := { st := .halt, causes := set }
           link := ((s.link.send 0 .halt).send 1 .halt).notify (.line c .halt set)
           hoistA := { s.hoistA with suspended := true }
           hoistB := { s.hoistB with suspended := true }
           span := { s.span with handover :=
             { s.span.handover with suspended := s.span.handover.timer.isSome } } }) ∧
       (c.isHalt = false → s.line.st = .run → s.addCause c =
         { s with line := { st := .hold, causes := set }, link := s.link.notify (.line c .hold set) }) ∧
       (s.line.st = .standby ∨ s.line.st = .halt ∨ (c.isHalt = false ∧ s.line.st = .hold) → s.addCause c =
         { s with line := { s.line with causes := set }, link := s.link.notify (.line c s.line.st set) })))

/-- LINE HOLD and LINE HALT add their cause in every line state and are answered OK with the line state after it (09
R163). The evaluation of the bound conditions adds, one after another as any addition, each bound cause whose condition
holds and no other cause: the line leaves RUN for HOLD by a HOLD cause added and RUN or HOLD for HALT by ESTOP added,
and where every such cause is in the set already nothing changes at all (09 R160, R161; the order of the additions is
log 38). LINE RUN refused: by the line state, by a remaining cause, by a hoist, or from STANDBY for want of a station;
the bound causes it evaluated stay added (09 R161, R162). -/
def Obligations.HoldHaltAndRunRefused : Prop :=
  (∀ (s : State), s.TakesRequests →
     exec .lineHold s = .next (State.driveOutputs
       ((s.addCause .operatorHold).reply 0x5A .ok [BitVec.ofNat 8 (s.addCause .operatorHold).line.st.code])) ∧
     exec .lineHalt s = .next (State.driveOutputs
       ((s.addCause .operatorHalt).reply 0x5B .ok [BitVec.ofNat 8 (s.addCause .operatorHalt).line.st.code]))) ∧
  (∀ (s : State) (c : Cause),
     (let e := s.evaluateBound
      let holding := Cause.all.filter (fun x => decide (s.boundCondition x = some true))
      let added := holding.filter (fun x => decide (x ∉ s.line.causes))
      e = holding.foldl State.addCause s ∧
      (c ∈ e.line.causes ↔ c ∈ s.line.causes ∨ s.boundCondition c = some true) ∧
      (added = [] → e = s) ∧
      e.line.st = (match s.line.st with
        | .standby => .standby
        | .halt => .halt
        | .hold => if Cause.estop ∈ added then .halt else .hold
        | .run => if Cause.estop ∈ added then .halt else if added = [] then .run else .hold))) ∧
  (∀ (s : State) (c : Cause), s.TakesRequests →
     (let e := s.evaluateBound
      let others := e.line.causes.filter (fun c => decide (c ≠ .operatorHold))
      let ready := fun (x : HoistRec) => x.st = .idle ∨ x.st = .busy ∨ (x.st = .offline ∧ x.released = true)
      let kept := fun (k : StationKind) =>
        ∃ n : Nat, n < 32 ∧ (s.stations.get n).kind = k ∧ (s.stations.get n).inService = true
      (s.boundCondition c = some true → c ∈ e.line.causes) ∧
      (e.line.st = .run ∨ e.line.st = .halt →
        exec .lineRun s = .next (e.reply 0x59 .wrongState []).driveOutputs) ∧
      (e.line.st = .standby ∨ e.line.st = .hold → others ≠ [] →
        exec .lineRun s = .next
          (e.reply 0x59 .stillPresent
            [BitVec.ofNat 8 (Cause.code others), BitVec.ofNat 8 (Cause.code others / 256)]).driveOutputs) ∧
      (e.line.st = .standby ∨ e.line.st = .hold → others = [] →
        (¬(ready s.hoistA ∧ ready s.hoistB) ∨ (e.line.st = .standby ∧ ¬(kept .load ∧ kept .unload))) →
        exec .lineRun s = .next (e.reply 0x59 .wrongState []).driveOutputs)))

/-- LINE RUN taken: the line becomes RUN with an empty cause set; from STANDBY the initial spans are granted by the
table of R133 with a SPAN queued to each IDLE hoist whose queue has room, and from HOLD the spans stay and no hoist is
sent a frame; a pass is triggered; the reply is OK (09 R162, 07 R132, R133, 11 R192). -/
def Obligations.LineRunTaken : Prop :=
  ∀ (s : State), s.TakesRequests → (∀ c ∈ s.line.causes, c = .operatorHold) →
    (∀ c ∈ Cause.all, s.boundCondition c ≠ some true) → (s.line.st = .standby ∨ s.line.st = .hold) →
    (∀ x ∈ [s.hoistA, s.hoistB], x.st = .idle ∨ x.st = .busy ∨ (x.st = .offline ∧ x.released = true)) →
    (s.line.st = .standby → ∀ k ∈ [StationKind.load, StationKind.unload],
      ∃ n : Nat, n < 32 ∧ (s.stations.get n).kind = k ∧ (s.stations.get n).inService = true) →
    ∃ t, exec .lineRun s = .next t ∧
      (t.line = { st := .run, causes := [] } ∧
       t.Answered 0x59 .ok [] ∧
       s.dispatcher.passesOwed < t.dispatcher.passesOwed ∧
       t.hoistA = s.hoistA ∧ t.hoistB = s.hoistB ∧ t.tick = s.tick ∧ t.gens = s.gens ∧ t.recipes = s.recipes ∧
       t.io.inputs = s.io.inputs ∧ t.marks = s.marks ∧ t.windows = s.windows ∧
       (s.line.st = .hold → t.span = s.span) ∧
       (s.line.st = .standby →
         t.span.guardGap = s.span.guardGap ∧ t.span.split = s.span.split ∧
         t.span.spanA = (if s.hoistA.st ≠ .idle then .empty
           else if s.hoistB.st = .idle then .range 0 (s.span.split - 1) else .range 0 31) ∧
         t.span.spanB = (if s.hoistB.st ≠ .idle then .empty
           else if s.hoistA.st = .idle then .range (s.span.split + s.span.guardGap) 31 else .range 0 31) ∧
         t.span.seqA = (if s.hoistA.st = .idle then (if 255 ≤ s.span.seqA then 1 else s.span.seqA + 1)
           else s.span.seqA) ∧
         t.span.seqB = (if s.hoistB.st = .idle then (if 255 ≤ s.span.seqB then 1 else s.span.seqB + 1)
           else s.span.seqB)) ∧
       (∀ h ∈ [Hoist.a, Hoist.b],
         (t.link.channels.get h.channel).queue.map (·.msg) = (s.link.channels.get h.channel).queue.map (·.msg) ++
           (if s.line.st = .standby ∧ (s.hoist h).st = .idle ∧ s.link.held h.channel < 4 then
             [match t.spanOf h with
              | .empty => OutMsg.span 1 0 (t.seqOf h)
              | .range lo hi => OutMsg.span lo hi (t.seqOf h)]
           else [])))

/-- The phase timer's value for an order's phase and cancel (06 R113). LINE RESUME: refused outside HALT and while a
HALT cause remains; taken, the line becomes HOLD, RESUME is queued to each hoist whose queue has room, each hoist's
timers are set afresh and run again, and the reply lists the causes left (09 R164, 06 R127, 07 R143, 11 R192; the
order of the notices of the bound causes it adds is log 38). -/
def Obligations.LineResumeRestarts : Prop :=
  (∀ (x : HoistRec) (o : Order) (p : Int),
     (let travel := fun (a b : Int) => x.timing.fixed + x.timing.perStation * (a - b).natAbs
      (o.cancelOut = true → x.phaseTime o = some x.timing.acceptTime) ∧
      (o.cancelOut = false →
        (o.phase = .sent → x.phaseTime o = some x.timing.acceptTime) ∧
        (o.phase = .accepted → x.position = some p →
          x.phaseTime o = some (travel p o.source + x.timing.approach)) ∧
        (o.phase = .poised → x.phaseTime o = none) ∧
        (o.phase = .released → x.phaseTime o = some x.timing.lift) ∧
        (o.phase = .lifted →
          x.phaseTime o = some (o.drain + travel o.source o.dest + x.timing.place + x.timing.approach))))) ∧
  (∀ (s : State), s.TakesRequests →
     (let e := s.evaluateBound
      let halts := e.line.causes.filter Cause.isHalt
      (e.line.st ≠ .halt → exec .lineResume s = .next (e.reply 0x5C .wrongState []).driveOutputs) ∧
      (e.line.st = .halt → halts ≠ [] → exec .lineResume s = .next
        (e.reply 0x5C .stillPresent
          [BitVec.ofNat 8 (Cause.code halts), BitVec.ofNat 8 (Cause.code halts / 256)]).driveOutputs) ∧
      (e.line.st = .halt → halts = [] → ∃ t, exec .lineResume s = .next t ∧
        (t.line = { st := .hold, causes := e.line.causes } ∧
         t.Answered 0x5C .ok
           [BitVec.ofNat 8 (Cause.code e.line.causes), BitVec.ofNat 8 (Cause.code e.line.causes / 256)] ∧
         t.hoistA = { e.hoistA with timer := e.hoistA.order.bind e.hoistA.phaseTime, suspended := false } ∧
         t.hoistB = { e.hoistB with timer := e.hoistB.order.bind e.hoistB.phaseTime, suspended := false } ∧
         (∀ h ∈ [Hoist.a, Hoist.b],
           (t.link.channels.get h.channel).queue.map (·.msg) = (e.link.channels.get h.channel).queue.map (·.msg) ++
             (if e.link.held h.channel < 4 then [OutMsg.resume] else [])) ∧
         t.span.handover.suspended = false ∧
         (∀ w ∈ e.span.handover.awaited, e.span.handover.timer ≠ none →
           t.span.handover.timer = some (e.hoist w.1).timing.spanAck) ∧
         t.span.spanA = e.span.spanA ∧ t.span.spanB = e.span.spanB ∧ t.tick = s.tick ∧
         s.dispatcher.passesOwed < t.dispatcher.passesOwed))))

/-- LINE CLEAR refused in RUN and HOLD; taken in STANDBY and HALT, it frees every rack and entry, empties spans, orders
and causes, with a REMOVED notice of reason CLEARED for each record, queued or dropped as any notice, lowers each
recipe's reference count by the records and entries that named it, queues CANCEL for each open order and after it
RESUME where the line was HALT, and applies each block's clear rule (09 R171, 01 R8, R20, 02 R27, R34, 04 R67, 06 R128,
07 R145, 08 R147; that every field of the handover record is blank after it is log 15, the notices' station character
is left open, log 16). -/
def Obligations.LineClearEmptiesTheLine : Prop :=
  ∀ (s : State), s.TakesRequests → s.OrdersFit →
    (s.line.st = .run ∨ s.line.st = .hold →
      exec .lineClear s = .next (s.reply 0x5D .wrongState []).driveOutputs) ∧
    (s.line.st = .standby ∨ s.line.st = .halt → ∃ t, exec .lineClear s = .next t ∧
      (t.line = { st := .standby, causes := [] } ∧
       t.Answered 0x5D .ok [] ∧
       (∀ k < 24, t.racks.get k = none ∧ t.requests.get k = none) ∧ t.queue = [] ∧
       (∀ k < 24, ∀ r ∈ s.racks.get k, t.Told (.removed .cleared) k r) ∧
       (∀ n < 32, t.stations.get n = { s.stations.get n with
         occ := if (s.stations.get n).sensing = true ∧ s.level n = true then .foreign else .empty }) ∧
       (∀ n < 32, t.marks.get n = .out ∧ t.windows.get n = none) ∧
       (∀ b < 8, t.baths.get b = { s.baths.get b with areaInFlight := 0 }) ∧
       (∀ h ∈ [Hoist.a, Hoist.b], t.hoist h =
         { s.hoist h with
           st := if (s.hoist h).st = .busy then .idle else if (s.hoist h).st = .fault then .offline else (s.hoist h).st
           released := if (s.hoist h).st = .fault then false else (s.hoist h).released
           order := none
           timer := none
           suspended := false }) ∧
       t.span = { s.span with spanA := .empty, spanB := .empty, handover := Handover.blank } ∧
       t.dispatcher = { s.dispatcher with
         notice := .clear, side := .above, passesOwed := t.dispatcher.passesOwed } ∧
       (∀ n < 16, t.recipes.get n = { s.recipes.get n with
         refs := (s.recipes.get n).refs -
           ((List.range 24).filter (fun k => decide ((s.racks.get k).map (·.recipe) = some n))).length -
           (s.queue.filter (fun e => decide (e.recipe = n))).length }) ∧
       (∀ h ∈ [Hoist.a, Hoist.b], s.link.held h.channel + 2 ≤ 4 →
         (t.link.channels.get h.channel).queue.map (·.msg) = (s.link.channels.get h.channel).queue.map (·.msg) ++
           (match (s.hoist h).order with | some o => [OutMsg.cancel o.number] | none => []) ++
           (if s.line.st = .halt then [OutMsg.resume] else [])) ∧
       t.tick = s.tick ∧ t.seqCounter = s.seqCounter ∧ t.gens = s.gens ∧ t.io.inputs = s.io.inputs ∧
       t.link.engine = s.link.engine))

/-- CAUSE CLEAR: a code that is none of the eleven refuses it whole; otherwise each named cause leaves the set unless
it is bound and its condition holds, and the reply lists the causes kept (09 R165). The conditions the causes are bound
to, by the last column of the table of R159: PAUSE active, GAS-OK inactive, a rack IMMERSED or DUE in a compensated
step in a station of a LAPSED bath, hoist A or hoist B in FAULT, E-STOP active, and none for the other five causes. -/
def Obligations.CauseClearKeepsWhatHolds : Prop :=
  (∀ (s : State) (codes : List Nat), s.TakesRequests →
    exec (.causeClear codes) s = .next (State.driveOutputs
      (let kept := Cause.all.filter (fun c =>
         decide (c.place ∈ codes ∧ c ∈ s.line.causes ∧ s.boundCondition c = some true))
       if ∃ n ∈ codes, 10 < n then s.reply 0x5E .badValue []
       else State.reply
         { s with
           line := { s.line with
             causes := s.line.causes.filter (fun c => decide (c.place ∉ codes ∨ s.boundCondition c = some true)) } }
         0x5E (if kept = [] then .ok else .stillPresent)
         [BitVec.ofNat 8 (Cause.code kept), BitVec.ofNat 8 (Cause.code kept / 256)]))) ∧
  (∀ (s : State) (c : Cause),
     (let inLapsed := ∃ k : Nat, k < 24 ∧ ∃ r ∈ s.racks.get k, (r.st = .immersed ∨ r.st = .due) ∧
        (let b := (s.stations.get (r.station.getD 0)).bath
         b < 8 ∧ (s.baths.get b).status = .lapsed) ∧
        r.stepIdx ≠ 0 ∧ ∃ st ∈ (s.recipes.get r.recipe).steps[r.stepIdx - 1]?, st.comp ≠ .none
      (s.boundCondition c = some true ↔
        (match c with
         | .pauseInput => (s.io.inputs.get 34).level = true
         | .gasLow => (s.io.inputs.get 33).level = false
         | .tempStale => inLapsed
         | .hoistAFault => s.hoistA.st = .fault
         | .hoistBFault => s.hoistB.st = .fault
         | .estop => (s.io.inputs.get 32).level = true
         | .operatorHold | .handoverTimeout | .outputFault | .operatorHalt | .spanViolation => False)) ∧
      (s.boundCondition c = none ↔
        c = .operatorHold ∨ c = .handoverTimeout ∨ c = .outputFault ∨ c = .operatorHalt ∨ c = .spanViolation)))

/-! ### Inputs and outputs -/

/-- INPUT SET: the three fields written, the run count 0, the level re-seeded where the polarity changed or the input
is enabled again; E-STOP cannot be disabled (10 R174; before the first sample levels stay, log 23). -/
def Obligations.InputSetSettlesLevel : Prop :=
  ∀ (s : State) (n d : Nat) (p : Polarity) (e : Bool) (po : Option Polarity) (en : Option Bool), s.TakesRequests →
    exec (.inputSet n d (some p) (some e)) s = .next (State.driveOutputs
      (let x := s.io.inputs.get n
       if ¬(n ≤ 34 ∧ 1 ≤ d ∧ d ≤ 15) ∨ (n = 32 ∧ e = false) then s.reply 0x60 .badValue []
       else State.reply
         (s.setInput n { x with
           debounce := d, polarity := p, enabled := e, run := 0
           level := if s.io.seeded = true ∧ e = true ∧ (p ≠ x.polarity ∨ x.enabled = false) then
             (if p = .activeHigh then x.raw else !x.raw) else x.level }) 0x60 .ok [])) ∧
    (po = none ∨ en = none → exec (.inputSet n d po en) s = .next (s.reply 0x60 .badValue []).driveOutputs)

/-- OUTPUT MODE: permit lines, a mode that is neither of the two and other values refused; a pair with an agitated
rack is refused MANUAL outside HALT; a mode in force again changes nothing (10 R180). -/
def Obligations.OutputModeSwitches : Prop :=
  ∀ (s : State) (p : Nat) (h : Hoist) (m : OutputMode), s.TakesRequests →
    (let agitated := fun n => ∃ k : Nat, k < 24 ∧ (s.stations.get n).occ = .occupied k ∧ (∃ r ∈ s.racks.get k,
       (r.st = .immersed ∨ r.st = .due) ∧ ∃ st ∈ s.currentStep r, st.agitate = true)
     let inForce := (s.io.outputs.get (2 * p)).mode = m ∧ (s.io.outputs.get (2 * p + 1)).mode = m
     let put := fun (o : Table Output 35) (n : Nat) => o.set n { o.get n with mode := m }
     exec (.outputMode (.permit h) (some m)) s = .next (s.reply 0x61 .badValue []).driveOutputs ∧
     exec (.outputMode (.pair p) none) s = .next (s.reply 0x61 .badValue []).driveOutputs ∧
     exec (.outputMode .sounder none) s = .next (s.reply 0x61 .badValue []).driveOutputs ∧
     exec (.outputMode (.permit h) none) s = .next (s.reply 0x61 .badValue []).driveOutputs ∧
     exec (.outputMode .sounder (some m)) s = .next (State.driveOutputs (State.reply
       { s with io := { s.io with outputs := put s.io.outputs 34 } } 0x61 .ok [])) ∧
     (15 < p → exec (.outputMode (.pair p) (some m)) s = .next (s.reply 0x61 .badValue []).driveOutputs) ∧
     (p ≤ 15 → inForce → exec (.outputMode (.pair p) (some m)) s = .next (s.reply 0x61 .ok []).driveOutputs) ∧
     (p ≤ 15 → ¬inForce → m = .manual → s.line.st ≠ .halt → agitated (2 * p) ∨ agitated (2 * p + 1) →
       exec (.outputMode (.pair p) (some m)) s = .next (s.reply 0x61 .busy []).driveOutputs) ∧
     (p ≤ 15 → m = .function ∨ s.line.st = .halt ∨ (¬agitated (2 * p) ∧ ¬agitated (2 * p + 1)) →
       exec (.outputMode (.pair p) (some m)) s = .next (State.driveOutputs (State.reply
         { s with io := { s.io with outputs := put (put s.io.outputs (2 * p)) (2 * p + 1) } } 0x61 .ok []))))

/-- OUTPUT LATCH: the latch written, and the commanded level with it where the line is in MANUAL; refused for a permit
line and outside 0..34 (10 R181). -/
def Obligations.OutputLatchWrites : Prop :=
  ∀ (s : State) (n : Nat) (l : Bool), s.TakesRequests →
    (n = 32 ∨ n = 33 ∨ 34 < n → exec (.outputLatch n (some l)) s = .next (s.reply 0x62 .badValue []).driveOutputs) ∧
    exec (.outputLatch n none) s = .next (s.reply 0x62 .badValue []).driveOutputs ∧
    (n ≤ 34 → n ≠ 32 → n ≠ 33 → ∃ t, exec (.outputLatch n (some l)) s = .next t ∧
      (t = (State.reply (s.setOutput n { s.io.outputs.get n with latch := l }) 0x62 .ok []).driveOutputs ∧
       (t.io.outputs.get n).latch = l ∧
       ((s.io.outputs.get n).mode = .manual → (t.io.outputs.get n).commanded = l) ∧
       ((s.io.outputs.get n).mode = .function → (t.io.outputs.get n).commanded = s.outputFunction n)))

/-- Driving the outputs: every commanded level becomes its source, a changed one with its run count 0, and nothing
else changes (10 R179, R182). -/
def Obligations.OutputsDriven : Prop :=
  ∀ (s : State) (n : Nat), n < 35 →
    (let o := s.io.outputs.get n
     let source := if o.mode = .manual then o.latch else s.outputFunction n
     s.driveOutputs.io.outputs.get n =
       (if source = o.commanded then o else { o with commanded := source, run := 0 }) ∧
     s.driveOutputs = { s with io := { s.io with outputs := s.driveOutputs.io.outputs } } ∧
     (s.outputFunction 32 = decide ((s.line.st = .run ∨ s.line.st = .hold) ∧
       (s.hoistA.st = .idle ∨ s.hoistA.st = .busy))) ∧
     (s.outputFunction 33 = decide ((s.line.st = .run ∨ s.line.st = .hold) ∧
       (s.hoistB.st = .idle ∨ s.hoistB.st = .busy))) ∧
     (s.outputFunction 34 = decide (s.line.st = .halt ∨
       ∃ k : Nat, k < 24 ∧ ∃ r ∈ s.racks.get k, StepFlag.overtime ∈ r.flags)) ∧
     (n < 32 → s.outputFunction n = decide ((s.stations.get n).kind = .bath ∧ s.marks.get n = .joined ∧
       (s.gens.get (s.stations.get n).bath).running = true ∧ (s.gens.get (s.stations.get n).bath).burst = true ∧
       s.level 33 = true)))

/-! ### Racks: admission, withdrawal, removal, placement by hand -/

/-- The admission test: a free slot, RUN or HOLD, the line margin, every named bath's limit, and the load station's
seat (02 R30). The line margin: the least, over the racks IMMERSED or DUE in a CRITICAL step whose tolerance is not
unlimited, of the latest lift tick less the present tick, with the rack that gives it, the lower slot of two alike;
unbounded where there is no such rack (05 R103, R90). ADMIT refused: the first failing check of R29 gives the reply,
and nothing else changes; where no check fails there is no refusal (02 R29). ADMIT that passes the checks: it is QUEUED
behind a queue that is not empty or after a failing test, with its station RESERVED and its recipe counted, and refused
FULL where the queue holds 8 entries (02 R29, R32). -/
def Obligations.AdmissionTestAndRefusals : Prop :=
  (∀ (s : State) (e : QueueEntry),
     (s.admissionTest e = true ↔
       (∃ k : Nat, k < 24 ∧ s.racks.get k = none) ∧ (s.line.st = .run ∨ s.line.st = .hold) ∧
       (∀ m ∈ s.lineMargin, (s.dispatcher.admitMargin : Int) ≤ m.1) ∧
       (∀ b < 8, (∃ st ∈ (s.recipes.get e.recipe).steps, st.bath = b) →
         (s.baths.get b).areaInFlight + e.area ≤
           (if (s.baths.get b).threshold = 0 then 65535 else (s.baths.get b).threshold)) ∧
       ((s.stations.get e.load).sensing = true → s.level e.load = true))) ∧
  (∀ (s : State) (m : Int) (k : Nat), k < 24 →
     (let margin := fun (r : Rack) =>
        (s.currentStep r).bind (fun st =>
          if (r.st = .immersed ∨ r.st = .due) ∧ st.cls = .critical ∧ st.tolerance ≠ 65535 then
            some ((if r.st = .immersed then s.tick + BitVec.ofNat 32 (s.remainingTicks r) else r.dueTick.getD s.tick) +
              BitVec.ofNat 32 st.tolerance - s.tick).toInt
          else none)
      (s.lineMargin = none ↔ ∀ j < 24, ∀ u ∈ s.racks.get j, margin u = none) ∧
      (s.lineMargin = some (m, k) ↔ (s.racks.get k).bind margin = some m ∧
        ∀ j < 24, ∀ u ∈ s.racks.get j, ∀ v ∈ margin u, m < v ∨ (m = v ∧ k ≤ j)))) ∧
  (∀ (s : State) (id recipe load area : Nat) (adjust : Int) (code : ReplyCode), s.TakesRequests →
     (let x := s.stations.get load
      let first : Option ReplyCode := if s.line.st = .standby then some .wrongState
       else if ¬(1 ≤ id ∧ id ≤ 65534 ∧ recipe ≤ 15 ∧ load ≤ 31 ∧ 1 ≤ area ∧ area ≤ 4095 ∧ -30 ≤ adjust ∧ adjust ≤ 100) then
         some .badValue
       else if (∃ k : Nat, k < 24 ∧ ∃ r ∈ s.racks.get k, r.id = id) ∨ (∃ e ∈ s.queue, e.id = id) then some .duplicate
       else if (s.recipes.get recipe).st ≠ .ready then some .noRecipe
       else if ¬(x.kind = .load ∧ x.inService = true ∧ (x.occ = .empty ∨ x.occ = .foreign)) then some .busy
       else if x.sensing = true ∧ s.level load = false then some .notLoaded
       else none
      s.admitRefusal { id := id, recipe := recipe, load := load, area := area, adjust := adjust } = first ∧
      (first = some code →
        exec (.admitRack id recipe load area adjust) s = .next (s.reply 0x40 code []).driveOutputs))) ∧
  (∀ (s : State) (e : QueueEntry), s.TakesRequests → s.admitRefusal e = none →
     (s.queue ≠ [] ∨ s.admissionTest e = false) →
     exec (.admitRack e.id e.recipe e.load e.area e.adjust) s = .next (State.driveOutputs
       (if 8 ≤ s.queue.length then s.reply 0x40 .full []
       else State.reply
         { s with
           queue := s.queue ++ [e]
           stations := s.stations.set e.load { s.stations.get e.load with occ := .reservedEntry e.id }
           recipes := s.recipes.set e.recipe
             { s.recipes.get e.recipe with refs := (s.recipes.get e.recipe).refs + 1 } } 0x40 .queued [])))

/-- ADMIT admitted at once: the lowest free slot takes the record of R31, its station is OCCUPIED, the areas and the
count rise, its move request exists, a pass is triggered, and the reply OK and then the ADMITTED notice are queued (02
R27, R31, R39, 05 R86). A retest of the admission queue: entries are admitted from the head until the test fails or
the queue is empty; an admitted entry leaves the queue, its record takes the lowest free slot as R31 fills it, with
its request, its station OCCUPIED and its ADMITTED notice; the areas rise, a pass is triggered, and no recipe count
changes (02 R31, R39, R40). -/
def Obligations.AdmitAdmitted : Prop :=
  (∀ (s : State) (e : QueueEntry) (k : Nat), s.TakesRequests → s.admitRefusal e = none → s.queue = [] →
     s.admissionTest e = true → s.racks.get k = none → (∀ j < k, s.racks.get j ≠ none) → k < 24 →
     ∃ t, exec (.admitRack e.id e.recipe e.load e.area e.adjust) s = .next t ∧
       ((∃ r ∈ t.racks.get k, { r with dest := none } =
          { id := e.id, recipe := e.recipe, load := e.load, area := e.area, adjust := e.adjust,
            seq := if s.seqCounter + 1 = 0 then 1 else s.seqCounter + 1, st := .atLoad, stepIdx := 0,
            station := some e.load, dest := none, acc := 0, target := 0, dueTick := none, overrun := 0, flags := [],
            history := [], lifted := false }) ∧
        t.seqCounter = (if s.seqCounter + 1 = 0 then 1 else s.seqCounter + 1) ∧
        (∃ q ∈ t.requests.get k, q.source = e.load ∧ q.cls = .openEnded ∧ q.markA = none ∧ q.markB = none ∧
          (q.st = .blocked ∧ q.dest = none ∨
            q.st = .ready ∧ ∃ d ∈ q.dest, (t.stations.get d).occ = .reservedRack k)) ∧
        (t.stations.get e.load).occ = .occupied k ∧
        (∀ b < 8, (t.baths.get b).areaInFlight = (s.baths.get b).areaInFlight +
          (if ∃ st ∈ (s.recipes.get e.recipe).steps, st.bath = b then e.area else 0)) ∧
        (t.recipes.get e.recipe).refs = (s.recipes.get e.recipe).refs + 1 ∧
        t.dispatcher.passesOwed = s.dispatcher.passesOwed + 1 ∧
        (∀ j < 24, j ≠ k → t.racks.get j = s.racks.get j ∧ t.requests.get j = s.requests.get j) ∧
        t.link = (s.reply 0x40 .ok []).link.notify
          (.rack (.admitted (if s.seqCounter + 1 = 0 then 1 else s.seqCounter + 1) e.load) e.id k .atLoad 0 (some e.load)) ∧
        t.queue = [] ∧ t.line = s.line ∧ t.hoistA = s.hoistA ∧ t.hoistB = s.hoistB ∧ t.span = s.span ∧
        t.gens = s.gens ∧ t.io.inputs = s.io.inputs ∧ t.tick = s.tick)) ∧
  (∀ (s : State) (e : QueueEntry) (k : Nat), k < 24 →
     (let t := s.retestHead
      let seq := if s.seqCounter + 1 = 0 then 1 else s.seqCounter + 1
      t = { s with
        queue := t.queue, racks := t.racks, requests := t.requests, stations := t.stations, baths := t.baths
        seqCounter := t.seqCounter, dispatcher := { s.dispatcher with passesOwed := t.dispatcher.passesOwed }
        link := t.link } ∧
      (∃ n : Nat, n ≤ s.queue.length ∧ t.queue = s.queue.drop n ∧
        t.dispatcher.passesOwed = s.dispatcher.passesOwed + n) ∧
      (∀ x ∈ t.queue.head?, t.admissionTest x = false) ∧
      (s.queue.head?.map s.admissionTest ≠ some true → t = s) ∧
      (s.queue.head? = some e → s.admissionTest e = true → s.racks.get k = none → (∀ j < k, s.racks.get j ≠ none) →
        t.queue.length < s.queue.length ∧
        (∃ r ∈ t.racks.get k, { r with dest := none } =
          { id := e.id, recipe := e.recipe, load := e.load, area := e.area, adjust := e.adjust, seq := seq,
            st := .atLoad, stepIdx := 0, station := some e.load, dest := none, acc := 0, target := 0, dueTick := none,
            overrun := 0, flags := [], history := [], lifted := false }) ∧
        (∃ q ∈ t.requests.get k, q.source = e.load ∧ q.cls = .openEnded ∧ q.markA = none ∧ q.markB = none ∧
          (q.st = .blocked ∧ q.dest = none ∨ q.st = .ready ∧ q.dest ≠ none)) ∧
        (t.queue.length + 1 = s.queue.length →
          t.seqCounter = seq ∧ t.link = s.link.notify (.rack (.admitted seq e.load) e.id k .atLoad 0 (some e.load)) ∧
          (e.load < 32 → (t.stations.get e.load).occ = .occupied k) ∧
          (∀ b < 8, (t.baths.get b).areaInFlight = (s.baths.get b).areaInFlight +
            (if ∃ st ∈ (s.recipes.get e.recipe).steps, st.bath = b then e.area else 0)) ∧
          (∀ j < 24, j ≠ k → t.racks.get j = s.racks.get j ∧ t.requests.get j = s.requests.get j)))))

/-- The choice of a destination: the free in-service station of the kind the rack needs next that is nearest the
source, the lower-numbered of two equally near, is RESERVED and the request READY; without one the request is BLOCKED
(05 R88). A station that becomes free is offered to the BLOCKED requests that want its kind and bath: the first of
them in the urgency order takes the nearest free station, becomes READY and triggers a pass; those still BLOCKED after
it find no such station free; other requests, and a station that is not EMPTY and in service, change nothing (05 R88,
R89). -/
def Obligations.DestinationChoice : Prop :=
  (∀ (s : State) (k d : Nat) (q : Request) (r : Rack), s.requests.get k = some q → s.racks.get k = some r →
     (let fits := fun n => (s.stations.get n).occ = .empty ∧ (s.stations.get n).inService = true ∧
        (if r.stepIdx = (s.recipes.get r.recipe).steps.length then (s.stations.get n).kind = .unload
         else (s.stations.get n).kind = .bath ∧
           some (s.stations.get n).bath = (s.recipes.get r.recipe).steps[r.stepIdx]?.map (·.bath))
      let dist := fun (n : Nat) => ((q.source : Int) - n).natAbs
      (d < 32 → fits d → (∀ n < 32, fits n → dist d < dist n ∨ (dist d = dist n ∧ d ≤ n)) →
        s.chooseDestination k =
          { s with
            stations := s.stations.set d { s.stations.get d with occ := .reservedRack k }
            racks := s.racks.set k (some { r with dest := some d })
            requests := s.requests.set k (some { q with dest := some d, st := .ready }) }) ∧
      ((∀ n < 32, ¬fits n) → s.chooseDestination k =
        { s with requests := s.requests.set k (some { q with dest := none, st := .blocked }) }))) ∧
  (∀ (s : State) (n j k : Nat) (q : Request) (r : Rack), n < 32 → j < 24 → k < 24 →
     (let t := s.retryBlocked n
      let free := fun (u : State) (m : Nat) => decide ((u.stations.get m).occ = .empty ∧ (u.stations.get m).inService = true)
      let fits := fun (u : Rack) (m : Nat) =>
        if u.stepIdx = (s.recipes.get u.recipe).steps.length then decide ((s.stations.get m).kind = .unload)
        else decide ((s.stations.get m).kind = .bath ∧
          some (s.stations.get m).bath = (s.recipes.get u.recipe).steps[u.stepIdx]?.map (·.bath))
      let waits := fun (i : Nat) => (s.requests.get i).any (fun w => decide (w.st = .blocked)) &&
        (s.racks.get i).any (fun u => fits u n)
      (free s n = false ∨ (∀ i < 24, waits i = false) → t = s) ∧
      (waits j = false → t.requests.get j = s.requests.get j ∧ t.racks.get j = s.racks.get j) ∧
      (free s n = true → waits j = true → (t.requests.get j).map (·.st) ≠ some .ready →
        ∀ m < 32, free t m = false ∨ ¬∃ u ∈ s.racks.get j, fits u m = true) ∧
      (free s n = true → waits k = true → s.requests.get k = some q → s.racks.get k = some r →
        (∀ i < 24, waits i = true → i ≠ k → s.urgencyOrder.idxOf k < s.urgencyOrder.idxOf i) →
        s.dispatcher.passesOwed < t.dispatcher.passesOwed ∧
        ∃ d : Nat, d < 32 ∧ free s d = true ∧ fits r d = true ∧
          (let dist := fun (m : Nat) => ((q.source : Int) - m).natAbs
           (∀ m < 32, free s m = true → fits r m = true → dist d < dist m ∨ (dist d = dist m ∧ d ≤ m)) ∧
           t.requests.get k = some { q with dest := some d, st := .ready } ∧
           t.racks.get k = some { r with dest := some d } ∧
           t.stations.get d = { s.stations.get d with occ := .reservedRack k }))))

/-- WITHDRAW: BAD_VALUE out of range; a queue entry leaves the queue with its station EMPTY, or FOREIGN with a notice
where its seat is seated; a rack AT_LOAD short of ACCEPTED is freed with its notice, its open order closed with CANCEL
queued and the hoist IDLE, which begins the SHRINKING of a handover that was WAITING for it, and its slot is free or
holds an entry the retest admits; any other rack is IN_FLIGHT, and anything else UNKNOWN (02 R35, R37, R40, 06 R108,
R121, 07 R138, R139). The slot of a rack id is the slot whose record has it, and the order for a slot is the open order
that names it (02 R21, 06 R107). -/
def Obligations.WithdrawResults : Prop :=
  (∀ (s : State) (id k : Nat) (h : Hoist) (o : Order),
     (s.slotOf id = none ↔ ∀ j < 24, ∀ x ∈ s.racks.get j, x.id ≠ id) ∧
     (s.slotOf id = some k ↔
       k < 24 ∧ (∃ x ∈ s.racks.get k, x.id = id) ∧ ∀ j < k, ∀ x ∈ s.racks.get j, x.id ≠ id) ∧
     (s.orderFor k = none ↔ ∀ g, ∀ y ∈ (s.hoist g).order, y.slot ≠ k) ∧
     (s.orderFor k = some (h, o) ↔
       (s.hoist h).order = some o ∧ o.slot = k ∧ (h = .b → ∀ y ∈ s.hoistA.order, y.slot ≠ k))) ∧
  ∀ (s : State) (id k j : Nat) (e : QueueEntry) (r : Rack), s.TakesRequests →
    (id = 0 ∨ 65534 < id → exec (.withdraw id) s = .next (s.reply 0x41 .badValue []).driveOutputs) ∧
    (1 ≤ id → id ≤ 65534 →
      (s.queue[j]? = some e → e.id = id → (∀ i < j, s.queue[i]?.map (·.id) ≠ some id) →
        (s.stations.get e.load).kind = .load → e.load < 32 →
        exec (.withdraw id) s = .next (State.driveOutputs
          (let foreign := (s.stations.get e.load).sensing = true ∧ s.level e.load = true
           State.reply
             { s with
               queue := s.queue.filter (fun x => decide (x.id ≠ id))
               stations := s.stations.set e.load
                 { s.stations.get e.load with occ := if foreign then .foreign else .empty }
               recipes := s.recipes.set e.recipe
                 { s.recipes.get e.recipe with refs := (s.recipes.get e.recipe).refs - 1 }
               link := if foreign then s.link.notify (.station e.load .foreign .foreign) else s.link }
             0x41 .ok []))) ∧
      ((∀ x ∈ s.queue, x.id ≠ id) →
        (s.slotOf id = none → exec (.withdraw id) s = .next (s.reply 0x41 .unknown []).driveOutputs) ∧
        (s.slotOf id = some k → s.racks.get k = some r →
          (let phase := (s.orderFor k).map (fun p => p.2.phase)
           (r.st ≠ .atLoad ∨ (phase ≠ none ∧ phase ≠ some .sent) →
             exec (.withdraw id) s = .next (s.reply 0x41 .inFlight []).driveOutputs) ∧
           (r.st = .atLoad → phase = none ∨ phase = some .sent → k < 24 →
             ∃ t, exec (.withdraw id) s = .next t ∧
               (t.Answered 0x41 .ok [] ∧ t.Told (.removed .withdraw) k r ∧ s.OrderFreed t k ∧
                (∀ x ∈ t.racks.get k, x.st = .atLoad ∧ x.stepIdx = 0 ∧ ∃ e ∈ s.queue, e.id = x.id ∧ e.load = x.load) ∧
                (s.queue = [] → s.Freed t k r (.removed .withdraw))))))))

/-- RACK REMOVE: BAD_VALUE and UNKNOWN; IN_FLIGHT for a rack that is CARRIED or whose order is RELEASED; any other rack
is freed with its notice, its open order closed with CANCEL queued and the hoist IDLE, which begins the SHRINKING of a
handover that was WAITING for it, and its slot is free or holds an entry the retest admits (02 R38, R35, R40, 06 R108,
R121, 07 R138, R139). -/
def Obligations.RackRemoveResults : Prop :=
  ∀ (s : State) (id k : Nat) (r : Rack), s.TakesRequests →
    (id = 0 ∨ 65534 < id → exec (.rackRemove id) s = .next (s.reply 0x42 .badValue []).driveOutputs) ∧
    (1 ≤ id → id ≤ 65534 →
      (s.slotOf id = none → exec (.rackRemove id) s = .next (s.reply 0x42 .unknown []).driveOutputs) ∧
      (s.slotOf id = some k → s.racks.get k = some r → k < 24 →
        (let phase := (s.orderFor k).map (fun p => p.2.phase)
         (r.st = .carried ∨ phase = some .released →
           exec (.rackRemove id) s = .next (s.reply 0x42 .inFlight []).driveOutputs) ∧
         (r.st ≠ .carried → phase ≠ some .released →
           ∃ t, exec (.rackRemove id) s = .next t ∧
             (t.Answered 0x42 .ok [] ∧ t.Told (.removed .remove) k r ∧
              (∀ x ∈ t.racks.get k, x.st = .atLoad ∧ x.stepIdx = 0 ∧ ∃ e ∈ s.queue, e.id = x.id ∧ e.load = x.load) ∧
              (s.queue = [] → s.Freed t k r (.removed .remove)) ∧ s.OrderFreed t k)))))

/-- RACK PLACE refused: the first failing check of R41 gives the reply, and nothing else changes; where no check fails
there is no refusal (02 R41). The baths of a rack's unfinished steps, by the table of R39 (02 R39). RACK PLACE taken
for step index j up to the last bath step: the record of R42, the station OCCUPIED, the areas in line with R39, a move
request from the station, and a pass triggered; an agitated step makes the station WAITING, and a compensated step in a
LAPSED bath adds TEMP_STALE (02 R42, R39, 04 R73, 05 R86, 08 R152). RACK PLACE at an UNLOAD station: the rack is
AT_UNLOAD with the station OCCUPIED and no request, and DONE tells of it with record freed no; with seat sensing off
DONE tells record freed yes and, while no ADMIT waits, its record is freed at once; DONE stands before the reply, or
was dropped as any notice; every bath of its unfinished steps has the rack's area taken off (02 R27, R34, R39, R42; the
notice's station character is left open, log 16). -/
def Obligations.RackPlaceResults : Prop :=
  (∀ (s : State) (id j n k : Nat) (r : Rack) (code : ReplyCode), s.TakesRequests →
     (¬(1 ≤ id ∧ id ≤ 65534 ∧ j ≤ 13 ∧ n ≤ 31) →
       exec (.rackPlace id j n) s = .next (s.reply 0x43 .badValue []).driveOutputs) ∧
     (1 ≤ id → id ≤ 65534 → j ≤ 13 → n ≤ 31 →
       (s.slotOf id = none → exec (.rackPlace id j n) s = .next (s.reply 0x43 .unknown []).driveOutputs) ∧
       (s.slotOf id = some k → s.racks.get k = some r →
         (let x := s.stations.get n
          let steps := (s.recipes.get r.recipe).steps
          let first : Option ReplyCode := if r.st ≠ .stranded then some .wrongState
           else if steps.length + 1 < j then some .badValue
           else if ¬(if j = 0 then x.kind = .load else if j = steps.length + 1 then x.kind = .unload
             else x.kind = .bath ∧ some x.bath = steps[j - 1]?.map (·.bath)) then some .badValue
           else if ¬(x.inService = true ∧ (x.occ = .empty ∨ x.occ = .foreign)) then some .wrongState
           else if ∃ b : Nat, b < 8 ∧ s.usedFrom r.recipe (if j = 0 then 1 else j) b = true ∧ s.unfinishedIn r b = false ∧
               65535 < (s.baths.get b).areaInFlight + r.area then some .full
           else none
          s.placeRefusal r j n = first ∧
          (first = some code → exec (.rackPlace id j n) s = .next (s.reply 0x43 code []).driveOutputs))))) ∧
  (∀ (s : State) (r : Rack) (k b : Nat),
     (let first := match r.st with
        | .atLoad => some 1
        | .immersed | .due => some r.stepIdx
        | .carried => some (r.stepIdx + 1)
        | .stranded => some (if r.lifted = true then r.stepIdx + 1 else max r.stepIdx 1)
        | .atUnload => none
      let uses := fun (n : Nat) => ∃ i : Nat, n ≤ i + 1 ∧ ∃ st ∈ (s.recipes.get r.recipe).steps[i]?, st.bath = b
      (s.usedFrom r.recipe k b = true ↔ uses k) ∧
      ((r.st = .atLoad → r.stepIdx = 0) → (r.st = .immersed ∨ r.st = .due → r.stepIdx ≠ 0) →
        (r.st ≠ .stranded → (r.lifted = true ↔ r.st = .carried)) →
        (s.unfinishedIn r b = true ↔ ∃ n ∈ first, uses n)))) ∧
  (∀ (s : State) (id j n k : Nat) (r : Rack), s.TakesRequests → 1 ≤ id → id ≤ 65534 → j ≤ 13 → n ≤ 31 → k < 24 →
     s.slotOf id = some k → s.racks.get k = some r → s.placeRefusal r j n = none →
     j ≤ (s.recipes.get r.recipe).steps.length →
     ∃ t, exec (.rackPlace id j n) s = .next t ∧
       (t.Answered 0x43 .ok [] ∧
        (∃ r' ∈ t.racks.get k,
          r'.stepIdx = j ∧ r'.station = some n ∧ r'.id = r.id ∧ r'.seq = r.seq ∧ r'.area = r.area ∧
          r'.history = r.history.filter (fun x => decide (x.step < j)) ∧
          r'.acc = (if j = r.stepIdx then r.acc else 0) ∧ r'.overrun = (if j = r.stepIdx then r.overrun else 0) ∧
          r'.target = (if j = 0 then 0 else
            (match (s.recipes.get r.recipe).steps[j - 1]? with | some st => st.target r.adjust | none => 0)) ∧
          r'.st = (if j = 0 then .atLoad else if r'.target ≤ r'.acc then .due else .immersed) ∧
          r'.dueTick = (if r'.st = .due then some s.tick else none) ∧
          (∀ f ∈ StepFlag.all, f ∈ r'.flags ↔ f = .manualPlaced ∨ (j = r.stepIdx ∧
            ((r.lifted = false ∧ f ∈ r.flags) ∨ (r.lifted = true ∧
              ∃ x ∈ r.history.find? (fun x => decide (x.step = j)), f ∈ x.flags))))) ∧
        (t.stations.get n).occ = .occupied k ∧
        (∃ q ∈ t.requests.get k, q.source = n ∧ (q.st = .ready ∨ q.st = .blocked)) ∧
        (∀ b < 8, (t.baths.get b).areaInFlight =
          (let now := s.usedFrom r.recipe (if j = 0 then 1 else j) b
           let was := s.unfinishedIn r b
           if now = true ∧ was = false then (s.baths.get b).areaInFlight + r.area
           else if now = false ∧ was = true then (s.baths.get b).areaInFlight - r.area
           else (s.baths.get b).areaInFlight)) ∧
        (let agitated := (s.recipes.get r.recipe).steps[j - 1]?.map (·.agitate) = some true
         let compensated := (s.recipes.get r.recipe).steps[j - 1]?.any (fun st => decide (st.comp ≠ .none)) = true
         let lapsed := (s.baths.get (s.stations.get n).bath).status = .lapsed
         t.marks = (if j ≠ 0 ∧ agitated then s.marks.set n .waiting else s.marks) ∧
         t.line = (if j ≠ 0 ∧ compensated ∧ lapsed then (s.addCause .tempStale).line else s.line)) ∧
        s.dispatcher.passesOwed < t.dispatcher.passesOwed ∧ t.windows = s.windows ∧
        (∀ i < 24, i ≠ k → t.racks.get i = s.racks.get i ∧ t.requests.get i = s.requests.get i) ∧
        t.tick = s.tick ∧ t.gens = s.gens ∧ t.recipes = s.recipes ∧ t.queue = s.queue)) ∧
  (∀ (s : State) (id j n k : Nat) (r : Rack), s.TakesRequests → 1 ≤ id → id ≤ 65534 → j ≤ 13 → n ≤ 31 → k < 24 →
     s.slotOf id = some k → s.racks.get k = some r → s.placeRefusal r j n = none →
     j = (s.recipes.get r.recipe).steps.length + 1 → s.requests.get k = none → s.orderFor k = none →
     ∃ t, exec (.rackPlace id j n) s = .next t ∧
       (t.Answered 0x43 .ok [] ∧ t.hoistA = s.hoistA ∧ t.hoistB = s.hoistB ∧
        t.tick = s.tick ∧ t.gens = s.gens ∧ t.line = s.line ∧
        t.Told (.done (!(s.stations.get n).sensing)) k { r with st := .atUnload, stepIdx := j } ∧
        ((s.stations.get n).sensing = true →
          t.requests = s.requests ∧ t.queue = s.queue ∧ (t.stations.get n).occ = .occupied k ∧ t.windows = s.windows ∧
          (∃ r' ∈ t.racks.get k,
            r'.st = .atUnload ∧ r'.stepIdx = j ∧ r'.station = some n ∧ r'.target = 0 ∧ r'.dueTick = none ∧
            r'.id = r.id ∧ r'.history = r.history.filter (fun x => decide (x.step < j)) ∧
            StepFlag.manualPlaced ∈ r'.flags) ∧
          ∀ b < 8, (t.baths.get b).areaInFlight =
            (s.baths.get b).areaInFlight - (if s.unfinishedIn r b = true then r.area else 0)) ∧
        ((s.stations.get n).sensing = false → s.queue = [] →
          t.racks.get k = none ∧ t.requests.get k = none ∧ t.queue = [] ∧ (t.stations.get n).occ ≠ .occupied k ∧
          (t.recipes.get r.recipe).refs = (s.recipes.get r.recipe).refs - 1 ∧
          (∀ b < 8, (t.baths.get b).areaInFlight =
            (s.baths.get b).areaInFlight - (if s.unfinishedIn r b = true then r.area else 0)) ∧
          ∀ i < 24, i ≠ k → (t.racks.get i).map (fun x => { x with dest := none }) =
            (s.racks.get i).map (fun x => { x with dest := none }))))

/-! ### Hoist reports -/

/-- Reports that name no open order of the hoist, or carry no position, are ignored whole and counted as stray; so are
the repeats of R119 and ACCEPT and POISED while a cancel is outstanding (06 R111, R119, R122; that a position given as
unknown is stray too is log 18). -/
def Obligations.StrayReportsOnlyCounted : Prop :=
  ∀ (s : State) (h : Hoist) (number reason sequence : Nat) (p : Option Int) (o : Order), s.resetHeld = false →
    (let x := s.hoist h
     let stray := (s.setHoist h { x with stray := if 65535 ≤ x.stray then 65535 else x.stray + 1 }).driveOutputs
     let bad := ∀ v ∈ p, v < -1 ∨ 32 < v
     ((∀ y ∈ x.order, y.number ≠ number) →
       exec (.accept h number p) s = .next stray ∧ exec (.refuse h number reason) s = .next stray ∧
       exec (.poised h number p) s = .next stray ∧ exec (.lifted h number p) s = .next stray ∧
       exec (.placed h number p) s = .next stray ∧ exec (.cancelled h number) s = .next stray) ∧
     (bad →
       exec (.accept h number p) s = .next stray ∧ exec (.poised h number p) s = .next stray ∧
       exec (.lifted h number p) s = .next stray ∧ exec (.placed h number p) s = .next stray ∧
       exec (.position h p) s = .next stray ∧ exec (.spanAck h sequence p) s = .next stray) ∧
     (sequence ≠ s.seqOf h → exec (.spanAck h sequence p) s = .next stray) ∧
     (x.order = some o → o.number = number →
       (o.phase ≠ .sent ∨ o.cancelOut = true → exec (.accept h number p) s = .next stray) ∧
       (o.phase = .poised ∨ o.phase = .released ∨ o.phase = .lifted ∨ o.cancelOut = true →
         exec (.poised h number p) s = .next stray) ∧
       (o.phase = .lifted → exec (.lifted h number p) s = .next stray)))

/-- A reported position is recorded and checked: outside the hoist's recorded span (the old span for the victim of a
SHRINKING handover) and off its park it adds SPAN_VIOLATION, but not in STANDBY nor for an OFFLINE hoist (06 R111, 07
R134). -/
def Obligations.PositionRecordedAndChecked : Prop :=
  ∀ (s : State) (h : Hoist) (p : Int), s.resetHeld = false → -1 ≤ p → p ≤ 32 →
    (let u := s.setHoist h { s.hoist h with position := some p }
     let hv := s.span.handover
     let sp := if hv.stage = .shrinking ∧ h ≠ hv.taker then hv.old else s.spanOf h
     let park : Int := match h with | .a => -1 | .b => 32
     let inside := match sp with | .empty => false | .range lo hi => decide ((lo : Int) ≤ p ∧ p ≤ (hi : Int))
     s.recordPosition h p =
       (if (s.hoist h).st = .offline ∨ s.line.st = .standby ∨ p = park ∨ inside = true then u
       else u.addCause .spanViolation) ∧
     exec (.position h (some p)) s = .next (s.recordPosition h p).driveOutputs)

/-- SPAN queued to a hoist: its next sequence, its recorded span (1 and 0 for an empty one), and a handover that awaits
this hoist awaits the new sequence (07 R132, R139, R140). SPAN ACK of the last sequence: without a handover awaiting it
only the position is recorded and checked; for SHRINKING within the narrowed span or at park it begins WIDENING, with
SPAN carrying the widened span queued to the taker where its queue has room; elsewhere it ends with SPAN_VIOLATION
added, unless the hoist is OFFLINE or the line in STANDBY, the spans as they stand and a pass triggered: the handover
is abandoned, which returns its BOUND request to READY with its destination and its marks kept, or, where the taker is
withdrawn, only ends; for WIDENING it ends the handover, and the BOUND request becomes ORDERED with MOVE queued where
the line then lets it go, and READY otherwise (05 R99, R101, 06 R112, 07 R132, R134, R139, R140, R142; that a violation
of the victim of a withdrawn taker triggers a pass too is the model's choice, log 45). -/
def Obligations.SpanMessages : Prop :=
  (∀ (s : State) (h : Hoist),
     (let q := if 255 ≤ s.seqOf h then 1 else s.seqOf h + 1
      let ends := match s.spanOf h with | .empty => (1, 0) | .range lo hi => (lo, hi)
      let hv := s.span.handover
      let u := { s.setSeq h q with link := s.link.send h.channel (.span ends.1 ends.2 q) }
      s.sendSpan h =
        (if hv.awaited.map (·.1) = some h then u.setHandover { hv with awaited := some (h, q) } else u))) ∧
  (∀ (s : State) (h : Hoist) (p : Int) (q k : Nat) (w : Request) (r : Rack), s.resetHeld = false → -1 ≤ p → p ≤ 32 →
     q = s.seqOf h → q ≠ 0 →
     (let hv := s.span.handover
      let number := if 255 ≤ (s.hoist h).lastOrder then 1 else (s.hoist h).lastOrder + 1
      let drain := match s.currentStep r with | some st => st.drain | none => 0
      let critical := decide (r.stepIdx ≠ (s.recipes.get r.recipe).steps.length ∧
        (s.recipes.get r.recipe).steps[r.stepIdx]?.map (·.cls) = some StepClass.critical)
      let line := (s.recordPosition h p).line.st
      let allowed := line = .run ∨ (line = .hold ∧ critical = false)
      let park : Int := match h with | .a => -1 | .b => 32
      let inside := match hv.narrowed with | .empty => false | .range lo hi => decide ((lo : Int) ≤ p ∧ p ≤ (hi : Int))
      let next := if 255 ≤ s.seqOf hv.taker then 1 else s.seqOf hv.taker + 1
      (hv.awaited ≠ some (h, q) → exec (.spanAck h q (some p)) s = .next (s.recordPosition h p).driveOutputs) ∧
      (hv.awaited = some (h, q) → hv.stage = .shrinking → h ≠ hv.taker → inside = true ∨ p = park →
        ∃ t, exec (.spanAck h q (some p)) s = .next t ∧
          ((t.hoist h).position = some p ∧ t.line = s.line ∧
           (hv.withdrawn = true → t.span.handover.stage = .none ∧ t.span.spanA = s.span.spanA ∧
             t.span.spanB = s.span.spanB ∧ s.dispatcher.passesOwed < t.dispatcher.passesOwed) ∧
           (hv.withdrawn = false → t.span.handover.stage = .widening ∧ t.spanOf hv.taker = hv.widened ∧
             t.spanOf h = s.spanOf h ∧ t.seqOf hv.taker = next ∧
             t.span.handover.awaited = some (hv.taker, next) ∧
             t.span.handover.timer = some (s.hoist hv.taker).timing.spanAck ∧
             t.span.handover.suspended = decide (s.line.st = .halt) ∧ t.span.handover.bound = hv.bound ∧
             (t.link.channels.get hv.taker.channel).queue.map (·.msg) =
               (s.link.channels.get hv.taker.channel).queue.map (·.msg) ++
                 (if s.link.held hv.taker.channel < 4 then
                   [match hv.widened with
                    | .empty => OutMsg.span 1 0 next
                    | .range lo hi => OutMsg.span lo hi next]
                 else [])))) ∧
      (hv.awaited = some (h, q) → hv.stage = .shrinking → h ≠ hv.taker → inside = false → p ≠ park →
        ∃ t, exec (.spanAck h q (some p)) s = .next t ∧
          ((t.hoist h).position = some p ∧ t.span.handover.stage = .none ∧ t.span.handover.timer = none ∧
           t.span.handover.withdrawn = false ∧
           ((s.hoist h).st ≠ .offline → s.line.st ≠ .standby → .spanViolation ∈ t.line.causes) ∧
           ((s.hoist h).st = .offline ∨ s.line.st = .standby → t.line = s.line) ∧
           (hv.withdrawn = true ∨ hv.bound = none → t.requests = s.requests) ∧
           (hv.withdrawn = false → hv.bound = some k → s.requests.get k = some w →
             t.requests = s.requests.set k (some { w with st := .ready })) ∧
           t.span.spanA = s.span.spanA ∧ t.span.spanB = s.span.spanB ∧ t.stations = s.stations ∧ t.racks = s.racks ∧
           s.dispatcher.passesOwed < t.dispatcher.passesOwed)) ∧
      (hv.awaited = some (h, q) → hv.stage = .widening → h = hv.taker →
        ∃ t, exec (.spanAck h q (some p)) s = .next t ∧
          ((t.hoist h).position = some p ∧ t.span.handover.stage = .none ∧ t.span.handover.timer = none ∧
           t.span.spanA = s.span.spanA ∧ t.span.spanB = s.span.spanB ∧
           t.line = (s.recordPosition h p).line ∧
           (hv.bound = none → t.requests = s.requests ∧ (t.hoist h).order = (s.hoist h).order) ∧
           (hv.bound = some k → k < 24 → s.requests.get k = some w → s.racks.get k = some r →
             (allowed →
               t.requests.get k = some { w with st := .ordered h } ∧ (t.hoist h).st = .busy ∧
               (t.hoist h).lastOrder = number ∧ (t.hoist h).timer = some (s.hoist h).timing.acceptTime ∧
               (t.hoist h).order = some
                 { number := number, slot := k, source := w.source, drain := drain, dest := w.dest.getD 0, phase := .sent,
                   cancelOut := false, cancelCrossed := false } ∧
               (t.link.channels.get h.channel).queue.map (·.msg) =
                 (s.link.channels.get h.channel).queue.map (·.msg) ++
                   (if s.link.held h.channel < 4 then [OutMsg.move number w.source drain (w.dest.getD 0)] else [])) ∧
             (¬allowed →
               t.requests.get k = some { w with st := .ready } ∧ (t.hoist h).st = (s.hoist h).st ∧
               (t.hoist h).order = (s.hoist h).order)) ∧
           s.dispatcher.passesOwed < t.dispatcher.passesOwed))))

/-- HELLO by the hoist's state: OFFLINE at park becomes IDLE, otherwise only SPAN; IDLE is checked and sent SPAN; BUSY
faults with RESTART; FAULT inside its span or at park becomes IDLE, otherwise SPAN_VIOLATION (06 R125; that the
position is recorded in every state is log 19). -/
def Obligations.HelloByState : Prop :=
  ∀ (s : State) (h : Hoist) (p : Option Int), s.resetHeld = false →
    (let x := s.hoist h
     let q : Option Int := if p = none ∨ (∃ v ∈ p, v < -1 ∨ 32 < v) then none else p
     let park : Int := match h with | .a => -1 | .b => 32
     let u := s.setHoist h { x with position := q }
     let inSpan := match s.spanOf h, q with
       | .range lo hi, some v => decide ((lo : Int) ≤ v ∧ v ≤ (hi : Int))
       | _, _ => false
     let idle := ((s.setHoist h { x with
       position := q, st := .idle, released := if x.st = .offline then false else x.released }).sendSpan h).triggerPass
     exec (.hello h p) s = .next (State.driveOutputs
       (match x.st with
        | .offline => if q = some park then idle else u.sendSpan h
        | .idle => (match q with | some v => s.recordPosition h v | none => u).sendSpan h
        | .busy => u.enterFault h .restart
        | .fault => if inSpan = true ∨ q = some park then idle else u.addCause .spanViolation)))

/-- ACCEPT of the open order in SENT: the position recorded, phase ACCEPTED, the timer set to the travel estimate from
that position plus the approach allowance, suspended in HALT (06 R114, R113, R127). POISED of the open order in SENT
or ACCEPTED: LIFT at once for a rack that is DUE or AT_LOAD, with its station out of agitation and its seat window
closed; otherwise the hoist waits without a timer (06 R115, 08 R153, 10 R177). -/
def Obligations.AcceptAndPoised : Prop :=
  (∀ (s : State) (h : Hoist) (o : Order) (p : Int), s.resetHeld = false → (s.hoist h).order = some o →
     o.phase = .sent → o.cancelOut = false → -1 ≤ p → p ≤ 32 →
     (let u := s.recordPosition h p
      exec (.accept h o.number (some p)) s = .next (State.driveOutputs (u.setHoist h
        { u.hoist h with
          order := some { o with phase := .accepted }
          timer := some ((s.hoist h).timing.fixed + (s.hoist h).timing.perStation * (p - o.source).natAbs +
            (s.hoist h).timing.approach)
          suspended := decide (u.line.st = .halt) })))) ∧
  (∀ (s : State) (h : Hoist) (o : Order) (p : Int) (r : Rack), s.resetHeld = false → (s.hoist h).order = some o →
     (o.phase = .sent ∨ o.phase = .accepted) → o.cancelOut = false → -1 ≤ p → p ≤ 32 →
     s.racks.get o.slot = some r →
     (let u := s.recordPosition h p
      let lifting := r.st = .due ∨ r.st = .atLoad
      exec (.poised h o.number (some p)) s = .next (State.driveOutputs
        (if lifting then
          { u.setHoist h
              { u.hoist h with
                order := some { o with phase := .released }
                timer := some (s.hoist h).timing.lift
                suspended := decide (u.line.st = .halt) } with
            link := u.link.send h.channel (.lift o.number)
            marks := u.marks.set o.source .out
            windows := u.windows.set o.source none }
        else u.setHoist h { u.hoist h with order := some { o with phase := .poised }, timer := none }))))

/-- LIFTED of the open order before LIFTED: the order and its timer, the rack CARRIED off its station with its step in
the history, STEP_ENDED queued or dropped as any notice, EARLY_LIFT where no LIFT was sent, the station out of
agitation; at a bath station the charge with its OWED, or the bath's owed unsent mark, and, while no ADMIT waits, the
fall of its area in flight where no later step uses it (06 R116, R117, R122, 02 R26, R39, 04 R75, R77, 11 R192; that
STEP_ENDED's own station character is none is the model's reading, log 16). -/
def Obligations.LiftedTakesTheRack : Prop :=
  ∀ (s : State) (h : Hoist) (o : Order) (p : Int) (r : Rack), s.resetHeld = false → (s.hoist h).order = some o →
    o.phase ≠ .lifted → -1 ≤ p → p ≤ 32 → o.slot < 24 → o.source < 32 → s.racks.get o.slot = some r →
    (let early := o.phase ≠ .released
     let inBath := r.st = .immersed ∨ r.st = .due
     let b := (s.stations.get o.source).bath
     let product := r.area * (s.baths.get b).rho + (s.baths.get b).remainder
     ∃ t, exec (.lifted h o.number (some p)) s = .next t ∧
       ((t.hoist h).st = (s.hoist h).st ∧ (t.hoist h).position = some p ∧
        (t.hoist h).order = some { o with
          phase := .lifted, cancelOut := false, cancelCrossed := o.cancelCrossed || o.cancelOut } ∧
        (t.hoist h).timer = some (o.drain + ((s.hoist h).timing.fixed +
          (s.hoist h).timing.perStation * ((o.source : Int) - o.dest).natAbs) + (s.hoist h).timing.place +
          (s.hoist h).timing.approach) ∧
        (∃ r' ∈ t.racks.get o.slot,
          r'.st = .carried ∧ r'.station = none ∧ r'.flags = [] ∧ r'.stepIdx = r.stepIdx ∧ r'.acc = r.acc ∧
          r'.overrun = r.overrun ∧ r'.target = r.target ∧ r'.dueTick = r.dueTick ∧ r'.id = r.id ∧
          (¬inBath → r'.history = r.history) ∧
          (inBath → r'.history = r.history ++
            [{ step := r.stepIdx, station := o.source, acc := r.acc, overrun := r.overrun,
               flags := if early then StepFlag.earlyLift.addTo r.flags else r.flags }])) ∧
        (t.stations.get o.source).occ ≠ .occupied o.slot ∧ t.marks.get o.source = .out ∧
        t.windows.get o.source = none ∧
        (inBath → b < 8 →
          (t.baths.get b).owed = min 65535 ((s.baths.get b).owed + product / 1000) ∧
          (t.baths.get b).remainder = product % 1000 ∧
          (t.baths.get b).pendingF = some { s.baths.get b with owed := (t.baths.get b).owed }.computeFactors) ∧
        (¬inBath → t.baths = s.baths) ∧
        ((∃ f ∈ (t.link.channels.get 3).queue, f.msg =
            .rack (.stepEnded r.stepIdx o.source r.acc r.overrun
              (if early then StepFlag.earlyLift.addTo r.flags else r.flags)) r.id o.slot .carried r.stepIdx none) ∨
          (t.link.dropped = true ∧ 5 ≤ t.link.held 3)) ∧
        (inBath → b < 8 →
          ((∃ f ∈ (t.link.channels.get 2).queue, f.msg = .owed b (t.baths.get b).owed) ∨
            (4 ≤ s.link.held 2 ∧ (t.baths.get b).owedUnsent = true))) ∧
        (inBath → s.queue = [] → ∀ c < 8, (t.baths.get c).areaInFlight = (s.baths.get c).areaInFlight -
          (if c = b ∧ ¬∃ st ∈ (s.recipes.get r.recipe).steps.drop r.stepIdx, st.bath = b then r.area else 0)) ∧
        t.tick = s.tick ∧ t.gens = s.gens ∧ t.recipes = s.recipes ∧ t.io.inputs = s.io.inputs))

/-- PLACED of the open order: the hoist IDLE, the request removed, the destination OCCUPIED, and the rack in its next
step from 0 with its target; in an earlier phase the lift comes first: the step ends in the history, with EARLY_LIFT
where no LIFT was sent, STEP_ENDED tells of it, the bath is charged and the source is freed. A seat window opens at a
station with seat sensing whose input is released (06 R118, R119, 02 R26, 03 R66, 08 R152, 10 R177). PLACED at an
UNLOAD station: with seat sensing on the rack is AT_UNLOAD there with target 0 and a seat window, and DONE tells of it
with record freed no; with seat sensing off DONE tells record freed yes and, while no ADMIT waits, its record is freed
at once and its slot is free; in an earlier phase the lift comes first here too (06 R118, R119, 02 R27, R34, 03 R59, 10
R177). Where a handover was WAITING for this order, the hoist's becoming IDLE begins SHRINKING: its span is the
narrowed span, SPAN with it is queued where there is room, its sequence is awaited and the timer runs, suspended in
HALT; otherwise nothing is queued to the hoist and its spans stay (06 R108, 07 R138, R139). All of this follows the
recording and the check of the position. The notices stand in the queue or were dropped as any notice, their station
character aside (log 16). -/
def Obligations.PlacedBeginsTheStep : Prop :=
  (∀ (s : State) (h : Hoist) (o : Order) (p : Int) (r : Rack) (st : RecipeStep), s.resetHeld = false →
     (s.hoist h).order = some o → -1 ≤ p → p ≤ 32 → o.slot < 24 → o.dest < 32 → o.source ≠ o.dest →
     (s.stations.get o.dest).occ = .reservedRack o.slot → (s.stations.get o.dest).kind = .bath →
     s.racks.get o.slot = some r → s.recipeStep r.recipe (r.stepIdx + 1) = some st →
     (let inBath := r.st = .immersed ∨ r.st = .due
      let b := (s.stations.get o.source).bath
      let product := r.area * (s.baths.get b).rho + (s.baths.get b).remainder
      let u := s.recordPosition h p
      let flags := if o.phase = .released then r.flags else StepFlag.earlyLift.addTo r.flags
      ∃ t, exec (.placed h o.number (some p)) s = .next t ∧
       ((t.hoist h).st = .idle ∧ (t.hoist h).order = none ∧ (t.hoist h).timer = none ∧
        (t.hoist h).position = some p ∧ t.requests.get o.slot = none ∧
        u.OrderClosed t h (u.boundWithout o.slot) ∧
        (u.WaitsFor h → u.link.held h.channel < 4 →
          t.queued h.channel = u.queued h.channel ++ [u.span.handover.narrowed.message (t.seqOf h)]) ∧
        (¬u.WaitsFor h ∨ 4 ≤ u.link.held h.channel → t.queued h.channel = u.queued h.channel) ∧
        (o.phase ≠ .lifted →
          t.Told (.stepEnded r.stepIdx o.source r.acc r.overrun flags) o.slot { r with st := .carried }) ∧
        (t.stations.get o.dest).occ = .occupied o.slot ∧
        (∃ r' ∈ t.racks.get o.slot,
          r'.st = .immersed ∧ r'.stepIdx = r.stepIdx + 1 ∧ r'.station = some o.dest ∧ r'.dest = none ∧ r'.acc = 0 ∧
          r'.overrun = 0 ∧ r'.dueTick = none ∧ r'.flags = [] ∧ r'.target = st.target r.adjust ∧ r'.id = r.id ∧
          (o.phase = .lifted ∨ ¬inBath → r'.history = r.history) ∧
          (o.phase ≠ .lifted → inBath → r'.history = r.history ++
            [{ step := r.stepIdx, station := o.source, acc := r.acc, overrun := r.overrun,
               flags := if o.phase = .released then r.flags else StepFlag.earlyLift.addTo r.flags }])) ∧
        (o.phase ≠ .lifted → (t.stations.get o.source).occ ≠ .occupied o.slot) ∧
        (o.phase ≠ .lifted → inBath → b < 8 →
          (t.baths.get b).owed = min 65535 ((s.baths.get b).owed + product / 1000) ∧
          (t.baths.get b).remainder = product % 1000) ∧
        t.marks.get o.dest = (if st.agitate = true then .waiting else s.marks.get o.dest) ∧
        ((s.stations.get o.dest).sensing = true →
          t.windows.get o.dest = if s.level o.dest = true then none else some 20) ∧
        (st.comp ≠ .none → (s.baths.get (s.stations.get o.dest).bath).status = .lapsed →
          .tempStale ∈ t.line.causes) ∧
        s.dispatcher.passesOwed < t.dispatcher.passesOwed ∧ t.tick = s.tick ∧ t.gens = s.gens))) ∧
  (∀ (s : State) (h : Hoist) (o : Order) (p : Int) (r : Rack), s.resetHeld = false →
     (s.hoist h).order = some o → -1 ≤ p → p ≤ 32 → o.slot < 24 → o.dest < 32 → o.source ≠ o.dest →
     (s.stations.get o.dest).occ = .reservedRack o.slot → (s.stations.get o.dest).kind = .unload →
     s.racks.get o.slot = some r → r.stepIdx = (s.recipes.get r.recipe).steps.length → s.queue = [] →
     (let inBath := r.st = .immersed ∨ r.st = .due
      let b := (s.stations.get o.source).bath
      let product := r.area * (s.baths.get b).rho + (s.baths.get b).remainder
      let u := s.recordPosition h p
      let flags := if o.phase = .released then r.flags else StepFlag.earlyLift.addTo r.flags
      let alone := (s.stations.get o.dest).sensing = true ∨ ∀ y ∈ (s.hoist h.other).order, y.slot ≠ o.slot
      ∃ t, exec (.placed h o.number (some p)) s = .next t ∧
       ((t.hoist h).st = .idle ∧ (t.hoist h).order = none ∧ (t.hoist h).timer = none ∧
        (t.hoist h).position = some p ∧ t.requests.get o.slot = none ∧
        (alone → u.OrderClosed t h (u.boundWithout o.slot)) ∧
        (u.WaitsFor h → u.link.held h.channel < 4 →
          t.queued h.channel = u.queued h.channel ++ [u.span.handover.narrowed.message (t.seqOf h)]) ∧
        (¬u.WaitsFor h ∨ 4 ≤ u.link.held h.channel → t.queued h.channel = u.queued h.channel) ∧
        (o.phase ≠ .lifted →
          t.Told (.stepEnded r.stepIdx o.source r.acc r.overrun flags) o.slot { r with st := .carried }) ∧
        t.Told (.done (!(s.stations.get o.dest).sensing)) o.slot
          { r with st := .atUnload, stepIdx := r.stepIdx + 1 } ∧
        s.dispatcher.passesOwed < t.dispatcher.passesOwed ∧ t.tick = s.tick ∧ t.gens = s.gens ∧
        (o.phase ≠ .lifted → (t.stations.get o.source).occ ≠ .occupied o.slot) ∧
        (o.phase ≠ .lifted → inBath → b < 8 →
          (t.baths.get b).owed = min 65535 ((s.baths.get b).owed + product / 1000) ∧
          (t.baths.get b).remainder = product % 1000) ∧
        ((s.stations.get o.dest).sensing = true →
          (t.stations.get o.dest).occ = .occupied o.slot ∧
          (∃ r' ∈ t.racks.get o.slot,
            r'.st = .atUnload ∧ r'.stepIdx = r.stepIdx + 1 ∧ r'.station = some o.dest ∧ r'.dest = none ∧ r'.acc = 0 ∧
            r'.overrun = 0 ∧ r'.dueTick = none ∧ r'.flags = [] ∧ r'.target = 0 ∧ r'.id = r.id ∧
          (o.phase = .lifted ∨ ¬inBath → r'.history = r.history) ∧
            (o.phase ≠ .lifted → inBath → r'.history = r.history ++
              [{ step := r.stepIdx, station := o.source, acc := r.acc, overrun := r.overrun,
                 flags := if o.phase = .released then r.flags else StepFlag.earlyLift.addTo r.flags }])) ∧
          t.recipes = s.recipes ∧
          t.windows.get o.dest = if s.level o.dest = true then none else some 20) ∧
        ((s.stations.get o.dest).sensing = false →
          t.racks.get o.slot = none ∧ (t.stations.get o.dest).occ ≠ .occupied o.slot ∧
          (t.recipes.get r.recipe).refs = (s.recipes.get r.recipe).refs - 1))))

/-- REFUSE of the open order in SENT or ACCEPTED, and CANCELLED before RELEASED, close the order: the hoist is IDLE,
the request READY with its destination, marked for 100 ticks by a refusal, and a pass is triggered. In the later phases
they are faults of reason PROTOCOL, but for the CANCELLED that a lift has crossed (06 R119, R120, R122, 05 R100, R101).
Where a handover was WAITING for the order closed, the hoist's becoming IDLE begins SHRINKING: its span is the narrowed
span, SPAN with it is queued where there is room, its sequence is awaited and the timer runs, suspended in HALT;
otherwise nothing is queued to a hoist and the spans stay (06 R108, 07 R138, R139). HOIST CANCEL: WRONG_STATE without
an order short of LIFT or with a cancel outstanding, otherwise CANCEL queued, the cancel outstanding and the timer set
to the accept timeout. HOIST RELEASE: BUSY for a BUSY hoist or during a handover, otherwise OFFLINE, released, at park
with an empty span (06 R122, R126). -/
def Obligations.OrdersCalledOff : Prop :=
  (∀ (s : State) (h : Hoist) (o : Order) (reason : Nat) (q : Request), s.resetHeld = false →
     (s.hoist h).order = some o → s.requests.get o.slot = some q → o.slot < 24 →
     (let mark := fun (m : Request) => match h with
        | .a => { m with markA := some (s.tick + 100#32) }
        | .b => { m with markB := some (s.tick + 100#32) }
      let early := o.phase = .sent ∨ o.phase = .accepted
      let closed := fun (t : State) =>
        s.OrderClosed t h s.span.handover.bound ∧ t.hoist h.other = s.hoist h.other ∧
        (s.WaitsFor h → s.link.held h.channel < 4 →
          t.queued h.channel = s.queued h.channel ++ [s.span.handover.narrowed.message (t.seqOf h)]) ∧
        (¬s.WaitsFor h ∨ 4 ≤ s.link.held h.channel → t.queued h.channel = s.queued h.channel) ∧
        ∀ c < 4, c ≠ h.channel → t.link.channels.get c = s.link.channels.get c
      (o.cancelOut = true ∨ early → ∃ t, exec (.refuse h o.number reason) s = .next t ∧
        ((t.hoist h).st = .idle ∧ (t.hoist h).order = none ∧ (t.hoist h).timer = none ∧ closed t ∧
         (t.hoist h).lastRefusal = some reason ∧
         t.requests.get o.slot = some
           (if o.cancelOut = true then { q with st := .ready } else mark { q with st := .ready }) ∧
         s.dispatcher.passesOwed < t.dispatcher.passesOwed ∧ t.racks = s.racks ∧ t.stations = s.stations ∧
         t.baths = s.baths ∧ t.line = s.line ∧ t.tick = s.tick)) ∧
      (o.cancelOut = false → ¬early →
        exec (.refuse h o.number reason) s = .next (s.enterFault h .protocol).driveOutputs) ∧
      (o.cancelOut = true ∨ early ∨ o.phase = .poised → ∃ t, exec (.cancelled h o.number) s = .next t ∧
        ((t.hoist h).st = .idle ∧ (t.hoist h).order = none ∧ (t.hoist h).timer = none ∧ closed t ∧
         t.requests.get o.slot = some { q with st := .ready } ∧
         s.dispatcher.passesOwed < t.dispatcher.passesOwed ∧ t.racks = s.racks ∧ t.stations = s.stations ∧
         t.baths = s.baths ∧ t.line = s.line ∧ t.tick = s.tick)) ∧
      (o.cancelOut = false → o.phase = .released ∨ (o.phase = .lifted ∧ o.cancelCrossed = false) →
        exec (.cancelled h o.number) s = .next (s.enterFault h .protocol).driveOutputs) ∧
      (o.cancelOut = false → o.phase = .lifted → o.cancelCrossed = true →
        exec (.cancelled h o.number) s = .next (s.setHoist h { s.hoist h with
          order := some { o with cancelCrossed := false }
          stray := if 65535 ≤ (s.hoist h).stray then 65535 else (s.hoist h).stray + 1 }).driveOutputs))) ∧
  (∀ (s : State) (h : Hoist), s.TakesRequests →
     (let x := s.hoist h
      exec (.hoistCancel none) s = .next (s.reply 0x52 .badValue []).driveOutputs ∧
      exec (.hoistRelease none) s = .next (s.reply 0x53 .badValue []).driveOutputs ∧
      exec (.hoistCancel (some h)) s = .next (State.driveOutputs
        (match x.order with
         | some o =>
           if o.cancelOut = true ∨ o.phase = .released ∨ o.phase = .lifted then s.reply 0x52 .wrongState []
           else State.reply
             { s.setHoist h { x with order := some { o with cancelOut := true }, timer := some x.timing.acceptTime,
                                     suspended := decide (s.line.st = .halt) } with
               link := s.link.send h.channel (.cancel o.number) } 0x52 .ok []
         | none => s.reply 0x52 .wrongState [])) ∧
      exec (.hoistRelease (some h)) s = .next (State.driveOutputs
        (if x.st = .busy ∨ s.span.handover.stage ≠ .none then s.reply 0x53 .busy []
        else if x.st = .offline ∧ x.released = true then s.reply 0x53 .ok []
        else State.reply
          ((s.setHoist h { x with st := .offline, released := true,
                                  position := some (match h with | .a => -1 | .b => 32) }).setSpan h .empty)
          0x53 .ok []))))

/-- FAULT and the expiry of the phase timer: an IDLE or BUSY hoist enters FAULT with its reason, and an OFFLINE or
faulted one only notes the code; the timer acts at 0, unsuspended, under an open order (06 R113, R123; that the command
PHASE_TIMER_EXPIRY acts there only and changes nothing elsewhere is log 2). A hoist enters FAULT: its order closes, its
cause is in the set, the line leaves RUN, and the order's phase decides what becomes of the rack and its request, with
the STRANDED notice queued or dropped as any notice, its station character aside (06 R123, R124; log 16). A handover in
progress, to which each hoist is a party, is abandoned with its record blank, or, where the taker faults while the
victim is SHRINKING and not in FAULT, stays in SHRINKING with the taker withdrawn and the rest of its record as it was;
either way its BOUND request returns to READY with its destination and its marks kept, the spans stay, and a pass is
triggered (05 R99, R101, 07 R142; that the record is blank is log 15, that the withdrawn record's bound request becomes
none is log 37). -/
def Obligations.HoistFaults : Prop :=
  (∀ (s : State) (h : Hoist) (code : Nat) (o : Order), s.resetHeld = false →
     (let x := s.hoist h
      exec (.fault h code) s = .next (State.driveOutputs
        (if x.st = .idle ∨ x.st = .busy then s.enterFault h (.reported code)
        else s.setHoist h { x with reason := .reported code })) ∧
      (x.order = some o → exec (.phaseTimerExpiry h) s = .next (State.driveOutputs
        (if x.timer = some 0 ∧ x.suspended = false then s.enterFault h (.timeoutPhase o.phase) else s))) ∧
      (x.order = none → exec (.phaseTimerExpiry h) s = .next s.driveOutputs))) ∧
  (∀ (s : State) (h : Hoist) (reason : FaultReason) (o : Order) (q : Request) (r : Rack),
     (let t := s.enterFault h reason
      (t.hoist h).st = .fault ∧ (t.hoist h).reason = reason ∧ (t.hoist h).position = (s.hoist h).position ∧
      (match h with | .a => Cause.hoistAFault | .b => Cause.hoistBFault) ∈ t.line.causes ∧
      (s.line.causes = [] → t.line.st = if s.line.st = .run then .hold else s.line.st) ∧
      (t.span.handover.stage = .none ∨ (t.span.handover.stage = .shrinking ∧ t.span.handover.withdrawn = true ∧
        t.span.handover.taker = h)) ∧
      (let hv := s.span.handover
       let withdraws := hv.stage = .shrinking ∧ h = hv.taker ∧ (s.hoist h.other).st ≠ .fault
       (withdraws → t.span.handover = { hv with withdrawn := true, bound := none }) ∧
       (hv.stage ≠ .none → ¬withdraws → t.span.handover = Handover.blank) ∧
       (hv.stage ≠ .none → s.dispatcher.passesOwed < t.dispatcher.passesOwed ∧
         ∀ k < 24, ∀ w, hv.bound = some k → s.requests.get k = some w → w.st = .bound hv.taker →
           (∀ y ∈ (s.hoist h).order, y.slot ≠ k) → t.requests.get k = some { w with st := .ready })) ∧
      t.span.spanA = s.span.spanA ∧ t.span.spanB = s.span.spanB ∧ t.tick = s.tick ∧ t.baths = s.baths ∧
      ((s.hoist h).order = some o → o.slot < 24 → s.racks.get o.slot = some r → s.requests.get o.slot = some q →
        (t.hoist h).order = none ∧ (t.hoist h).timer = none ∧
        (let kept := o.phase = .sent ∨ o.phase = .accepted ∨ o.phase = .poised ∨ (o.phase = .released ∧
           (s.stations.get o.source).sensing = true ∧ s.level o.source = true)
         (kept → t.requests.get o.slot = some { q with st := .ready } ∧ t.racks = s.racks ∧ t.stations = s.stations) ∧
         (¬kept → t.requests.get o.slot = none ∧
           (∃ r' ∈ t.racks.get o.slot, r' = { r with st := .stranded, station := none, dest := none }) ∧
           (∀ n ∈ r.station, (t.stations.get n).occ ≠ .occupied o.slot) ∧
           (∀ n ∈ r.dest, (t.stations.get n).occ ≠ .reservedRack o.slot) ∧
           t.Told (.stranded r.stepIdx (decide (o.phase = .lifted))) o.slot { r with st := .stranded })))))

/-- The end of a handover's widening gives its BOUND request to the taker in RUN, and in HOLD where the next step is
not CRITICAL; otherwise the request is READY again (05 R99, 06 R112). The spans a handover leaves: the widened span
reaches the move, the narrowed span is clear of it by the guard gap, and the two recorded spans keep apart (07 R136,
R130). -/
def Obligations.HandoverDone : Prop :=
  (∀ (s : State) (h : Hoist) (k : Nat) (q : Request) (r : Rack), s.requests.get k = some q → s.racks.get k = some r →
     k < 24 →
     (let x := s.hoist h
      let number := if 255 ≤ x.lastOrder then 1 else x.lastOrder + 1
      let d := q.dest.getD 0
      let drain := match s.currentStep r with | some st => st.drain | none => 0
      let critical := r.stepIdx ≠ (s.recipes.get r.recipe).steps.length ∧
        (s.recipes.get r.recipe).steps[r.stepIdx]?.map (·.cls) = some .critical
      s.completeBound h none = s.triggerPass ∧
      (s.line.st = .run ∨ (s.line.st = .hold ∧ ¬critical) → s.completeBound h (some k) = State.triggerPass
        { s.setHoist h
            { x with
              st := .busy, lastOrder := number, timer := some x.timing.acceptTime
              suspended := decide (s.line.st = .halt)
              order := some { number := number, slot := k, source := q.source, drain := drain, dest := d, phase := .sent,
                              cancelOut := false, cancelCrossed := false } } with
          requests := s.requests.set k (some { q with st := .ordered h })
          link := s.link.send h.channel (.move number q.source drain d) }) ∧
      (s.line.st = .halt ∨ s.line.st = .standby ∨ (s.line.st = .hold ∧ critical) →
        s.completeBound h (some k) = State.triggerPass
          { s with requests := s.requests.set k (some { q with st := .ready }) }))) ∧
  (∀ (c : SpanControl) (source dest : Nat), source ≤ 31 → dest ≤ 31 →
     (widenedSpan .a source dest).covers source dest = true ∧ (widenedSpan .b source dest).covers source dest = true ∧
     (∀ lo hi, narrowedSpan .a c.guardGap source dest c.spanB = .range lo hi →
       max source dest + c.guardGap + 1 ≤ lo ∧ lo ≤ 31 ∧ hi = 31) ∧
     (∀ lo hi, narrowedSpan .b c.guardGap source dest c.spanA = .range lo hi →
       hi + c.guardGap + 1 ≤ min source dest ∧ lo = 0) ∧
     SpanControl.Apart { c with spanA := widenedSpan .a source dest,
                                spanB := narrowedSpan .a c.guardGap source dest c.spanB } ∧
     SpanControl.Apart { c with spanB := widenedSpan .b source dest,
                                spanA := narrowedSpan .b c.guardGap source dest c.spanA } ∧
     (c.Apart →
       SpanControl.Apart { c with spanB := narrowedSpan .a c.guardGap source dest c.spanB } ∧
       SpanControl.Apart { c with spanA := narrowedSpan .b c.guardGap source dest c.spanA }))

/-! ### Cabinet reports and the line tick -/

/-- TEMP: a value in 100..400 is taken with RESTORED where it ends STALE, LAPSED or a probe fault; another sets the
probe fault, with its notice once; a bath outside 0..7 is a stray cabinet report, of TEMP as of PUMPED (04 R68, R69,
R70). -/
def Obligations.TempReports : Prop :=
  ∀ (s : State) (b volume : Nat) (t : Int), s.resetHeld = false →
    (let x := s.baths.get b
     let fresh := { x with temp := some t, status := .fresh, staleCount := 0, probeFault := false }
     let y := { fresh with pendingF := some fresh.computeFactors }
     let stray := State.driveOutputs { s with link := { s.link with
       strayBath := if 65535 ≤ s.link.strayBath then 65535 else s.link.strayBath + 1 } }
     (7 < b → exec (.temp b t) s = .next stray ∧ exec (.pumped b volume) s = .next stray) ∧
     (b ≤ 7 → 100 ≤ t → t ≤ 400 → exec (.temp b t) s = .next (State.driveOutputs
       (if x.status = .stale ∨ x.status = .lapsed ∨ x.probeFault = true then
         State.notify { s with baths := s.baths.set b y }
           (.bath (.restored x.status) b (some t) .fresh false 0 x.owed)
       else { s with baths := s.baths.set b y }))) ∧
     (b ≤ 7 → t < 100 ∨ 400 < t → exec (.temp b t) s = .next (State.driveOutputs
       (if x.probeFault = true then s
       else State.notify { s with baths := s.baths.set b { x with probeFault := true } }
         (.bath (.probeFault t) b x.temp x.status true x.staleCount x.owed)))))

/-- STALE and LAPSED: the status moves at a count of 300 and 1200 with its notice, and LAPSED adds TEMP_STALE where the
bath holds a rack in a compensated step (04 R71, R73; that the commands act at these counts only is log 2, that the
BATH notice stands before the LINE notice is log 46, and so is that HANDOVER_TIMEOUT's LINE notice stands before the
notices of the fault). The acknowledgement timer and a seat window at 0: SHRINKING faults the victim with
HANDOVER_TIMEOUT, WIDENING faults the taker; the window marks the rack in the station SEAT_UNCONFIRMED and closes (07
R141, 10 R177). -/
def Obligations.CountsRunOut : Prop :=
  (∀ (s : State) (b : Nat), s.resetHeld = false → b < 8 →
     (let x := s.baths.get b
      let u := State.notify { s with baths := s.baths.set b { x with status := .lapsed } }
        (.bath .lapsed b x.temp .lapsed x.probeFault x.staleCount x.owed)
      let compensated := decide (∃ k : Nat, k < 24 ∧ ∃ r ∈ s.racks.get k, (r.st = .immersed ∨ r.st = .due) ∧
        (s.stations.get (r.station.getD 0)).bath = b ∧ ∃ st ∈ s.currentStep r, st.comp ≠ .none)
      exec (.stale b) s = .next (State.driveOutputs
        (if x.status = .fresh ∧ 300 ≤ x.staleCount then
          State.notify { s with baths := s.baths.set b { x with status := .stale } }
            (.bath .stale b x.temp .stale x.probeFault x.staleCount x.owed)
        else s)) ∧
      exec (.lapsed b) s = .next (State.driveOutputs
        (if x.status = .stale ∧ 1200 ≤ x.staleCount then (if compensated = true then u.addCause .tempStale else u)
        else s)))) ∧
  (∀ (s : State) (n k : Nat) (r : Rack), s.resetHeld = false → n < 32 →
     (let hv := s.span.handover
      exec .acknowledgementTimerExpiry s = .next (State.driveOutputs
        (if hv.timer ≠ some 0 ∨ hv.suspended = true then s
        else match hv.stage with
          | .shrinking => (s.addCause .handoverTimeout).enterFault hv.taker.other (.timeoutStage .shrinking)
          | .widening => s.enterFault hv.taker (.timeoutStage .widening)
          | _ => s)) ∧
      (s.windows.get n ≠ some 0 → exec (.seatWindowExpiry n) s = .next s.driveOutputs) ∧
      (s.windows.get n = some 0 → (s.stations.get n).occ = .occupied k → k < 24 → s.racks.get k = some r →
        exec (.seatWindowExpiry n) s = .next (State.driveOutputs
          { s with
            racks := s.racks.set k (some { r with flags := StepFlag.seatUnconfirmed.addTo r.flags })
            windows := s.windows.set n none }))))

/-- LINE_TICK: the tick count rises; at phase 0 pending factors load first; every rack in a bath gains the units of
its factor, with the flags its bath's clamps, its stale temperature and lost agitation bring; one at its target
becomes DUE with this tick as its due tick; one that was DUE counts an overrun tick; stale counts rise; running phase
timers fall, and one that reaches 0 faults its hoist; an overrun past the tolerance brings OVERTIME once with its
notice; a stale count of 300 makes a FRESH bath STALE and one of 1200 a STALE bath LAPSED, with their notices and
TEMP_STALE where LAPSED finds a compensated rack; a running acknowledgement timer falls, and one that reaches 0 faults
the victim of SHRINKING or the taker of WIDENING; seat windows fall, and one that runs out closes with
SEAT_UNCONFIRMED for the rack in the station; a pass is triggered. Both timing tables are in R109's ranges (03 R44,
R45, R51, R54, R56, R57, R60, R62, R63, 04 R71, R72, R73, 05 R97, 06 R109, R113, R123, 07 R141, 08 R155, R156, 10
R177; that the tick's own events happen within the command, and their order, are log 2 and log 5). -/
def Obligations.LineTickAdvances : Prop :=
  ∀ (s : State) (k b m v : Nat) (r : Rack) (st : RecipeStep) (h : Hoist) (o : Order), s.resetHeld = false → k < 24 →
    b < 8 → m < 32 → s.TimingsInRange →
    ∃ t, exec .lineTick s = .next t ∧
      (t.tick = s.tick + 1 ∧ s.dispatcher.passesOwed < t.dispatcher.passesOwed ∧
       t.gens = s.gens ∧ t.recipes = s.recipes ∧ t.io.inputs = s.io.inputs ∧
       (let phase := (s.tick + 1).toNat % 16
        let load := fun (x : Bath) => if phase = 0 then x.pendingF.getD x.active else x.active
        let x := s.baths.get b
        let y := t.baths.get b
        let hv := s.span.handover
        let calm := ∀ x ∈ [s.hoistA, s.hoistB], x.suspended = true ∨ (x.timer ≠ some 0 ∧ x.timer ≠ some 1)
        let quiet := calm ∧
          (s.span.handover.suspended = true ∨
            (s.span.handover.timer ≠ some 0 ∧ s.span.handover.timer ≠ some 1))
        y.active = load x ∧ y.temp = x.temp ∧
        y.staleCount = (if x.status = .none then x.staleCount else min 65535 (x.staleCount + 1)) ∧
        (let count := x.staleCount + 1
         let compensated := fun (c : Nat) => decide (∃ j : Nat, j < 24 ∧ ∃ u ∈ s.racks.get j,
           (u.st = .immersed ∨ u.st = .due) ∧ (s.stations.get (u.station.getD 0)).bath = c ∧
           ∃ w ∈ s.currentStep u, w.comp ≠ .none)
         let noticed := fun (e : OutMsg) => (t.link.channels.get 3).queue.any (fun f => decide (f.msg = e)) ||
           (t.link.dropped && decide (5 ≤ t.link.held 3))
         (x.status = .none ∨ x.status = .lapsed ∨ (x.status = .fresh ∧ count < 300) ∨ (x.status = .stale ∧ count < 1200) →
           y.status = x.status) ∧
         (x.status = .fresh → count = 300 → y.status = .stale ∧
           noticed (.bath .stale b x.temp .stale x.probeFault 300 x.owed) = true) ∧
         (x.status = .stale → count = 1200 → y.status = .lapsed ∧
           noticed (.bath .lapsed b x.temp .lapsed x.probeFault 1200 x.owed) = true ∧
           (compensated b = true → .tempStale ∈ t.line.causes)) ∧
         (.tempStale ∈ t.line.causes → .tempStale ∈ s.line.causes ∨ ∃ c : Nat, c < 8 ∧
           ((s.baths.get c).status = .fresh ∨ (s.baths.get c).status = .stale) ∧ 1199 ≤ (s.baths.get c).staleCount ∧
           compensated c = true) ∧
         (∀ u ∈ s.racks.get k, ∀ w ∈ s.currentStep u, u.st = .due → w.tolerance ≠ 65535 →
           w.tolerance < min 4294967295 (u.overrun + 1) → .overtime ∉ u.flags →
           noticed (.rack (.overtime (min 4294967295 (u.overrun + 1)) w.tolerance) u.id k .due u.stepIdx u.station) =
             true)) ∧
        (quiet → t.queue = s.queue ∧ y.owed = x.owed ∧ y.pendingF = (if phase = 0 then none else x.pendingF)) ∧
        (s.racks.get k = some r → (r.st = .immersed ∨ r.st = .due) → s.currentStep r = some st →
          (let n := r.station.getD 0
           let w := s.baths.get (s.stations.get n).bath
           let f := load w
           let rate := match st.comp with | .none => 1024 | .temp => f.fT | .tempActivity => f.fTA
           let rank := rev4 phase
           let gain := rate / 16 + (if 1 ≤ rank ∧ rank ≤ rate % 16 then 1 else 0)
           ∃ r' ∈ t.racks.get k,
             r'.acc = min 4294967295 (r.acc + gain) ∧ r'.stepIdx = r.stepIdx ∧ r'.target = r.target ∧
             (r.st = .immersed → r'.overrun = r.overrun ∧
               r'.dueTick = (if r.target ≤ r'.acc then some (s.tick + 1) else r.dueTick) ∧
               (quiet → r'.st = if r.target ≤ r'.acc then .due else .immersed)) ∧
             (r.st = .due → r'.overrun = min 4294967295 (r.overrun + 1) ∧ r'.dueTick = r.dueTick) ∧
             (.overtime ∈ r'.flags ↔ .overtime ∈ r.flags ∨
               (r.st = .due ∧ st.tolerance ≠ 65535 ∧ st.tolerance < r'.overrun)) ∧
             (.staleTemperature ∈ r'.flags ↔ .staleTemperature ∈ r.flags ∨
               (st.comp ≠ .none ∧ w.status ≠ .none ∧ 299 ≤ w.staleCount)) ∧
             (.factorClamped ∈ r'.flags ↔ .factorClamped ∈ r.flags ∨
               (st.comp ≠ .none ∧ f.tempClamp = true) ∨ (st.comp = .tempActivity ∧ f.actClamp = true)) ∧
             (.agitationLost ∈ r'.flags ↔ .agitationLost ∈ r.flags ∨ (s.marks.get n ≠ .out ∧
               (s.level 33 = false ∨ (s.io.outputs.get n).faulted = true ∨
                 (s.io.outputs.get n).mode = .manual))))) ∧
        (s.racks.get k = some r → r.st ≠ .immersed → r.st ≠ .due → quiet →
          (∀ n < 32, s.windows.get n ≠ some 0 ∧ s.windows.get n ≠ some 1) →
          ∃ r' ∈ t.racks.get k, r'.acc = r.acc ∧ r'.overrun = r.overrun ∧ r'.flags = r.flags) ∧
        (quiet → t.span.handover.timer = (match hv.timer, hv.suspended with
          | some (w + 1), false => some w
          | w, _ => w)) ∧
        (calm → hv.timer = some 1 → hv.suspended = false → (hv.stage = .shrinking ∨ hv.stage = .widening) →
          (let party := if hv.stage = .shrinking then hv.taker.other else hv.taker
           (t.hoist party).st = .fault ∧ (t.hoist party).reason = .timeoutStage hv.stage ∧
           t.span.handover.stage = .none ∧ (hv.stage = .shrinking → .handoverTimeout ∈ t.line.causes))) ∧
        (quiet → (∀ x ∈ [s.hoistA, s.hoistB], ∀ u ∈ x.order, u.phase ≠ .poised ∨ u.source ≠ m) →
          t.windows.get m = (match s.windows.get m with | some (w + 2) => some (w + 1) | _ => none) ∧
          (s.windows.get m = some 1 → (s.stations.get m).occ = .occupied k → s.racks.get k ≠ none →
            ∃ r' ∈ t.racks.get k, .seatUnconfirmed ∈ r'.flags)) ∧
        ((s.hoist h).order = some o → o.phase ≠ .poised →
          (quiet → (s.hoist h).suspended = true → (t.hoist h).timer = (s.hoist h).timer) ∧
          (quiet → (s.hoist h).suspended = false → (s.hoist h).timer = some (v + 1) → (t.hoist h).timer = some v) ∧
          ((s.hoist h).suspended = false → (s.hoist h).timer = some 1 →
            (t.hoist h).st = .fault ∧ (t.hoist h).order = none ∧ (t.hoist h).reason = .timeoutPhase o.phase))))

/-- DUE: an IMMERSED rack at its target becomes DUE at the present tick, has a move request, and a hoist POISED over it
with no cancel outstanding is sent LIFT; a request it then makes has the rack's station as source, the class of its
current step, no marks, and its destination chosen at once (03 R60, R61, 05 R84, R87, R88, 06 R115; the command's own
condition is log 2). OVERTIME: a DUE rack whose overrun exceeds its step's late tolerance, when that is not unlimited,
gains the flag once with its notice (03 R63). -/
def Obligations.DueAndOvertime : Prop :=
  (∀ (s : State) (k : Nat) (r : Rack) (h : Hoist) (o : Order), s.resetHeld = false → k < 24 →
     s.racks.get k = some r →
     (¬(r.st = .immersed ∧ r.target ≤ r.acc) → exec (.due k) s = .next s.driveOutputs) ∧
     (r.st = .immersed → r.target ≤ r.acc → ∃ t, exec (.due k) s = .next t ∧
       ((∃ r' ∈ t.racks.get k, { r' with dest := r.dest } = { r with st := .due, dueTick := some s.tick }) ∧
        (t.requests.get k).isSome = true ∧
        (s.requests.get k = none → t.dispatcher.passesOwed = s.dispatcher.passesOwed + 1 ∧
          ∃ q ∈ t.requests.get k, q.source = r.station.getD 0 ∧
            q.cls = (match s.currentStep r with | some st => st.cls | none => .openEnded) ∧ q.created = s.tick ∧
            q.markA = none ∧ q.markB = none ∧
            (q.st = .blocked ∧ q.dest = none ∧ t.stations = s.stations ∨
              q.st = .ready ∧ ∃ d ∈ q.dest, d < 32 ∧ (s.stations.get d).occ = .empty ∧
                (s.stations.get d).inService = true ∧
                t.stations = s.stations.set d { s.stations.get d with occ := .reservedRack k })) ∧
        (s.requests.get k ≠ none → t.requests = s.requests ∧ t.stations = s.stations) ∧
        (s.orderFor k = some (h, o) → o.phase = .poised → o.cancelOut = false → (s.hoist h).order = some o →
          (t.hoist h).order = some { o with phase := .released } ∧
          (t.hoist h).timer = some (s.hoist h).timing.lift ∧ (o.source < 32 → t.marks.get o.source = .out) ∧
          t.link = s.link.send h.channel (.lift o.number)) ∧
        (s.orderFor k = some (h, o) → (o.phase ≠ .poised ∨ o.cancelOut = true) →
          t.hoistA = s.hoistA ∧ t.hoistB = s.hoistB ∧ t.link = s.link) ∧
        t.line = s.line ∧ t.baths = s.baths ∧ t.tick = s.tick))) ∧
  (∀ (s : State) (k : Nat) (r : Rack) (st : RecipeStep), s.resetHeld = false → k < 24 →
     s.racks.get k = some r → s.currentStep r = some st →
     exec (.overtime k) s = .next (State.driveOutputs
       (if r.st = .due ∧ st.tolerance ≠ 65535 ∧ st.tolerance < r.overrun ∧ StepFlag.overtime ∉ r.flags then
         State.notify
           { s with racks := s.racks.set k (some { r with
               flags := StepFlag.all.filter (fun f => decide (f = .overtime ∨ f ∈ r.flags)) }) }
           (.rack (.overtime r.overrun st.tolerance) r.id k r.st r.stepIdx r.station)
       else s)))

/-! ### Seats, auxiliary inputs, monitors and samples -/

/-- SEATED at an enabled input that was released: by the station's occupancy, where it has seat sensing on (10 R175; an
input that is disabled or seated already takes no event, log 4; that one is taken before the first sample too is log
42). RELEASED at an enabled input that was seated: by the occupancy, the rack's state and its open order, where the
station has seat sensing on; at an EMPTY or RESERVED station nothing but the level changes (10 R176, 02 R34, R36). A
rack freed so has its open order, which R36 has in SENT or ACCEPTED at a load station, closed with CANCEL queued and
the hoist IDLE, which begins the SHRINKING of a handover that was WAITING for it (02 R35, 06 R108, R121, 07 R138). -/
def Obligations.SeatsByOccupancy : Prop :=
  (∀ (s : State) (n k id : Nat), s.resetHeld = false → n < 32 →
     (let x := s.io.inputs.get n
      let u := s.setInput n { x with level := true, run := 0 }
      let st := s.stations.get n
      (x.enabled = false ∨ x.level = true → exec (.seated n) s = .next s.driveOutputs) ∧
      (x.enabled = true → x.level = false →
        (st.sensing = false ∨ st.occ = .foreign → exec (.seated n) s = .next u.driveOutputs) ∧
        (st.sensing = true →
          (st.occ = .empty → exec (.seated n) s = .next (State.driveOutputs
            { u with stations := s.stations.set n { st with occ := .foreign },
                     link := s.link.notify (.station n .foreign .foreign) })) ∧
          (st.occ = .reservedEntry id → exec (.seated n) s = .next (State.driveOutputs
            (if s.queue.head?.map (·.id) = some id then u.retestHead else u))) ∧
          (st.occ = .reservedRack k → exec (.seated n) s = .next (State.driveOutputs
            (if (s.racks.get k).map (·.st) = some .carried then u
            else { u with link := s.link.notify (.station n .intruded (.reservedRack k)) }))) ∧
          (st.occ = .occupied k → exec (.seated n) s = .next (State.driveOutputs
            { u with windows := s.windows.set n none })))))) ∧
  (∀ (s : State) (n k id : Nat) (r : Rack), s.resetHeld = false → n < 32 →
     (let x := s.io.inputs.get n
      let u := s.setInput n { x with level := false, run := 0 }
      let st := s.stations.get n
      let phase := (s.orderFor k).map (fun p => p.2.phase)
      (x.enabled = false ∨ x.level = false → exec (.released n) s = .next s.driveOutputs) ∧
      (x.enabled = true → x.level = true →
        (st.sensing = false ∨ st.occ = .empty ∨ st.occ = .reservedRack k ∨ st.occ = .reservedEntry id →
          exec (.released n) s = .next u.driveOutputs) ∧
        (st.sensing = true → st.occ = .foreign → exec (.released n) s = .next (State.driveOutputs
          (State.retryBlocked { u with stations := s.stations.set n { st with occ := .empty },
                                       link := s.link.notify (.station n .empty .empty) } n))) ∧
        (st.sensing = true → st.occ = .occupied k → k < 24 → s.racks.get k = some r →
          (r.st = .immersed ∨ r.st = .due → phase = some .released → exec (.released n) s = .next u.driveOutputs) ∧
          (r.st = .immersed ∨ r.st = .due → phase ≠ some .released → phase ≠ some .lifted →
            exec (.released n) s = .next (State.driveOutputs
              { u with racks := s.racks.set k (some { r with flags := StepFlag.unexpectedRelease.addTo r.flags }) })) ∧
          (r.st = .atLoad → phase = some .released → exec (.released n) s = .next u.driveOutputs) ∧
          (r.st = .atLoad → phase = none ∨ phase = some .sent ∨ phase = some .accepted → s.queue = [] →
            ∃ t, exec (.released n) s = .next t ∧
              (s.Freed t k r (.removed .loadReleased) ∧ s.OrderFreed t k ∧ t.io.inputs = u.io.inputs)) ∧
          (r.st = .atUnload → s.queue = [] →
            ∃ t, exec (.released n) s = .next t ∧
              (s.Freed t k r (.done true) ∧ s.OrderFreed t k ∧ t.io.inputs = u.io.inputs))))))

/-- The auxiliary inputs: E-STOP and PAUSE becoming active add their causes; GAS-OK becoming inactive adds GAS_LOW and
marks the racks in agitation; the other changes only set the level (10 R178, 08 R155). An output's fault mark set adds
OUTPUT_FAULT, and AGITATION_LOST to the rack of a valve line's station in agitation; cleared, it only clears (10 R182,
08 R156; the commands' own conditions are log 4, those of input events before the first sample log 42). -/
def Obligations.AuxiliaryAndFaultMarks : Prop :=
  (∀ (s : State) (n k : Nat) (r : Rack), s.resetHeld = false →
     (let put := fun (i : Nat) (l : Bool) => s.setInput i { s.io.inputs.get i with level := l, run := 0 }
      let takes := fun (i : Nat) (l : Bool) => (s.io.inputs.get i).enabled = true ∧ (s.io.inputs.get i).level ≠ l
      exec .eStopActive s = .next (State.driveOutputs (if takes 32 true then (put 32 true).addCause .estop else s)) ∧
      exec .pauseActive s = .next (State.driveOutputs
        (if takes 34 true then (put 34 true).addCause .pauseInput else s)) ∧
      exec .gasOkActive s = .next (State.driveOutputs (if takes 33 true then put 33 true else s)) ∧
      exec (.auxiliaryInactive .eStop) s = .next (State.driveOutputs (if takes 32 false then put 32 false else s)) ∧
      exec (.auxiliaryInactive .pause) s = .next (State.driveOutputs (if takes 34 false then put 34 false else s)) ∧
      (¬takes 33 false → exec .gasOkInactive s = .next s.driveOutputs) ∧
      (takes 33 false → ∃ t, exec .gasOkInactive s = .next t ∧
        (.gasLow ∈ t.line.causes ∧ t.io.inputs = (put 33 false).io.inputs ∧ t.stations = s.stations ∧ t.tick = s.tick ∧
         t.gens = s.gens ∧ t.marks = s.marks ∧
         (s.racks.get k = some r → n < 32 → (s.stations.get n).occ = .occupied k → s.marks.get n ≠ .out →
           ∃ r' ∈ t.racks.get k, r' = { r with flags := StepFlag.agitationLost.addTo r.flags }) ∧
         ((∀ m < 32, (s.stations.get m).occ = .occupied k → s.marks.get m = .out) →
           t.racks.get k = s.racks.get k))))) ∧
  (∀ (s : State) (n k : Nat) (r : Rack), s.resetHeld = false → n < 35 →
     (let o := s.io.outputs.get n
      let u := (s.setOutput n { o with faulted := true, run := 0 }).addCause .outputFault
      (o.faulted = true → exec (.outputFaultMarkSet n) s = .next s.driveOutputs) ∧
      (o.faulted = false → (32 ≤ n ∨ s.marks.get n = .out) → exec (.outputFaultMarkSet n) s = .next u.driveOutputs) ∧
      (o.faulted = false → n < 32 → s.marks.get n ≠ .out → (s.stations.get n).occ = .occupied k → k < 24 →
        s.racks.get k = some r → exec (.outputFaultMarkSet n) s = .next (State.driveOutputs
          { u with racks := s.racks.set k (some { r with flags := StepFlag.agitationLost.addTo r.flags }) })) ∧
      exec (.outputFaultMarkClear n) s = .next (State.driveOutputs
        (if o.faulted = true then s.setOutput n { o with faulted := false, run := 0 } else s))))

/-- SAMPLE_EVENT: every input debounced through its polarity, the first sample seeding it without an event; every
monitor compared with its command; an input whose level changes brings its event: alone in its sample, it has exactly
the effect of SEATED, RELEASED or the auxiliary event on every record but generators, marks and outputs, and E-STOP,
lost gas and PAUSE add their cause beside any other event; every RUNNING generator's count raised, with its burst end
and cycle start (10 R172, R173, R175, R176, R178, R182, 08 R148, R149; that a disabled input keeps its level at the
first sample is log 23, that monitors are compared before any event of the same sample is log 3, the commands of the
events are log 4). -/
def Obligations.SampleCounts : Prop :=
  ∀ (s : State) (pins monitors : BitVec 35) (n b : Nat), s.resetHeld = false → n < 35 → b < 8 →
    ∃ t, exec (.sampleEvent pins monitors) s = .next t ∧
      (let x := s.io.inputs.get n
       let raw := pins.getLsbD n
       let reading := if x.polarity = .activeHigh then raw else !raw
       let o := s.io.outputs.get n
       let m := monitors.getLsbD n
       let counts := if o.faulted = true then m = o.commanded else m ≠ o.commanded
       let g := s.gens.get b
       let moves := fun (i : Nat) =>
         let y := s.io.inputs.get i
         let seen := if y.polarity = .activeHigh then pins.getLsbD i else !pins.getLsbD i
         s.io.seeded && y.enabled && decide (seen ≠ y.level) && decide (y.debounce ≤ y.run + 1)
       let marked := fun (i : Nat) =>
         let y := s.io.outputs.get i
         !y.faulted && decide (monitors.getLsbD i ≠ y.commanded) && decide (3 ≤ y.run + 1)
       let event := if n < 32 then (if reading = true then Instr.seated n else Instr.released n)
         else if n = 32 then (if reading = true then Instr.eStopActive else Instr.auxiliaryInactive .eStop)
         else if n = 33 then (if reading = true then Instr.gasOkActive else Instr.gasOkInactive)
         else (if reading = true then Instr.pauseActive else Instr.auxiliaryInactive .pause)
       t.tick = s.tick ∧ t.io.seeded = true ∧
       (moves n = true → (∀ i < 35, i ≠ n → moves i = false) → (∀ i < 35, marked i = false) →
         ∃ u, exec event { s with io := { t.io with
             inputs := t.io.inputs.set n { t.io.inputs.get n with level := x.level } } } = .next u ∧
           (t.racks = u.racks ∧ t.stations = u.stations ∧ t.queue = u.queue ∧ t.requests = u.requests ∧
            t.windows = u.windows ∧ t.line = u.line ∧ t.hoistA = u.hoistA ∧ t.hoistB = u.hoistB ∧ t.span = u.span ∧
            t.dispatcher = u.dispatcher ∧ t.baths = u.baths ∧ t.recipes = u.recipes ∧ t.link = u.link ∧
            t.seqCounter = u.seqCounter ∧ t.io.inputs = u.io.inputs)) ∧
       (moves n = true → n = 32 → reading = true → .estop ∈ t.line.causes) ∧
       (moves n = true → n = 33 → reading = false → .gasLow ∈ t.line.causes) ∧
       (moves n = true → n = 34 → reading = true → .pauseInput ∈ t.line.causes) ∧
       t.io.inputs.get n =
         (if x.enabled = false then { x with raw := raw }
         else if s.io.seeded = false then { x with raw := raw, level := reading, run := 0 }
         else if reading = x.level then { x with raw := raw, run := 0 }
         else if x.debounce ≤ x.run + 1 then { x with raw := raw, level := reading, run := 0 }
         else { x with raw := raw, run := x.run + 1 }) ∧
       (t.io.outputs.get n).monitor = m ∧
       (t.io.outputs.get n).faulted = (if counts ∧ 3 ≤ o.run + 1 then !o.faulted else o.faulted) ∧
       (counts → 3 ≤ o.run + 1 → o.faulted = false → .outputFault ∈ t.line.causes) ∧
       ((t.io.outputs.get n).commanded = o.commanded →
         (t.io.outputs.get n).run = if counts then (if 3 ≤ o.run + 1 then 0 else o.run + 1) else 0) ∧
       (s.io.seeded = false → t.stations = s.stations ∧ t.requests = s.requests ∧ t.queue = s.queue) ∧
       (g.running = false → t.gens.get b = g) ∧
       (g.running = true → g.unit < (g.active.cycle + 1) * 16 → (g.burst = true → g.unit < g.burstLen) →
         (g.sample < g.active.prescale → t.gens.get b = { g with sample := g.sample + 1 }) ∧
         (g.active.prescale ≤ g.sample → g.unit + 1 < (g.active.cycle + 1) * 16 →
           t.gens.get b = { g with sample := 0, unit := g.unit + 1,
                                   burst := g.burst && decide (g.unit + 1 < g.burstLen) }) ∧
         (g.active.prescale ≤ g.sample → g.unit + 1 = (g.active.cycle + 1) * 16 →
           (t.gens.get b).unit = 0 ∧ (t.gens.get b).sample = 0 ∧ (t.gens.get b).pendingP = none ∧
           (t.gens.get b).active = g.pendingP.getD g.active ∧
           ((t.gens.get b).running = true → (t.gens.get b).cycle = (g.cycle + 1) % 16))))

/-! ### Dispatch passes -/

/-- DISPATCH_PASS: the margin crosses the notice state, with MARGIN LOW or CLEAR, and the admit side, whose rise
retests the queue; else channel 3 gains only what the retest queues; lapsed marks go; no request changes place; only an
IDLE hoist in RUN or HOLD is given one (02 R40, 05 R93, R95, R100, R104; passes owed: log 6). Keys: remaining ticks,
predicted due tick, order time, which needs a known position (03 R64, 05 R90, R94; a CARRIED rack's: log 34). Urgency:
each request once, ordered by DEADLINE or CLASS mode, where ticks and sequences, all different, lie within 2^30 of now
and of the counter (05 R90, R91, 03 R44). Eligible: a READY request, for an IDLE hoist of known position with none
BOUND or given in the pass, that the line lets go, without mark, its order time passed, within reach or able to start a
handover, and with no CRITICAL request within reach that would fall due; of two eligible hoists the one within reach,
then the fewer stations added, then the split (05 R92, R93, R95, R96, R98, R100). The walk goes once over the urgency
order formed at its start, passes by requests without an eligible hoist and gives each other one to its chosen hoist,
used from then on; given within reach it is ORDERED with MOVE, otherwise BOUND with the handover record and the stage;
a giving's effect on requests, hoists, spans and queues is in full (05 R97, R98, 06 R112, 07 R136, R137, R139).
Lookahead: a request for each IMMERSED rack without one within the lookahead, by ascending remaining ticks, then
sequence, under the same bound; it has the rack's station as source, its current step's class, OPEN without one, no
marks, its destination chosen at once (05 R84, R86, R87, R88). -/
def Obligations.DispatchPassWalks : Prop :=
  (∀ (s : State) (k : Nat) (q : Request) (m : Int) (h : Hoist), s.resetHeld = false → k < 24 →
     (let rises := decide (s.dispatcher.side = .below) &&
        s.lineMargin.all (fun x => decide ((s.dispatcher.admitMargin : Int) ≤ x.1))
      let v := if rises = true then s.retestHead else s
      ∃ t, exec .dispatchPass s = .next t ∧
       (t.tick = s.tick ∧ t.line = s.line ∧ t.gens = s.gens ∧ t.marks = s.marks ∧ t.windows = s.windows ∧
        t.io.inputs = s.io.inputs ∧
        t.dispatcher.passesOwed + 1 ≥ s.dispatcher.passesOwed ∧
        (let noticed := fun (e : OutMsg) => (t.link.channels.get 3).queue.any (fun f => decide (f.msg = e)) ||
           (t.link.dropped && decide (5 ≤ t.link.held 3))
         (∀ x ∈ s.lineMargin, s.dispatcher.notice = .clear → x.1 < (s.dispatcher.lowMark : Int) →
           noticed (.marginLow x.1 (((s.racks.get x.2).map (·.id)).getD 0) x.2) = true) ∧
         (s.dispatcher.notice = .low → (∀ x ∈ s.lineMargin,
             (s.dispatcher.lowMark : Int) + s.dispatcher.hysteresis ≤ x.1) →
           noticed (.marginClear (s.lineMargin.map (·.1))) = true)) ∧
        (t.dispatcher.notice = s.dispatcher.notice → t.link.channels.get 3 = v.link.channels.get 3) ∧
        t.queue = v.queue ∧ t.baths = v.baths ∧ t.recipes = v.recipes ∧ t.seqCounter = v.seqCounter ∧
        (t.racks.get k).map (fun x => { x with dest := none }) =
          (v.racks.get k).map (fun x => { x with dest := none }) ∧
        (s.lineMargin = none → t.dispatcher.notice = .clear ∧ t.dispatcher.side = .above) ∧
        (s.lineMargin.map (·.1) = some m →
          (m < (s.dispatcher.lowMark : Int) → t.dispatcher.notice = .low) ∧
          ((s.dispatcher.lowMark : Int) + s.dispatcher.hysteresis ≤ m → t.dispatcher.notice = .clear) ∧
          ((s.dispatcher.lowMark : Int) ≤ m → m < (s.dispatcher.lowMark : Int) + s.dispatcher.hysteresis →
            t.dispatcher.notice = s.dispatcher.notice) ∧
          t.dispatcher.side = (if m < (s.dispatcher.admitMargin : Int) then .below else .above)) ∧
        (∀ r ∈ s.racks.get k, t.racks.get k ≠ none ∧
          (r.st = .immersed → s.requests.get k = none → s.remainingTicks r ≤ s.dispatcher.lookahead →
            ∃ p ∈ t.requests.get k, p.source = r.station.getD 0 ∧
              p.cls = (match s.currentStep r with | some st => st.cls | none => .openEnded) ∧ p.created = s.tick ∧
              p.markA = none ∧ p.markB = none)) ∧
        (s.racks.get k ≠ none → s.requests.get k = some q → ∃ p ∈ t.requests.get k,
          p.source = q.source ∧ p.dest = q.dest ∧ p.cls = q.cls ∧
          p.markA = q.markA.filter (fun e => decide (0 < (e - s.tick).toInt)) ∧
          p.markB = q.markB.filter (fun e => decide (0 < (e - s.tick).toInt)) ∧
          (q.st ≠ .ready → p.st = q.st)) ∧
        ((s.hoist h).st ≠ .idle ∨ s.line.st = .standby ∨ s.line.st = .halt → t.hoist h = s.hoist h) ∧
        (s.line.st = .standby ∨ s.line.st = .halt → t.span = s.span) ∧
        (t.hoist h = s.hoist h ∨
          ∃ o ∈ (t.hoist h).order, (t.requests.get o.slot).map (·.st) = some (.ordered h) ∧ o.phase = .sent ∧
            o.number = (if 255 ≤ (s.hoist h).lastOrder then 1 else (s.hoist h).lastOrder + 1) ∧
            t.hoist h = { s.hoist h with
              st := .busy, order := some o, lastOrder := o.number
              timer := some (s.hoist h).timing.acceptTime, suspended := false })))) ∧
  (∀ (s : State) (h : Hoist) (r : Rack) (q : Request) (st : RecipeStep) (p : Int) (now : TickCount),
     (let x := s.baths.get (s.stations.get (r.station.getD 0)).bath
      let f := x.pendingF.getD x.active
      let rate := match st.comp with | .none => 1024 | .temp => f.fT | .tempActivity => f.fTA
      let n := s.remainingTicks r
      let need := (r.target - r.acc) * 16
      let travel := (s.hoist h).timing.fixed + (s.hoist h).timing.perStation * (p - q.source).natAbs
      let order := s.tick + BitVec.ofNat 32 n - BitVec.ofNat 32 (travel + s.dispatcher.orderMargin)
      (s.currentStep r = some st → 0 < rate → need ≤ n * rate ∧ ∀ i < n, i * rate < need) ∧
      s.predictedDue r q = (match r.st with
        | .immersed => some (s.tick + BitVec.ofNat 32 n)
        | .due => some (r.dueTick.getD s.tick)
        | .atLoad => some q.created
        | _ => none) ∧
      ((s.hoist h).position = none → s.orderTimeBy h r q now = none) ∧
      ((s.hoist h).position = some p → s.orderTimeBy h r q now =
        some (decide (r.st = .due ∨ r.st = .atLoad ∨ (r.st = .immersed ∧ 0 ≤ (now - order).toInt)))))) ∧
  (∀ (s : State) (i j : Nat) (a b : Request) (x y : Rack), i < 24 → j < 24 → i ≠ j →
     s.requests.get i = some a → s.racks.get i = some x → s.requests.get j = some b → s.racks.get j = some y →
     (let lift := fun (r : Rack) => if r.st = .immersed ∨ r.st = .due then
          (s.currentStep r).bind (fun st => if st.tolerance = 65535 then none else
            some ((if r.st = .immersed then s.tick + BitVec.ofNat 32 (s.remainingTicks r) else r.dueTick.getD s.tick) +
              BitVec.ofNat 32 st.tolerance))
        else none
      let rank := fun (c : StepClass) => match c with | .critical => 0 | .firm => 1 | .loose => 2 | .openEnded => 3
      let deadline := match lift x, lift y with
        | some u, some v => compare (u - s.tick).toInt (v - s.tick).toInt
        | some _, none => Ordering.lt
        | none, some _ => Ordering.gt
        | none, none => Ordering.eq
      let byClass := compare (rank a.cls) (rank b.cls)
      let age := compare (x.seq - s.seqCounter).toInt (y.seq - s.seqCounter).toInt
      s.urgencyOrder.Nodup ∧ (∀ k < 24, k ∈ s.urgencyOrder ↔ s.requests.get k ≠ none ∧ s.racks.get k ≠ none) ∧
      ((∀ k < 24, ∀ r ∈ s.racks.get k, (r.seq - s.seqCounter).toInt.natAbs < 2 ^ 30 ∧
          (lift r).all (fun e => decide ((e - s.tick).toInt.natAbs < 2 ^ 30)) = true ∧
          ∀ l < 24, l ≠ k → ∀ w ∈ s.racks.get l, w.seq ≠ r.seq) →
        (s.urgencyOrder.idxOf i < s.urgencyOrder.idxOf j ↔
          (match s.dispatcher.mode with
           | .deadline => (deadline.then byClass).then age
           | .byClass => (byClass.then deadline).then age) = .lt)))) ∧
  (∀ (s : State) (h : Hoist) (k : Nat) (q : Request) (r : Rack) (p : Int) (used : List Hoist),
     s.requests.get k = some q → s.racks.get k = some r → (s.hoist h).position = some p →
     (let x := s.hoist h
      let v := s.hoist h.other
      let hv := s.span.handover
      let d := q.dest.getD 0
      let reach := fun (g : Hoist) (a b : Nat) =>
        match (if hv.stage ≠ .none ∧ g ≠ hv.taker then hv.narrowed else s.spanOf g) with
        | .empty => false
        | .range lo hi => decide (lo ≤ a ∧ a ≤ hi ∧ lo ≤ b ∧ b ≤ hi)
      let travel := fun (a b : Int) => x.timing.fixed + x.timing.perStation * (a - b).natAbs
      let drain := match s.currentStep r with | some st => st.drain | none => 0
      let job := travel p q.source + drain + travel q.source d + x.timing.place
      let critical := fun (u : Rack) => decide (u.stepIdx ≠ (s.recipes.get u.recipe).steps.length ∧
        (s.recipes.get u.recipe).steps[u.stepIdx]?.map (·.cls) = some StepClass.critical)
      let allowed := fun (u : Rack) => decide (s.line.st = .run) || (decide (s.line.st = .hold) && !critical u)
      let marked := fun (w : Request) => match (match h with | .a => w.markA | .b => w.markB) with
        | some e => decide (0 < (e - s.tick).toInt)
        | none => false
      let held := q.cls ≠ .critical ∧ ∃ j : Nat, j < 24 ∧ j ≠ k ∧ ∃ w ∈ s.requests.get j, ∃ u ∈ s.racks.get j,
        w.st = .ready ∧ w.cls = .critical ∧ reach h w.source (w.dest.getD 0) = true ∧ allowed u = true ∧
        marked w = false ∧ s.orderTimeBy h u w (s.tick + BitVec.ofNat 32 job) = some true
      let startable := hv.stage = .none ∧ v.st ≠ .fault ∧ ¬(v.st = .offline ∧ v.released = false) ∧
        ¬((v.st = .idle ∨ v.st = .busy) ∧ reach h.other q.source d = true)
      let addedA : Int := (max q.source d : Int) - (match s.span.spanA with | .empty => -1 | .range _ hi => (hi : Int))
      let addedB : Int := (match s.span.spanB with | .empty => 32 | .range lo _ => (lo : Int)) - (min q.source d : Int)
      (s.eligible used h k = true ↔
        q.st = .ready ∧ x.st = .idle ∧ (∀ j < 24, ∀ w ∈ s.requests.get j, w.st ≠ .bound h) ∧ h ∉ used ∧
        allowed r = true ∧ marked q = false ∧ s.orderTimeBy h r q s.tick = some true ∧
        (reach h q.source d = true ∨ startable) ∧ ¬held) ∧
      s.chosenHoist used k =
        (match s.eligible used .a k, s.eligible used .b k with
         | false, false => none
         | true, false => some .a
         | false, true => some .b
         | true, true => some (if reach .a q.source d = true then .a else if reach .b q.source d = true then .b
           else if addedA < addedB then .a else if addedB < addedA then .b
           else if q.source < s.span.split then .a else .b)))) ∧
  (∀ (s : State) (pre post : List Nat) (k : Nat) (q : Request) (r : Rack) (h : Hoist), s.resetHeld = false → k < 24 →
     (let u := (State.crossMargins { s with
          dispatcher := { s.dispatcher with passesOwed := s.dispatcher.passesOwed - 1 } }).clearMarks.lookahead
      let d := q.dest.getD 0
      let old := u.spanOf h.other
      let widened := match h with | .a => Span.range 0 (max q.source d) | .b => Span.range (min q.source d) 31
      let narrowed := match h, old with
        | _, .empty => Span.empty
        | .a, .range lo _ => if 31 < max lo (max q.source d + u.span.guardGap + 1) then Span.empty
          else Span.range (max lo (max q.source d + u.span.guardGap + 1)) 31
        | .b, .range _ hi => if min q.source d < u.span.guardGap + 1 then Span.empty
          else Span.range 0 (min hi (min q.source d - u.span.guardGap - 1))
      let outside := match (u.hoist h.other).order, narrowed with
        | none, _ => false
        | some _, .empty => true
        | some o, .range lo hi => !decide (lo ≤ o.source ∧ o.source ≤ hi ∧ lo ≤ o.dest ∧ o.dest ≤ hi)
      let drain := match u.currentStep r with | some st => st.drain | none => 0
      ((∀ j ∈ u.urgencyOrder, u.chosenHoist [] j = none) → exec .dispatchPass s = .next u.driveOutputs) ∧
      (u.urgencyOrder = pre ++ k :: post → (∀ j ∈ pre, u.chosenHoist [] j = none) → u.chosenHoist [] k = some h →
        u.requests.get k = some q → u.racks.get k = some r →
        ∃ t, exec .dispatchPass s = .next t ∧
          ((u.within h q.source d = true →
             t.requests.get k = some { q with st := .ordered h } ∧ (t.hoist h).st = .busy ∧
             (∃ o ∈ (t.hoist h).order, o.slot = k ∧ o.source = q.source ∧ o.dest = d ∧ o.drain = drain ∧
               o.phase = .sent ∧
               (u.link.held h.channel < 4 → ∃ f ∈ (t.link.channels.get h.channel).queue,
                 f.msg = .move o.number q.source drain d))) ∧
           (u.within h q.source d = false →
             t.requests.get k = some { q with st := .bound h } ∧ t.hoist h = u.hoist h ∧
             t.span.handover.taker = h ∧ t.span.handover.bound = some k ∧ t.span.handover.widened = widened ∧
             t.span.handover.narrowed = narrowed ∧ t.span.handover.old = old ∧ t.span.handover.withdrawn = false ∧
             t.span.handover.stage =
               (if narrowed = old then .widening else if outside = true then .waiting else .shrinking) ∧
             t.spanOf h = (if narrowed = old then widened else u.spanOf h) ∧
             t.spanOf h.other = (if narrowed ≠ old ∧ outside = false then narrowed else old)))))) ∧
  (∀ (s : State) (used : List Hoist) (h : Hoist) (k : Nat) (rest : List Nat),
     ((s.hoist h).position = none → s.eligible used h k = false) ∧
     s.walk used [] = s ∧
     s.walk used (k :: rest) = (match s.chosenHoist used k with
       | none => s.walk used rest
       | some g => (s.giveRequest g k).walk (g :: used) rest) ∧
     (s.resetHeld = false →
       (let u := (State.crossMargins { s with
            dispatcher := { s.dispatcher with passesOwed := s.dispatcher.passesOwed - 1 } }).clearMarks.lookahead
        exec .dispatchPass s = .next (u.walk [] u.urgencyOrder).driveOutputs))) ∧
  (∀ (s : State) (h : Hoist) (k : Nat) (q : Request) (r : Rack), s.requests.get k = some q → s.racks.get k = some r →
     (let x := s.hoist h
      let hv := s.span.handover
      let d := q.dest.getD 0
      let reach := match (if hv.stage ≠ .none ∧ h ≠ hv.taker then hv.narrowed else s.spanOf h) with
        | .empty => false
        | .range lo hi => decide (lo ≤ q.source ∧ q.source ≤ hi ∧ lo ≤ d ∧ d ≤ hi)
      let number := if 255 ≤ x.lastOrder then 1 else x.lastOrder + 1
      let drain := match s.currentStep r with | some st => st.drain | none => 0
      let old := s.spanOf h.other
      let widened := match h with | .a => Span.range 0 (max q.source d) | .b => Span.range (min q.source d) 31
      let narrowed := match h, old with
        | _, .empty => Span.empty
        | .a, .range lo _ => if 31 < max lo (max q.source d + s.span.guardGap + 1) then Span.empty
          else Span.range (max lo (max q.source d + s.span.guardGap + 1)) 31
        | .b, .range _ hi => if min q.source d < s.span.guardGap + 1 then Span.empty
          else Span.range 0 (min hi (min q.source d - s.span.guardGap - 1))
      let outside := match (s.hoist h.other).order, narrowed with
        | none, _ => false
        | some _, .empty => true
        | some o, .range lo hi => !decide (lo ≤ o.source ∧ o.source ≤ hi ∧ lo ≤ o.dest ∧ o.dest ≤ hi)
      let stage : Stage := if narrowed = old then .widening else if outside = true then .waiting else .shrinking
      let party := if stage = .widening then h else h.other
      let sequence := if 255 ≤ s.seqOf party then 1 else s.seqOf party + 1
      let t := s.giveRequest h k
      (reach = true → t =
        { s.setHoist h
            { x with
              st := .busy, lastOrder := number, timer := some x.timing.acceptTime
              suspended := decide (s.line.st = .halt)
              order := some { number := number, slot := k, source := q.source, drain := drain, dest := d, phase := .sent,
                              cancelOut := false, cancelCrossed := false } } with
          requests := s.requests.set k (some { q with st := .ordered h })
          link := s.link.send h.channel (.move number q.source drain d) }) ∧
      (reach = false →
        t = { s with requests := s.requests.set k (some { q with st := .bound h }), span := t.span, link := t.link } ∧
        t.span.guardGap = s.span.guardGap ∧ t.span.split = s.span.split ∧
        t.spanOf h = (if stage = .widening then widened else s.spanOf h) ∧
        t.spanOf h.other = (if stage = .shrinking then narrowed else old) ∧
        t.span.handover =
          { stage := stage, taker := h, bound := some k, widened := widened, narrowed := narrowed, old := old
            awaited := if stage = .waiting then none else some (party, sequence)
            timer := if stage = .waiting then none else some (s.hoist party).timing.spanAck
            suspended := decide (stage ≠ .waiting ∧ s.line.st = .halt), withdrawn := false } ∧
        t.link = (if stage = .waiting then s.link
          else s.link.send party.channel ((t.spanOf party).message sequence)) ∧
        t.seqOf party = (if stage = .waiting then s.seqOf party else sequence) ∧
        t.seqOf party.other = s.seqOf party.other))) ∧
  (∀ (s : State) (k : Nat) (r : Rack),
     (s.racks.get k = some r → s.createRequest k = State.chooseDestination
        { s with requests := s.requests.set k (some
          { source := r.station.getD 0, dest := none
            cls := match s.currentStep r with | some st => st.cls | none => .openEnded
            created := s.tick, st := .blocked, markA := none, markB := none }) } k) ∧
     ∃ l : List Nat, s.lookahead = l.foldl State.createRequest s ∧ l.Nodup ∧
       (∀ j : Nat, j ∈ l ↔ j < 24 ∧ s.requests.get j = none ∧
         ∃ u ∈ s.racks.get j, u.st = .immersed ∧ s.remainingTicks u ≤ s.dispatcher.lookahead) ∧
       ((∀ i < 24, ∀ u ∈ s.racks.get i, (u.seq - s.seqCounter).toInt.natAbs < 2 ^ 30 ∧
           ∀ j < 24, j ≠ i → ∀ w ∈ s.racks.get j, w.seq ≠ u.seq) →
         l.Pairwise (fun i j => ∀ u ∈ s.racks.get i, ∀ w ∈ s.racks.get j,
           s.remainingTicks u < s.remainingTicks w ∨
             (s.remainingTicks u = s.remainingTicks w ∧ 0 < (w.seq - u.seq).toInt))))

/-! ### Links -/

/-- START_BIT: in LISTEN the first of the other hoist channel, the last one received from, the cabinet and the order
station with a start bit and an empty slot is received, and the others with one are cut off; in another engine state
nothing is seen (11 R185, R186). The endings of a reception: a truncated frame is counted and the engine listens again;
a length error or a character error is counted and waits for the gap; a refused frame is counted and answered FRAME
REFUSED on its channel; each count stops at 65535, and outside a reception these events change nothing (11 R184, R187,
R190, R196; that a reception closes the listen window for good is log 47). -/
def Obligations.ReceptionsBeginAndEnd : Prop :=
  (∀ (s : State) (starts : BitVec 4) (c d : Nat), s.resetHeld = false → s.link.lastHoist ≤ 1 → d < 4 →
     (let seen := fun (x : Nat) => starts.getLsbD x = true ∧ s.link.slot x = none
      let other := 1 - s.link.lastHoist
      (s.link.engine ≠ .listen → exec (.startBit starts) s = .next s) ∧
      ((∀ x < 4, ¬seen x) → exec (.startBit starts) s = .next s) ∧
      (s.link.engine = .listen → c < 4 → seen c →
        (c = other ∨ (c = s.link.lastHoist ∧ ¬seen other) ∨ (c = 2 ∧ ¬seen 0 ∧ ¬seen 1) ∨
          (c = 3 ∧ ¬seen 0 ∧ ¬seen 1 ∧ ¬seen 2)) →
        ∃ t, exec (.startBit starts) s = .next t ∧
          (t.link.engine = .receiving c ∧ t.link.window = false ∧
           t.link.lastHoist = (if c < 2 then c else s.link.lastHoist) ∧
           t.link.channels.get d = (if d ≠ c ∧ seen d then
             { s.link.channels.get d with counts := { (s.link.channels.get d).counts with
                 cutOff := if 65535 ≤ (s.link.channels.get d).counts.cutOff then 65535
                   else (s.link.channels.get d).counts.cutOff + 1 } }
             else s.link.channels.get d) ∧
           { t with link := { t.link with
               engine := s.link.engine, window := s.link.window, lastHoist := s.link.lastHoist
               channels := s.link.channels } } = s)))) ∧
  (∀ (s : State) (c d : Nat) (length kind : Byte) (ch : Character), s.resetHeld = false → c < 4 →
     (let l := s.link
      let k := (l.channels.get c).counts
      let up := fun (n : Nat) => if 65535 ≤ n then 65535 else n + 1
      let put := fun (x : Counts) => l.channels.set c { l.channels.get c with counts := x }
      let bad := ((List.range 9).filter (fun i => ch.getLsbD (i + 1))).length % 2 = 0 ∨ ch.getLsbD 10 = false
      (l.engine = .receiving c → l.discardWait = none →
        exec .frameTruncated s = .next
          { s with link := { l with channels := put { k with truncated := up k.truncated }, engine := .listen } } ∧
        (30 < length.toNat → exec (.lengthError length) s = .next
          { s with link := { l with channels := put { k with lengthError := up k.lengthError }, discardWait := some c } }) ∧
        (bad → exec (.characterError ch) s = .next
          { s with link := { l with channels := put { k with charError := up k.charError }, discardWait := some c } }) ∧
        (c ≠ 3 → exec (.refusedFrame kind) s = .next (State.driveOutputs
          { s with
            link := Link.send { l with channels := put { k with refused := up k.refused }, engine := .listen } c
              (.frameRefused kind) })) ∧
        (c = 3 → l.slot 3 = none → l.held 3 + 3 ≤ 8 → exec (.refusedFrame kind) s = .next (State.driveOutputs
          { s with
            link := Link.push { l with channels := put { k with refused := up k.refused }, engine := .listen } 3
              (.frameRefused kind) })) ∧
        (c = 3 → l.slot 3 = none → 8 < l.held 3 + 3 → exec (.refusedFrame kind) s = .next (State.driveOutputs
          { s with
            link := Link.setSlot { l with channels := put { k with refused := up k.refused }, engine := .listen } 3
              (some (.refused kind)) }))) ∧
      (l.discardWait = some d →
        exec .discardWaitEnd s = .next { s with link := { l with engine := .listen, discardWait := none } } ∧
        exec .frameTruncated s = .next s) ∧
      (l.discardWait = none → exec .discardWaitEnd s = .next s) ∧
      ((∀ x, l.engine ≠ .receiving x) →
        exec .frameTruncated s = .next s ∧ exec (.lengthError length) s = .next s ∧
        exec (.characterError ch) s = .next s ∧ exec (.refusedFrame kind) s = .next s.driveOutputs)))

/-- FRAME_RECEIVED: a frame that reads as a report or request of its channel is counted good and runs exactly that
command; one that reads as none ends as a refused frame; a payload over 30 characters is a length error (11 R187,
R188, R190, R191; that the engine listens again before the command runs is log 39). -/
def Obligations.GoodFrameRunsItsCommand : Prop :=
  ∀ (s : State) (c : Nat) (kind : Byte) (payload : List Byte) (i : Instr), s.resetHeld = false → s.OutputsFollow →
    (let l := s.link
     let k := (l.channels.get c).counts
     (l.engine = .receiving c → l.discardWait = none → c < 4 → payload.length ≤ 30 →
       (decodeFrame c kind payload = some i → ∃ t, exec (.frameReceived kind payload) s = .next t ∧
         exec i { s with link := { l with
           engine := .listen
           channels := l.channels.set c { l.channels.get c with
             counts := { k with good := if 65535 ≤ k.good then 65535 else k.good + 1 } } } } = .next t) ∧
       (decodeFrame c kind payload = none → ∃ t, exec (.frameReceived kind payload) s = .next t ∧
         exec (.refusedFrame kind) s = .next t)) ∧
     (l.engine = .receiving c → l.discardWait = none → c < 4 → 30 < payload.length →
       exec (.frameReceived kind payload) s = .next
         { s with link := { l with
             discardWait := some c
             channels := l.channels.set c { l.channels.get c with
               counts := { k with lengthError := if 65535 ≤ k.lengthError then 65535 else k.lengthError + 1 } } } }) ∧
     ((∀ x, l.engine ≠ .receiving x) → exec (.frameReceived kind payload) s = .next s))

/-- SEND_BEGIN and LISTEN_WINDOW_END: with no start bit seen, the older of two hoist frames is sent, then a cabinet
frame, then an order-station frame; a start bit seen first is received instead, exactly as START_BIT receives it, and
nothing is sent (11 R186, R193; the commands' instants are log 7, the age of a frame is its stamp by log 27).
FRAME_SENT, MISSING_ACKNOWLEDGE and NO_CLOCKING end the send: the frame leaves its queue, the event's count rises, and
with it the lost sends of a dropped hoist message; the engine listens with its listen window; a marked bath's OWED
takes a place freed on channel 2; a waiting request is taken and a waiting refused frame answered where three places
are free (04 R77, 06 R110, 11 R190, R191, R193, R194, R196; the lost sends are log 40, and that a reception begun in
the listen window closes it for good is log 47). -/
def Obligations.SendsBeginAndEnd : Prop :=
  (∀ (s : State) (starts : BitVec 4) (c : Nat), s.resetHeld = false → s.link.engine = .listen →
     (let l := s.link
      let seen := fun (x : Nat) => starts.getLsbD x = true ∧ l.slot x = none
      let oldest := fun (x : Nat) => (l.channels.get x).queue.head?.map (·.stamp)
      let next := (c = 0 ∧ ∃ a ∈ oldest 0, ∀ b ∈ oldest 1, a ≤ b) ∨ (c = 1 ∧ ∃ b ∈ oldest 1, ∀ a ∈ oldest 0, b < a) ∨
        (c = 2 ∧ oldest 0 = none ∧ oldest 1 = none ∧ oldest 2 ≠ none) ∨
        (c = 3 ∧ oldest 0 = none ∧ oldest 1 = none ∧ oldest 2 = none ∧ oldest 3 ≠ none)
      let empty := ∀ x < 4, oldest x = none
      (l.window = true → exec (.sendBegin starts) s = .next s) ∧
      (l.window = false → empty → exec (.sendBegin starts) s = .next s) ∧
      (l.window = false → (∀ x < 4, ¬seen x) → next →
        exec (.sendBegin starts) s = .next { s with link := { l with engine := .sending c } }) ∧
      (l.window = false → ¬empty → (∃ x : Nat, x < 4 ∧ seen x) → l.lastHoist ≤ 1 →
        ∃ t, exec (.sendBegin starts) s = .next t ∧ exec (.startBit starts) s = .next t) ∧
      (l.window = false → exec (.listenWindowEnd starts) s = .next s) ∧
      (l.window = true → (∃ x : Nat, x < 4 ∧ seen x) → l.lastHoist ≤ 1 →
        ∃ t, exec (.listenWindowEnd starts) s = .next t ∧ exec (.startBit starts) s = .next t) ∧
      (l.window = true → (∀ x < 4, ¬seen x) → empty →
        exec (.listenWindowEnd starts) s = .next { s with link := { l with window := false } }) ∧
      (l.window = true → (∀ x < 4, ¬seen x) → next →
        exec (.listenWindowEnd starts) s = .next { s with link := { l with window := false, engine := .sending c } }))) ∧
  (∀ (s : State) (c b : Nat) (i : Instr) (kind : Byte), s.resetHeld = false → c < 4 →
     (let l := s.link
      let k := (l.channels.get c).counts
      let up := fun (n : Nat) => if 65535 ≤ n then 65535 else n + 1
      let left := fun (x : Counts) => ({ s with link := { l with
        channels := l.channels.set c { l.channels.get c with queue := (l.channels.get c).queue.drop 1, counts := x }
        engine := .listen, window := true } } : State)
      let message := match (l.channels.get c).queue.head?.map (·.msg) with
        | none => false
        | some (.frameRefused _) => false
        | some _ => decide (c < 2)
      let lost := if message = true then up k.lost else k.lost
      let runs := [(Instr.frameSent, { k with sent := up k.sent }),
        (Instr.missingAcknowledge, { k with missingAck := up k.missingAck, lost := lost }),
        (Instr.noClocking, { k with noClocking := up k.noClocking, lost := lost })]
      ∀ p ∈ runs,
        ((∀ x, l.engine ≠ .sending x) → exec p.1 s = .next s.driveOutputs) ∧
        (l.engine = .sending c →
          (c < 2 → exec p.1 s = .next (left p.2).driveOutputs) ∧
          (c = 2 → (∀ b < 8, (s.baths.get b).owedUnsent = false) → exec p.1 s = .next (left p.2).driveOutputs) ∧
          (c = 2 → b < 8 → (s.baths.get b).owedUnsent = true → (∀ a < b, (s.baths.get a).owedUnsent = false) →
            exec p.1 s = .next (State.driveOutputs { left p.2 with
              baths := s.baths.set b { s.baths.get b with owedUnsent := false }
              link := (left p.2).link.push 2 (.owed b (s.baths.get b).owed) })) ∧
          (c = 3 → l.slot 3 = none ∨ 9 < l.held 3 + 3 → exec p.1 s = .next (left p.2).driveOutputs) ∧
          (c = 3 → l.slot 3 = some (.refused kind) → l.held 3 + 3 ≤ 9 → exec p.1 s = .next (State.driveOutputs
            { left p.2 with link := ((left p.2).link.push 3 (.frameRefused kind)).setSlot 3 none })) ∧
          (c = 3 → l.slot 3 = some (.good i) → i.isRequest = true → l.held 3 + 3 ≤ 9 → s.OutputsFollow →
            ∃ t, exec p.1 s = .next t ∧ exec i { left p.2 with link := (left p.2).link.setSlot 3 none } = .next t))))

/-- Every well-formed report and request has a frame, decoding gives it back from that frame, and no such frame is
longer than a frame's 30 payload characters (11 R188 and the layout tables; two codes are log 22). The bytes of every
frame the part sends, kind and length first, each number least significant character first: the messages to hoists and
cabinet, FRAME REFUSED, the RACK, BATH, STATION, LINE and margin notices, and the parts of a reply; a reply part of at
most 27 characters of contents makes a payload of at most 30, as does every other frame (11 R187, R188, R189, R190,
R195, the layout tables, 02 R27, 04 R74, 05 R104, 09 R170, 10 R175; the codes of STATION events are log 22, that a
bath's temperature is a signed field log 44). -/
def Obligations.FramesDecodeBack : Prop :=
  (∀ (i : Instr) (c : Nat) (kind : Byte) (payload : List Byte), i.wellFormed = true →
    (i.isReport = true ∨ i.isRequest = true → (encodeFrame i).isSome = true) ∧
    (encodeFrame i = some (c, kind, payload) →
      decodeFrame c kind payload = some i ∧ payload.length ≤ 30 ∧
        (c < 2 ∨ c = 2 ↔ i.isReport = true) ∧ (c = 3 ↔ i.isRequest = true))) ∧
  (∀ (m : OutMsg), m.frame.length = m.payload.length + 2 ∧
     ((∀ kind code part parts contents, m = .reply kind code part parts contents → contents.length ≤ 27) →
       m.payload.length ≤ 30)) ∧
  (∀ (n source drain dest low high sequence b e : Nat) (k : Byte),
     (let c := fun (x : Nat) => (BitVec.ofNat 8 x : Byte)
      (OutMsg.move n source drain dest).frame = [0x10, 4, c n, c source, c drain, c dest] ∧
      (OutMsg.lift n).frame = [0x11, 1, c n] ∧ (OutMsg.cancel n).frame = [0x12, 1, c n] ∧
      (OutMsg.span low high sequence).frame = [0x13, 3, c low, c high, c sequence] ∧
      OutMsg.halt.frame = [0x14, 0] ∧ OutMsg.resume.frame = [0x15, 0] ∧
      (OutMsg.owed b e).frame = [0x38, 3, c b, c e, c (e / 256)] ∧
      (OutMsg.frameRefused k).frame = [0x7F, 2, k, 2])) ∧
  (∀ (id slot step n load place acc overrun tolerance : Nat) (seq : Sequence) (st : RackState) (station : Option Nat)
     (flags : List StepFlag) (yes : Bool) (reason : RemovedReason),
     (let c := fun (x : Nat) => (BitVec.ofNat 8 x : Byte)
      let w := fun (x : Nat) => [c x, c (x / 256)]
      let d := fun (x : Nat) => [c x, c (x / 256), c (x / 65536), c (x / 16777216)]
      let all : List StepFlag := [.overtime, .seatUnconfirmed, .unexpectedRelease, .earlyLift, .staleTemperature,
        .factorClamped, .agitationLost, .manualPlaced]
      let set := ((List.range 8).map (fun i => if all[i]?.any (fun f => decide (f ∈ flags)) = true then 2 ^ i else 0)).sum
      let state := match st with
        | .atLoad => 0 | .immersed => 1 | .due => 2 | .carried => 3 | .atUnload => 4 | .stranded => 5
      let why := match reason with | .remove => 0 | .withdraw => 1 | .loadReleased => 2 | .cleared => 3
      let head := fun (length event : Nat) =>
        [0x78, c length, c event] ++ w id ++ [c slot, c state, c step, (match station with | some x => c x | none => 0xFF)]
      (OutMsg.rack (.admitted seq load) id slot st step station).frame = head 12 0 ++ d seq.toNat ++ [c load] ∧
      (OutMsg.rack (.stepEnded n place acc overrun flags) id slot st step station).frame =
        head 18 1 ++ [c n, c place] ++ d acc ++ d overrun ++ [c set] ∧
      (OutMsg.rack (.overtime overrun tolerance) id slot st step station).frame =
        head 13 2 ++ d overrun ++ w tolerance ∧
      (OutMsg.rack (.stranded n yes) id slot st step station).frame = head 9 3 ++ [c n, if yes = true then 1 else 0] ∧
      (OutMsg.rack (.done yes) id slot st step station).frame = head 8 4 ++ [if yes = true then 1 else 0] ∧
      (OutMsg.rack (.removed reason) id slot st step station).frame = head 8 5 ++ [c why])) ∧
  (∀ (b stale owed n id slot kind part parts : Nat) (temp : Option Int) (rejected margin : Int) (most : Option Int)
     (status before : TempStatus) (probe : Bool) (event : StationEvent) (occ : Occupancy) (cause : Cause)
     (st : LineState) (causes : List Cause) (code : ReplyCode) (contents : List Byte),
     (let c := fun (x : Nat) => (BitVec.ofNat 8 x : Byte)
      let w := fun (x : Nat) => [c x, c (x / 256)]
      let d := fun (x : Nat) => [c x, c (x / 256), c (x / 65536), c (x / 16777216)]
      let rank := fun (x : TempStatus) => match x with | .none => 0 | .fresh => 1 | .stale => 2 | .lapsed => 3
      let head := fun (length event : Nat) =>
        [0x79, c length, c event, c b] ++ w (BitVec.ofInt 16 (temp.getD 32767)).toNat ++
          [c (rank status), if probe = true then 0 else 1] ++ w stale ++ w owed
      let seat := match event with | .foreign => 0 | .intruded => 1 | .empty => 2
      let holder := match occ with
        | .empty => 0 | .reservedRack _ => 1 | .reservedEntry _ => 1 | .occupied _ => 2 | .foreign => 3
      let all : List Cause := [.operatorHold, .pauseInput, .gasLow, .tempStale, .hoistAFault, .hoistBFault,
        .handoverTimeout, .outputFault, .operatorHalt, .estop, .spanViolation]
      let set := ((List.range 11).map (fun i => if all[i]?.any (fun x => decide (x ∈ causes)) = true then 2 ^ i else 0)).sum
      let line := match st with | .standby => 0 | .run => 1 | .hold => 2 | .halt => 3
      let answer := match code with
        | .ok => 0 | .queued => 1 | .badFrame => 2 | .badValue => 3 | .wrongState => 4 | .inUse => 5 | .duplicate => 6
        | .noRecipe => 7 | .notLoaded => 8 | .busy => 9 | .full => 10 | .unknown => 11 | .stillPresent => 12
        | .inFlight => 13
      (OutMsg.bath (.probeFault rejected) b temp status probe stale owed).frame =
        head 12 0 ++ w (BitVec.ofInt 16 rejected).toNat ∧
      (OutMsg.bath .stale b temp status probe stale owed).frame = head 10 1 ∧
      (OutMsg.bath .lapsed b temp status probe stale owed).frame = head 10 2 ∧
      (OutMsg.bath (.restored before) b temp status probe stale owed).frame = head 11 3 ++ [c (rank before)] ∧
      (OutMsg.station n event occ).frame = [0x7A, 3, c n, c seat, c holder] ∧
      (OutMsg.line cause st causes).frame = [0x7B, 4, c (all.idxOf cause), c line] ++ w set ∧
      (OutMsg.marginLow margin id slot).frame = [0x7C, 7] ++ d (BitVec.ofInt 32 margin).toNat ++ w id ++ [c slot] ∧
      (OutMsg.marginClear most).frame = [0x7D, 4] ++ d (BitVec.ofInt 32 (most.getD 2147483647)).toNat ∧
      (OutMsg.reply kind code part parts contents).frame =
        [0x70, c (3 + contents.length), c kind, c answer, c (part + 16 * parts)] ++ contents))

end
end

