-- ==== Sys2Proof/Laws/Table.lean ====
section
/-! SUPPORT. Reading a table after each way of writing it. -/

namespace Sys2Proof.Machine

variable {α : Type} {n : Nat}

theorem Table.ext {t u : Table α n} (h : t.toList = u.toList) : t = u := by
  cases t; cases u; cases h; rfl

@[simp] theorem Table.toList_set (t : Table α n) (i : Nat) (a : α) : (t.set i a).toList = t.toList.set i a := rfl

@[simp] theorem Table.toList_map (t : Table α n) (f : α → α) : (t.map f).toList = t.toList.map f := rfl

theorem Table.get_set_self [Inhabited α] (t : Table α n) {i : Nat} (h : i < n) (a : α) : (t.set i a).get i = a := by
  have hl : i < t.toList.length := by rw [t.size]; exact h
  simp [Table.get, hl]

@[simp] theorem Table.get_set_ne [Inhabited α] (t : Table α n) {i j : Nat} (h : i ≠ j) (a : α) :
    (t.set i a).get j = t.get j := by
  simp [Table.get, h]

/-- Writing outside the table changes nothing. -/
theorem Table.set_outside (t : Table α n) {i : Nat} (h : n ≤ i) (a : α) : t.set i a = t := by
  apply Table.ext
  exact List.set_eq_of_length_le (by rw [t.size]; exact h)

theorem Table.get_set [Inhabited α] (t : Table α n) (i j : Nat) (a : α) :
    (t.set i a).get j = if i = j ∧ j < n then a else t.get j := by
  by_cases hij : i = j
  · subst hij
    by_cases hi : i < n
    · simp [t.get_set_self hi, hi]
    · rw [t.set_outside (by omega)]; simp [hi]
  · simp [hij]

/-- Reading outside the table gives the default record. -/
theorem Table.get_outside [Inhabited α] (t : Table α n) {i : Nat} (h : n ≤ i) : t.get i = default := by
  have hl : t.toList.length ≤ i := by rw [t.size]; exact h
  simp [Table.get, hl]

@[simp] theorem Table.set_set (t : Table α n) (i : Nat) (a b : α) : (t.set i a).set i b = t.set i b :=
  Table.ext (by simp)

theorem Table.set_get_self [Inhabited α] (t : Table α n) (i : Nat) : t.set i (t.get i) = t := by
  by_cases h : i < n
  · apply Table.ext
    have hl : i < t.toList.length := by rw [t.size]; exact h
    simp [Table.get, hl]
  · exact t.set_outside (by omega) _

theorem Table.set_comm (t : Table α n) {i j : Nat} (h : i ≠ j) (a b : α) :
    (t.set i a).set j b = (t.set j b).set i a :=
  Table.ext (by simp [List.set_comm _ _ h])

theorem Table.get_map [Inhabited α] (t : Table α n) (f : α → α) {i : Nat} (h : i < n) :
    (t.map f).get i = f (t.get i) := by
  have hl : i < t.toList.length := by rw [t.size]; exact h
  simp [Table.get, hl]

theorem Table.get_mapIdx [Inhabited α] (t : Table α n) (f : Nat → α → α) {i : Nat} (h : i < n) :
    (t.mapIdx f).get i = f i (t.get i) := by
  have hl : i < t.toList.length := by rw [t.size]; exact h
  simp [Table.get, Table.mapIdx, hl]

theorem Table.get_replicate [Inhabited α] (a : α) {i : Nat} (h : i < n) : (Table.replicate n a).get i = a := by
  simp [Table.get, Table.replicate, h]

/-- Two tables that agree at every number are the same table. -/
theorem Table.ext_get [Inhabited α] {t u : Table α n} (h : ∀ i < n, t.get i = u.get i) : t = u := by
  apply Table.ext
  apply List.ext_getElem
  · rw [t.size, u.size]
  · intro i h1 h2
    have := h i (by rw [← t.size]; exact h1)
    simpa [Table.get, h1, h2] using this

/-- A record that f leaves alone: the table mapped is the table. -/
theorem Table.mapIdx_id [Inhabited α] (t : Table α n) (f : Nat → α → α) (h : ∀ i < n, f i (t.get i) = t.get i) :
    t.mapIdx f = t :=
  Table.ext_get (fun i hi => by rw [t.get_mapIdx f hi, h i hi])

theorem Table.mem_indices [Inhabited α] (t : Table α n) (p : α → Bool) (i : Nat) :
    i ∈ t.indices p ↔ i < n ∧ p (t.get i) = true := by
  simp only [Table.indices, List.mem_map, List.mem_filter, Prod.exists, exists_eq_right, List.mem_zipIdx_iff_getElem?]
  constructor
  · rintro ⟨a, h, hp⟩
    have hi : i < t.toList.length := (List.getElem?_eq_some_iff.mp h).1
    refine ⟨by rw [← t.size]; exact hi, ?_⟩
    simpa [Table.get, h] using hp
  · rintro ⟨hi, hp⟩
    have hl : i < t.toList.length := by rw [t.size]; exact hi
    exact ⟨t.toList[i], by simp [hl], by simpa [Table.get, hl] using hp⟩

end Sys2Proof.Machine
end

