-- ==== Sys2Proof/Laws/State.lean ====
section
/-! SUPPORT. What each named update of the state leaves alone and what it writes: one small lemma for each field of
each update. -/

namespace Sys2Proof.Machine

variable (s : State)

/-! ### setStation -/

@[simp] theorem State.setStation_resetHeld (n : Nat) (x : Station) : (s.setStation n x).resetHeld = s.resetHeld := rfl
@[simp] theorem State.setStation_tick (n : Nat) (x : Station) : (s.setStation n x).tick = s.tick := rfl
@[simp] theorem State.setStation_marks (n : Nat) (x : Station) : (s.setStation n x).marks = s.marks := rfl
@[simp] theorem State.setStation_windows (n : Nat) (x : Station) : (s.setStation n x).windows = s.windows := rfl
@[simp] theorem State.setStation_baths (n : Nat) (x : Station) : (s.setStation n x).baths = s.baths := rfl
@[simp] theorem State.setStation_recipes (n : Nat) (x : Station) : (s.setStation n x).recipes = s.recipes := rfl
@[simp] theorem State.setStation_racks (n : Nat) (x : Station) : (s.setStation n x).racks = s.racks := rfl
@[simp] theorem State.setStation_seqCounter (n : Nat) (x : Station) : (s.setStation n x).seqCounter = s.seqCounter := rfl
@[simp] theorem State.setStation_queue (n : Nat) (x : Station) : (s.setStation n x).queue = s.queue := rfl
@[simp] theorem State.setStation_requests (n : Nat) (x : Station) : (s.setStation n x).requests = s.requests := rfl
@[simp] theorem State.setStation_dispatcher (n : Nat) (x : Station) : (s.setStation n x).dispatcher = s.dispatcher := rfl
@[simp] theorem State.setStation_hoistA (n : Nat) (x : Station) : (s.setStation n x).hoistA = s.hoistA := rfl
@[simp] theorem State.setStation_hoistB (n : Nat) (x : Station) : (s.setStation n x).hoistB = s.hoistB := rfl
@[simp] theorem State.setStation_span (n : Nat) (x : Station) : (s.setStation n x).span = s.span := rfl
@[simp] theorem State.setStation_gens (n : Nat) (x : Station) : (s.setStation n x).gens = s.gens := rfl
@[simp] theorem State.setStation_line (n : Nat) (x : Station) : (s.setStation n x).line = s.line := rfl
@[simp] theorem State.setStation_io (n : Nat) (x : Station) : (s.setStation n x).io = s.io := rfl
@[simp] theorem State.setStation_link (n : Nat) (x : Station) : (s.setStation n x).link = s.link := rfl
@[simp] theorem State.setStation_pending (n : Nat) (x : Station) : (s.setStation n x).pending = s.pending := rfl

/-! ### setOcc -/

@[simp] theorem State.setOcc_resetHeld (n : Nat) (o : Occupancy) : (s.setOcc n o).resetHeld = s.resetHeld := rfl
@[simp] theorem State.setOcc_tick (n : Nat) (o : Occupancy) : (s.setOcc n o).tick = s.tick := rfl
@[simp] theorem State.setOcc_marks (n : Nat) (o : Occupancy) : (s.setOcc n o).marks = s.marks := rfl
@[simp] theorem State.setOcc_windows (n : Nat) (o : Occupancy) : (s.setOcc n o).windows = s.windows := rfl
@[simp] theorem State.setOcc_baths (n : Nat) (o : Occupancy) : (s.setOcc n o).baths = s.baths := rfl
@[simp] theorem State.setOcc_recipes (n : Nat) (o : Occupancy) : (s.setOcc n o).recipes = s.recipes := rfl
@[simp] theorem State.setOcc_racks (n : Nat) (o : Occupancy) : (s.setOcc n o).racks = s.racks := rfl
@[simp] theorem State.setOcc_seqCounter (n : Nat) (o : Occupancy) : (s.setOcc n o).seqCounter = s.seqCounter := rfl
@[simp] theorem State.setOcc_queue (n : Nat) (o : Occupancy) : (s.setOcc n o).queue = s.queue := rfl
@[simp] theorem State.setOcc_requests (n : Nat) (o : Occupancy) : (s.setOcc n o).requests = s.requests := rfl
@[simp] theorem State.setOcc_dispatcher (n : Nat) (o : Occupancy) : (s.setOcc n o).dispatcher = s.dispatcher := rfl
@[simp] theorem State.setOcc_hoistA (n : Nat) (o : Occupancy) : (s.setOcc n o).hoistA = s.hoistA := rfl
@[simp] theorem State.setOcc_hoistB (n : Nat) (o : Occupancy) : (s.setOcc n o).hoistB = s.hoistB := rfl
@[simp] theorem State.setOcc_span (n : Nat) (o : Occupancy) : (s.setOcc n o).span = s.span := rfl
@[simp] theorem State.setOcc_gens (n : Nat) (o : Occupancy) : (s.setOcc n o).gens = s.gens := rfl
@[simp] theorem State.setOcc_line (n : Nat) (o : Occupancy) : (s.setOcc n o).line = s.line := rfl
@[simp] theorem State.setOcc_io (n : Nat) (o : Occupancy) : (s.setOcc n o).io = s.io := rfl
@[simp] theorem State.setOcc_link (n : Nat) (o : Occupancy) : (s.setOcc n o).link = s.link := rfl
@[simp] theorem State.setOcc_pending (n : Nat) (o : Occupancy) : (s.setOcc n o).pending = s.pending := rfl

/-! ### setBath -/

@[simp] theorem State.setBath_resetHeld (b : Nat) (x : Bath) : (s.setBath b x).resetHeld = s.resetHeld := rfl
@[simp] theorem State.setBath_tick (b : Nat) (x : Bath) : (s.setBath b x).tick = s.tick := rfl
@[simp] theorem State.setBath_stations (b : Nat) (x : Bath) : (s.setBath b x).stations = s.stations := rfl
@[simp] theorem State.setBath_marks (b : Nat) (x : Bath) : (s.setBath b x).marks = s.marks := rfl
@[simp] theorem State.setBath_windows (b : Nat) (x : Bath) : (s.setBath b x).windows = s.windows := rfl
@[simp] theorem State.setBath_recipes (b : Nat) (x : Bath) : (s.setBath b x).recipes = s.recipes := rfl
@[simp] theorem State.setBath_racks (b : Nat) (x : Bath) : (s.setBath b x).racks = s.racks := rfl
@[simp] theorem State.setBath_seqCounter (b : Nat) (x : Bath) : (s.setBath b x).seqCounter = s.seqCounter := rfl
@[simp] theorem State.setBath_queue (b : Nat) (x : Bath) : (s.setBath b x).queue = s.queue := rfl
@[simp] theorem State.setBath_requests (b : Nat) (x : Bath) : (s.setBath b x).requests = s.requests := rfl
@[simp] theorem State.setBath_dispatcher (b : Nat) (x : Bath) : (s.setBath b x).dispatcher = s.dispatcher := rfl
@[simp] theorem State.setBath_hoistA (b : Nat) (x : Bath) : (s.setBath b x).hoistA = s.hoistA := rfl
@[simp] theorem State.setBath_hoistB (b : Nat) (x : Bath) : (s.setBath b x).hoistB = s.hoistB := rfl
@[simp] theorem State.setBath_span (b : Nat) (x : Bath) : (s.setBath b x).span = s.span := rfl
@[simp] theorem State.setBath_gens (b : Nat) (x : Bath) : (s.setBath b x).gens = s.gens := rfl
@[simp] theorem State.setBath_line (b : Nat) (x : Bath) : (s.setBath b x).line = s.line := rfl
@[simp] theorem State.setBath_io (b : Nat) (x : Bath) : (s.setBath b x).io = s.io := rfl
@[simp] theorem State.setBath_link (b : Nat) (x : Bath) : (s.setBath b x).link = s.link := rfl
@[simp] theorem State.setBath_pending (b : Nat) (x : Bath) : (s.setBath b x).pending = s.pending := rfl

/-! ### computePending -/

@[simp] theorem State.computePending_resetHeld (b : Nat) : (s.computePending b).resetHeld = s.resetHeld := rfl
@[simp] theorem State.computePending_tick (b : Nat) : (s.computePending b).tick = s.tick := rfl
@[simp] theorem State.computePending_stations (b : Nat) : (s.computePending b).stations = s.stations := rfl
@[simp] theorem State.computePending_marks (b : Nat) : (s.computePending b).marks = s.marks := rfl
@[simp] theorem State.computePending_windows (b : Nat) : (s.computePending b).windows = s.windows := rfl
@[simp] theorem State.computePending_recipes (b : Nat) : (s.computePending b).recipes = s.recipes := rfl
@[simp] theorem State.computePending_racks (b : Nat) : (s.computePending b).racks = s.racks := rfl
@[simp] theorem State.computePending_seqCounter (b : Nat) : (s.computePending b).seqCounter = s.seqCounter := rfl
@[simp] theorem State.computePending_queue (b : Nat) : (s.computePending b).queue = s.queue := rfl
@[simp] theorem State.computePending_requests (b : Nat) : (s.computePending b).requests = s.requests := rfl
@[simp] theorem State.computePending_dispatcher (b : Nat) : (s.computePending b).dispatcher = s.dispatcher := rfl
@[simp] theorem State.computePending_hoistA (b : Nat) : (s.computePending b).hoistA = s.hoistA := rfl
@[simp] theorem State.computePending_hoistB (b : Nat) : (s.computePending b).hoistB = s.hoistB := rfl
@[simp] theorem State.computePending_span (b : Nat) : (s.computePending b).span = s.span := rfl
@[simp] theorem State.computePending_gens (b : Nat) : (s.computePending b).gens = s.gens := rfl
@[simp] theorem State.computePending_line (b : Nat) : (s.computePending b).line = s.line := rfl
@[simp] theorem State.computePending_io (b : Nat) : (s.computePending b).io = s.io := rfl
@[simp] theorem State.computePending_link (b : Nat) : (s.computePending b).link = s.link := rfl
@[simp] theorem State.computePending_pending (b : Nat) : (s.computePending b).pending = s.pending := rfl

/-! ### setRecipe -/

@[simp] theorem State.setRecipe_resetHeld (r : Nat) (x : Recipe) : (s.setRecipe r x).resetHeld = s.resetHeld := rfl
@[simp] theorem State.setRecipe_tick (r : Nat) (x : Recipe) : (s.setRecipe r x).tick = s.tick := rfl
@[simp] theorem State.setRecipe_stations (r : Nat) (x : Recipe) : (s.setRecipe r x).stations = s.stations := rfl
@[simp] theorem State.setRecipe_marks (r : Nat) (x : Recipe) : (s.setRecipe r x).marks = s.marks := rfl
@[simp] theorem State.setRecipe_windows (r : Nat) (x : Recipe) : (s.setRecipe r x).windows = s.windows := rfl
@[simp] theorem State.setRecipe_baths (r : Nat) (x : Recipe) : (s.setRecipe r x).baths = s.baths := rfl
@[simp] theorem State.setRecipe_racks (r : Nat) (x : Recipe) : (s.setRecipe r x).racks = s.racks := rfl
@[simp] theorem State.setRecipe_seqCounter (r : Nat) (x : Recipe) : (s.setRecipe r x).seqCounter = s.seqCounter := rfl
@[simp] theorem State.setRecipe_queue (r : Nat) (x : Recipe) : (s.setRecipe r x).queue = s.queue := rfl
@[simp] theorem State.setRecipe_requests (r : Nat) (x : Recipe) : (s.setRecipe r x).requests = s.requests := rfl
@[simp] theorem State.setRecipe_dispatcher (r : Nat) (x : Recipe) : (s.setRecipe r x).dispatcher = s.dispatcher := rfl
@[simp] theorem State.setRecipe_hoistA (r : Nat) (x : Recipe) : (s.setRecipe r x).hoistA = s.hoistA := rfl
@[simp] theorem State.setRecipe_hoistB (r : Nat) (x : Recipe) : (s.setRecipe r x).hoistB = s.hoistB := rfl
@[simp] theorem State.setRecipe_span (r : Nat) (x : Recipe) : (s.setRecipe r x).span = s.span := rfl
@[simp] theorem State.setRecipe_gens (r : Nat) (x : Recipe) : (s.setRecipe r x).gens = s.gens := rfl
@[simp] theorem State.setRecipe_line (r : Nat) (x : Recipe) : (s.setRecipe r x).line = s.line := rfl
@[simp] theorem State.setRecipe_io (r : Nat) (x : Recipe) : (s.setRecipe r x).io = s.io := rfl
@[simp] theorem State.setRecipe_link (r : Nat) (x : Recipe) : (s.setRecipe r x).link = s.link := rfl
@[simp] theorem State.setRecipe_pending (r : Nat) (x : Recipe) : (s.setRecipe r x).pending = s.pending := rfl

/-! ### raiseRefs -/

@[simp] theorem State.raiseRefs_resetHeld (r : Nat) : (s.raiseRefs r).resetHeld = s.resetHeld := rfl
@[simp] theorem State.raiseRefs_tick (r : Nat) : (s.raiseRefs r).tick = s.tick := rfl
@[simp] theorem State.raiseRefs_stations (r : Nat) : (s.raiseRefs r).stations = s.stations := rfl
@[simp] theorem State.raiseRefs_marks (r : Nat) : (s.raiseRefs r).marks = s.marks := rfl
@[simp] theorem State.raiseRefs_windows (r : Nat) : (s.raiseRefs r).windows = s.windows := rfl
@[simp] theorem State.raiseRefs_baths (r : Nat) : (s.raiseRefs r).baths = s.baths := rfl
@[simp] theorem State.raiseRefs_racks (r : Nat) : (s.raiseRefs r).racks = s.racks := rfl
@[simp] theorem State.raiseRefs_seqCounter (r : Nat) : (s.raiseRefs r).seqCounter = s.seqCounter := rfl
@[simp] theorem State.raiseRefs_queue (r : Nat) : (s.raiseRefs r).queue = s.queue := rfl
@[simp] theorem State.raiseRefs_requests (r : Nat) : (s.raiseRefs r).requests = s.requests := rfl
@[simp] theorem State.raiseRefs_dispatcher (r : Nat) : (s.raiseRefs r).dispatcher = s.dispatcher := rfl
@[simp] theorem State.raiseRefs_hoistA (r : Nat) : (s.raiseRefs r).hoistA = s.hoistA := rfl
@[simp] theorem State.raiseRefs_hoistB (r : Nat) : (s.raiseRefs r).hoistB = s.hoistB := rfl
@[simp] theorem State.raiseRefs_span (r : Nat) : (s.raiseRefs r).span = s.span := rfl
@[simp] theorem State.raiseRefs_gens (r : Nat) : (s.raiseRefs r).gens = s.gens := rfl
@[simp] theorem State.raiseRefs_line (r : Nat) : (s.raiseRefs r).line = s.line := rfl
@[simp] theorem State.raiseRefs_io (r : Nat) : (s.raiseRefs r).io = s.io := rfl
@[simp] theorem State.raiseRefs_link (r : Nat) : (s.raiseRefs r).link = s.link := rfl
@[simp] theorem State.raiseRefs_pending (r : Nat) : (s.raiseRefs r).pending = s.pending := rfl

/-! ### lowerRefs -/

@[simp] theorem State.lowerRefs_resetHeld (r : Nat) : (s.lowerRefs r).resetHeld = s.resetHeld := rfl
@[simp] theorem State.lowerRefs_tick (r : Nat) : (s.lowerRefs r).tick = s.tick := rfl
@[simp] theorem State.lowerRefs_stations (r : Nat) : (s.lowerRefs r).stations = s.stations := rfl
@[simp] theorem State.lowerRefs_marks (r : Nat) : (s.lowerRefs r).marks = s.marks := rfl
@[simp] theorem State.lowerRefs_windows (r : Nat) : (s.lowerRefs r).windows = s.windows := rfl
@[simp] theorem State.lowerRefs_baths (r : Nat) : (s.lowerRefs r).baths = s.baths := rfl
@[simp] theorem State.lowerRefs_racks (r : Nat) : (s.lowerRefs r).racks = s.racks := rfl
@[simp] theorem State.lowerRefs_seqCounter (r : Nat) : (s.lowerRefs r).seqCounter = s.seqCounter := rfl
@[simp] theorem State.lowerRefs_queue (r : Nat) : (s.lowerRefs r).queue = s.queue := rfl
@[simp] theorem State.lowerRefs_requests (r : Nat) : (s.lowerRefs r).requests = s.requests := rfl
@[simp] theorem State.lowerRefs_dispatcher (r : Nat) : (s.lowerRefs r).dispatcher = s.dispatcher := rfl
@[simp] theorem State.lowerRefs_hoistA (r : Nat) : (s.lowerRefs r).hoistA = s.hoistA := rfl
@[simp] theorem State.lowerRefs_hoistB (r : Nat) : (s.lowerRefs r).hoistB = s.hoistB := rfl
@[simp] theorem State.lowerRefs_span (r : Nat) : (s.lowerRefs r).span = s.span := rfl
@[simp] theorem State.lowerRefs_gens (r : Nat) : (s.lowerRefs r).gens = s.gens := rfl
@[simp] theorem State.lowerRefs_line (r : Nat) : (s.lowerRefs r).line = s.line := rfl
@[simp] theorem State.lowerRefs_io (r : Nat) : (s.lowerRefs r).io = s.io := rfl
@[simp] theorem State.lowerRefs_link (r : Nat) : (s.lowerRefs r).link = s.link := rfl
@[simp] theorem State.lowerRefs_pending (r : Nat) : (s.lowerRefs r).pending = s.pending := rfl

/-! ### setRack -/

@[simp] theorem State.setRack_resetHeld (k : Nat) (x : Option Rack) : (s.setRack k x).resetHeld = s.resetHeld := rfl
@[simp] theorem State.setRack_tick (k : Nat) (x : Option Rack) : (s.setRack k x).tick = s.tick := rfl
@[simp] theorem State.setRack_stations (k : Nat) (x : Option Rack) : (s.setRack k x).stations = s.stations := rfl
@[simp] theorem State.setRack_marks (k : Nat) (x : Option Rack) : (s.setRack k x).marks = s.marks := rfl
@[simp] theorem State.setRack_windows (k : Nat) (x : Option Rack) : (s.setRack k x).windows = s.windows := rfl
@[simp] theorem State.setRack_baths (k : Nat) (x : Option Rack) : (s.setRack k x).baths = s.baths := rfl
@[simp] theorem State.setRack_recipes (k : Nat) (x : Option Rack) : (s.setRack k x).recipes = s.recipes := rfl
@[simp] theorem State.setRack_seqCounter (k : Nat) (x : Option Rack) : (s.setRack k x).seqCounter = s.seqCounter := rfl
@[simp] theorem State.setRack_queue (k : Nat) (x : Option Rack) : (s.setRack k x).queue = s.queue := rfl
@[simp] theorem State.setRack_requests (k : Nat) (x : Option Rack) : (s.setRack k x).requests = s.requests := rfl
@[simp] theorem State.setRack_dispatcher (k : Nat) (x : Option Rack) : (s.setRack k x).dispatcher = s.dispatcher := rfl
@[simp] theorem State.setRack_hoistA (k : Nat) (x : Option Rack) : (s.setRack k x).hoistA = s.hoistA := rfl
@[simp] theorem State.setRack_hoistB (k : Nat) (x : Option Rack) : (s.setRack k x).hoistB = s.hoistB := rfl
@[simp] theorem State.setRack_span (k : Nat) (x : Option Rack) : (s.setRack k x).span = s.span := rfl
@[simp] theorem State.setRack_gens (k : Nat) (x : Option Rack) : (s.setRack k x).gens = s.gens := rfl
@[simp] theorem State.setRack_line (k : Nat) (x : Option Rack) : (s.setRack k x).line = s.line := rfl
@[simp] theorem State.setRack_io (k : Nat) (x : Option Rack) : (s.setRack k x).io = s.io := rfl
@[simp] theorem State.setRack_link (k : Nat) (x : Option Rack) : (s.setRack k x).link = s.link := rfl
@[simp] theorem State.setRack_pending (k : Nat) (x : Option Rack) : (s.setRack k x).pending = s.pending := rfl

/-! ### setRequest -/

@[simp] theorem State.setRequest_resetHeld (k : Nat) (x : Option Request) : (s.setRequest k x).resetHeld = s.resetHeld := rfl
@[simp] theorem State.setRequest_tick (k : Nat) (x : Option Request) : (s.setRequest k x).tick = s.tick := rfl
@[simp] theorem State.setRequest_stations (k : Nat) (x : Option Request) : (s.setRequest k x).stations = s.stations := rfl
@[simp] theorem State.setRequest_marks (k : Nat) (x : Option Request) : (s.setRequest k x).marks = s.marks := rfl
@[simp] theorem State.setRequest_windows (k : Nat) (x : Option Request) : (s.setRequest k x).windows = s.windows := rfl
@[simp] theorem State.setRequest_baths (k : Nat) (x : Option Request) : (s.setRequest k x).baths = s.baths := rfl
@[simp] theorem State.setRequest_recipes (k : Nat) (x : Option Request) : (s.setRequest k x).recipes = s.recipes := rfl
@[simp] theorem State.setRequest_racks (k : Nat) (x : Option Request) : (s.setRequest k x).racks = s.racks := rfl
@[simp] theorem State.setRequest_seqCounter (k : Nat) (x : Option Request) : (s.setRequest k x).seqCounter = s.seqCounter := rfl
@[simp] theorem State.setRequest_queue (k : Nat) (x : Option Request) : (s.setRequest k x).queue = s.queue := rfl
@[simp] theorem State.setRequest_dispatcher (k : Nat) (x : Option Request) : (s.setRequest k x).dispatcher = s.dispatcher := rfl
@[simp] theorem State.setRequest_hoistA (k : Nat) (x : Option Request) : (s.setRequest k x).hoistA = s.hoistA := rfl
@[simp] theorem State.setRequest_hoistB (k : Nat) (x : Option Request) : (s.setRequest k x).hoistB = s.hoistB := rfl
@[simp] theorem State.setRequest_span (k : Nat) (x : Option Request) : (s.setRequest k x).span = s.span := rfl
@[simp] theorem State.setRequest_gens (k : Nat) (x : Option Request) : (s.setRequest k x).gens = s.gens := rfl
@[simp] theorem State.setRequest_line (k : Nat) (x : Option Request) : (s.setRequest k x).line = s.line := rfl
@[simp] theorem State.setRequest_io (k : Nat) (x : Option Request) : (s.setRequest k x).io = s.io := rfl
@[simp] theorem State.setRequest_link (k : Nat) (x : Option Request) : (s.setRequest k x).link = s.link := rfl
@[simp] theorem State.setRequest_pending (k : Nat) (x : Option Request) : (s.setRequest k x).pending = s.pending := rfl

/-! ### setMark -/

@[simp] theorem State.setMark_resetHeld (n : Nat) (m : AgitationMark) : (s.setMark n m).resetHeld = s.resetHeld := rfl
@[simp] theorem State.setMark_tick (n : Nat) (m : AgitationMark) : (s.setMark n m).tick = s.tick := rfl
@[simp] theorem State.setMark_stations (n : Nat) (m : AgitationMark) : (s.setMark n m).stations = s.stations := rfl
@[simp] theorem State.setMark_windows (n : Nat) (m : AgitationMark) : (s.setMark n m).windows = s.windows := rfl
@[simp] theorem State.setMark_baths (n : Nat) (m : AgitationMark) : (s.setMark n m).baths = s.baths := rfl
@[simp] theorem State.setMark_recipes (n : Nat) (m : AgitationMark) : (s.setMark n m).recipes = s.recipes := rfl
@[simp] theorem State.setMark_racks (n : Nat) (m : AgitationMark) : (s.setMark n m).racks = s.racks := rfl
@[simp] theorem State.setMark_seqCounter (n : Nat) (m : AgitationMark) : (s.setMark n m).seqCounter = s.seqCounter := rfl
@[simp] theorem State.setMark_queue (n : Nat) (m : AgitationMark) : (s.setMark n m).queue = s.queue := rfl
@[simp] theorem State.setMark_requests (n : Nat) (m : AgitationMark) : (s.setMark n m).requests = s.requests := rfl
@[simp] theorem State.setMark_dispatcher (n : Nat) (m : AgitationMark) : (s.setMark n m).dispatcher = s.dispatcher := rfl
@[simp] theorem State.setMark_hoistA (n : Nat) (m : AgitationMark) : (s.setMark n m).hoistA = s.hoistA := rfl
@[simp] theorem State.setMark_hoistB (n : Nat) (m : AgitationMark) : (s.setMark n m).hoistB = s.hoistB := rfl
@[simp] theorem State.setMark_span (n : Nat) (m : AgitationMark) : (s.setMark n m).span = s.span := rfl
@[simp] theorem State.setMark_gens (n : Nat) (m : AgitationMark) : (s.setMark n m).gens = s.gens := rfl
@[simp] theorem State.setMark_line (n : Nat) (m : AgitationMark) : (s.setMark n m).line = s.line := rfl
@[simp] theorem State.setMark_io (n : Nat) (m : AgitationMark) : (s.setMark n m).io = s.io := rfl
@[simp] theorem State.setMark_link (n : Nat) (m : AgitationMark) : (s.setMark n m).link = s.link := rfl
@[simp] theorem State.setMark_pending (n : Nat) (m : AgitationMark) : (s.setMark n m).pending = s.pending := rfl

/-! ### setWindow -/

@[simp] theorem State.setWindow_resetHeld (n : Nat) (w : Option Nat) : (s.setWindow n w).resetHeld = s.resetHeld := rfl
@[simp] theorem State.setWindow_tick (n : Nat) (w : Option Nat) : (s.setWindow n w).tick = s.tick := rfl
@[simp] theorem State.setWindow_stations (n : Nat) (w : Option Nat) : (s.setWindow n w).stations = s.stations := rfl
@[simp] theorem State.setWindow_marks (n : Nat) (w : Option Nat) : (s.setWindow n w).marks = s.marks := rfl
@[simp] theorem State.setWindow_baths (n : Nat) (w : Option Nat) : (s.setWindow n w).baths = s.baths := rfl
@[simp] theorem State.setWindow_recipes (n : Nat) (w : Option Nat) : (s.setWindow n w).recipes = s.recipes := rfl
@[simp] theorem State.setWindow_racks (n : Nat) (w : Option Nat) : (s.setWindow n w).racks = s.racks := rfl
@[simp] theorem State.setWindow_seqCounter (n : Nat) (w : Option Nat) : (s.setWindow n w).seqCounter = s.seqCounter := rfl
@[simp] theorem State.setWindow_queue (n : Nat) (w : Option Nat) : (s.setWindow n w).queue = s.queue := rfl
@[simp] theorem State.setWindow_requests (n : Nat) (w : Option Nat) : (s.setWindow n w).requests = s.requests := rfl
@[simp] theorem State.setWindow_dispatcher (n : Nat) (w : Option Nat) : (s.setWindow n w).dispatcher = s.dispatcher := rfl
@[simp] theorem State.setWindow_hoistA (n : Nat) (w : Option Nat) : (s.setWindow n w).hoistA = s.hoistA := rfl
@[simp] theorem State.setWindow_hoistB (n : Nat) (w : Option Nat) : (s.setWindow n w).hoistB = s.hoistB := rfl
@[simp] theorem State.setWindow_span (n : Nat) (w : Option Nat) : (s.setWindow n w).span = s.span := rfl
@[simp] theorem State.setWindow_gens (n : Nat) (w : Option Nat) : (s.setWindow n w).gens = s.gens := rfl
@[simp] theorem State.setWindow_line (n : Nat) (w : Option Nat) : (s.setWindow n w).line = s.line := rfl
@[simp] theorem State.setWindow_io (n : Nat) (w : Option Nat) : (s.setWindow n w).io = s.io := rfl
@[simp] theorem State.setWindow_link (n : Nat) (w : Option Nat) : (s.setWindow n w).link = s.link := rfl
@[simp] theorem State.setWindow_pending (n : Nat) (w : Option Nat) : (s.setWindow n w).pending = s.pending := rfl

/-! ### leaveStation -/

@[simp] theorem State.leaveStation_resetHeld (n : Nat) : (s.leaveStation n).resetHeld = s.resetHeld := rfl
@[simp] theorem State.leaveStation_tick (n : Nat) : (s.leaveStation n).tick = s.tick := rfl
@[simp] theorem State.leaveStation_stations (n : Nat) : (s.leaveStation n).stations = s.stations := rfl
@[simp] theorem State.leaveStation_baths (n : Nat) : (s.leaveStation n).baths = s.baths := rfl
@[simp] theorem State.leaveStation_recipes (n : Nat) : (s.leaveStation n).recipes = s.recipes := rfl
@[simp] theorem State.leaveStation_racks (n : Nat) : (s.leaveStation n).racks = s.racks := rfl
@[simp] theorem State.leaveStation_seqCounter (n : Nat) : (s.leaveStation n).seqCounter = s.seqCounter := rfl
@[simp] theorem State.leaveStation_queue (n : Nat) : (s.leaveStation n).queue = s.queue := rfl
@[simp] theorem State.leaveStation_requests (n : Nat) : (s.leaveStation n).requests = s.requests := rfl
@[simp] theorem State.leaveStation_dispatcher (n : Nat) : (s.leaveStation n).dispatcher = s.dispatcher := rfl
@[simp] theorem State.leaveStation_hoistA (n : Nat) : (s.leaveStation n).hoistA = s.hoistA := rfl
@[simp] theorem State.leaveStation_hoistB (n : Nat) : (s.leaveStation n).hoistB = s.hoistB := rfl
@[simp] theorem State.leaveStation_span (n : Nat) : (s.leaveStation n).span = s.span := rfl
@[simp] theorem State.leaveStation_gens (n : Nat) : (s.leaveStation n).gens = s.gens := rfl
@[simp] theorem State.leaveStation_line (n : Nat) : (s.leaveStation n).line = s.line := rfl
@[simp] theorem State.leaveStation_io (n : Nat) : (s.leaveStation n).io = s.io := rfl
@[simp] theorem State.leaveStation_link (n : Nat) : (s.leaveStation n).link = s.link := rfl
@[simp] theorem State.leaveStation_pending (n : Nat) : (s.leaveStation n).pending = s.pending := rfl

/-! ### setGen -/

@[simp] theorem State.setGen_resetHeld (b : Nat) (g : Generator) : (s.setGen b g).resetHeld = s.resetHeld := rfl
@[simp] theorem State.setGen_tick (b : Nat) (g : Generator) : (s.setGen b g).tick = s.tick := rfl
@[simp] theorem State.setGen_stations (b : Nat) (g : Generator) : (s.setGen b g).stations = s.stations := rfl
@[simp] theorem State.setGen_marks (b : Nat) (g : Generator) : (s.setGen b g).marks = s.marks := rfl
@[simp] theorem State.setGen_windows (b : Nat) (g : Generator) : (s.setGen b g).windows = s.windows := rfl
@[simp] theorem State.setGen_baths (b : Nat) (g : Generator) : (s.setGen b g).baths = s.baths := rfl
@[simp] theorem State.setGen_recipes (b : Nat) (g : Generator) : (s.setGen b g).recipes = s.recipes := rfl
@[simp] theorem State.setGen_racks (b : Nat) (g : Generator) : (s.setGen b g).racks = s.racks := rfl
@[simp] theorem State.setGen_seqCounter (b : Nat) (g : Generator) : (s.setGen b g).seqCounter = s.seqCounter := rfl
@[simp] theorem State.setGen_queue (b : Nat) (g : Generator) : (s.setGen b g).queue = s.queue := rfl
@[simp] theorem State.setGen_requests (b : Nat) (g : Generator) : (s.setGen b g).requests = s.requests := rfl
@[simp] theorem State.setGen_dispatcher (b : Nat) (g : Generator) : (s.setGen b g).dispatcher = s.dispatcher := rfl
@[simp] theorem State.setGen_hoistA (b : Nat) (g : Generator) : (s.setGen b g).hoistA = s.hoistA := rfl
@[simp] theorem State.setGen_hoistB (b : Nat) (g : Generator) : (s.setGen b g).hoistB = s.hoistB := rfl
@[simp] theorem State.setGen_span (b : Nat) (g : Generator) : (s.setGen b g).span = s.span := rfl
@[simp] theorem State.setGen_line (b : Nat) (g : Generator) : (s.setGen b g).line = s.line := rfl
@[simp] theorem State.setGen_io (b : Nat) (g : Generator) : (s.setGen b g).io = s.io := rfl
@[simp] theorem State.setGen_link (b : Nat) (g : Generator) : (s.setGen b g).link = s.link := rfl
@[simp] theorem State.setGen_pending (b : Nat) (g : Generator) : (s.setGen b g).pending = s.pending := rfl

/-! ### setInput -/

@[simp] theorem State.setInput_resetHeld (n : Nat) (x : Input) : (s.setInput n x).resetHeld = s.resetHeld := rfl
@[simp] theorem State.setInput_tick (n : Nat) (x : Input) : (s.setInput n x).tick = s.tick := rfl
@[simp] theorem State.setInput_stations (n : Nat) (x : Input) : (s.setInput n x).stations = s.stations := rfl
@[simp] theorem State.setInput_marks (n : Nat) (x : Input) : (s.setInput n x).marks = s.marks := rfl
@[simp] theorem State.setInput_windows (n : Nat) (x : Input) : (s.setInput n x).windows = s.windows := rfl
@[simp] theorem State.setInput_baths (n : Nat) (x : Input) : (s.setInput n x).baths = s.baths := rfl
@[simp] theorem State.setInput_recipes (n : Nat) (x : Input) : (s.setInput n x).recipes = s.recipes := rfl
@[simp] theorem State.setInput_racks (n : Nat) (x : Input) : (s.setInput n x).racks = s.racks := rfl
@[simp] theorem State.setInput_seqCounter (n : Nat) (x : Input) : (s.setInput n x).seqCounter = s.seqCounter := rfl
@[simp] theorem State.setInput_queue (n : Nat) (x : Input) : (s.setInput n x).queue = s.queue := rfl
@[simp] theorem State.setInput_requests (n : Nat) (x : Input) : (s.setInput n x).requests = s.requests := rfl
@[simp] theorem State.setInput_dispatcher (n : Nat) (x : Input) : (s.setInput n x).dispatcher = s.dispatcher := rfl
@[simp] theorem State.setInput_hoistA (n : Nat) (x : Input) : (s.setInput n x).hoistA = s.hoistA := rfl
@[simp] theorem State.setInput_hoistB (n : Nat) (x : Input) : (s.setInput n x).hoistB = s.hoistB := rfl
@[simp] theorem State.setInput_span (n : Nat) (x : Input) : (s.setInput n x).span = s.span := rfl
@[simp] theorem State.setInput_gens (n : Nat) (x : Input) : (s.setInput n x).gens = s.gens := rfl
@[simp] theorem State.setInput_line (n : Nat) (x : Input) : (s.setInput n x).line = s.line := rfl
@[simp] theorem State.setInput_link (n : Nat) (x : Input) : (s.setInput n x).link = s.link := rfl
@[simp] theorem State.setInput_pending (n : Nat) (x : Input) : (s.setInput n x).pending = s.pending := rfl

/-! ### setLevel -/

@[simp] theorem State.setLevel_resetHeld (n : Nat) (l : Bool) : (s.setLevel n l).resetHeld = s.resetHeld := rfl
@[simp] theorem State.setLevel_tick (n : Nat) (l : Bool) : (s.setLevel n l).tick = s.tick := rfl
@[simp] theorem State.setLevel_stations (n : Nat) (l : Bool) : (s.setLevel n l).stations = s.stations := rfl
@[simp] theorem State.setLevel_marks (n : Nat) (l : Bool) : (s.setLevel n l).marks = s.marks := rfl
@[simp] theorem State.setLevel_windows (n : Nat) (l : Bool) : (s.setLevel n l).windows = s.windows := rfl
@[simp] theorem State.setLevel_baths (n : Nat) (l : Bool) : (s.setLevel n l).baths = s.baths := rfl
@[simp] theorem State.setLevel_recipes (n : Nat) (l : Bool) : (s.setLevel n l).recipes = s.recipes := rfl
@[simp] theorem State.setLevel_racks (n : Nat) (l : Bool) : (s.setLevel n l).racks = s.racks := rfl
@[simp] theorem State.setLevel_seqCounter (n : Nat) (l : Bool) : (s.setLevel n l).seqCounter = s.seqCounter := rfl
@[simp] theorem State.setLevel_queue (n : Nat) (l : Bool) : (s.setLevel n l).queue = s.queue := rfl
@[simp] theorem State.setLevel_requests (n : Nat) (l : Bool) : (s.setLevel n l).requests = s.requests := rfl
@[simp] theorem State.setLevel_dispatcher (n : Nat) (l : Bool) : (s.setLevel n l).dispatcher = s.dispatcher := rfl
@[simp] theorem State.setLevel_hoistA (n : Nat) (l : Bool) : (s.setLevel n l).hoistA = s.hoistA := rfl
@[simp] theorem State.setLevel_hoistB (n : Nat) (l : Bool) : (s.setLevel n l).hoistB = s.hoistB := rfl
@[simp] theorem State.setLevel_span (n : Nat) (l : Bool) : (s.setLevel n l).span = s.span := rfl
@[simp] theorem State.setLevel_gens (n : Nat) (l : Bool) : (s.setLevel n l).gens = s.gens := rfl
@[simp] theorem State.setLevel_line (n : Nat) (l : Bool) : (s.setLevel n l).line = s.line := rfl
@[simp] theorem State.setLevel_link (n : Nat) (l : Bool) : (s.setLevel n l).link = s.link := rfl
@[simp] theorem State.setLevel_pending (n : Nat) (l : Bool) : (s.setLevel n l).pending = s.pending := rfl

/-! ### setOutput -/

@[simp] theorem State.setOutput_resetHeld (n : Nat) (x : Output) : (s.setOutput n x).resetHeld = s.resetHeld := rfl
@[simp] theorem State.setOutput_tick (n : Nat) (x : Output) : (s.setOutput n x).tick = s.tick := rfl
@[simp] theorem State.setOutput_stations (n : Nat) (x : Output) : (s.setOutput n x).stations = s.stations := rfl
@[simp] theorem State.setOutput_marks (n : Nat) (x : Output) : (s.setOutput n x).marks = s.marks := rfl
@[simp] theorem State.setOutput_windows (n : Nat) (x : Output) : (s.setOutput n x).windows = s.windows := rfl
@[simp] theorem State.setOutput_baths (n : Nat) (x : Output) : (s.setOutput n x).baths = s.baths := rfl
@[simp] theorem State.setOutput_recipes (n : Nat) (x : Output) : (s.setOutput n x).recipes = s.recipes := rfl
@[simp] theorem State.setOutput_racks (n : Nat) (x : Output) : (s.setOutput n x).racks = s.racks := rfl
@[simp] theorem State.setOutput_seqCounter (n : Nat) (x : Output) : (s.setOutput n x).seqCounter = s.seqCounter := rfl
@[simp] theorem State.setOutput_queue (n : Nat) (x : Output) : (s.setOutput n x).queue = s.queue := rfl
@[simp] theorem State.setOutput_requests (n : Nat) (x : Output) : (s.setOutput n x).requests = s.requests := rfl
@[simp] theorem State.setOutput_dispatcher (n : Nat) (x : Output) : (s.setOutput n x).dispatcher = s.dispatcher := rfl
@[simp] theorem State.setOutput_hoistA (n : Nat) (x : Output) : (s.setOutput n x).hoistA = s.hoistA := rfl
@[simp] theorem State.setOutput_hoistB (n : Nat) (x : Output) : (s.setOutput n x).hoistB = s.hoistB := rfl
@[simp] theorem State.setOutput_span (n : Nat) (x : Output) : (s.setOutput n x).span = s.span := rfl
@[simp] theorem State.setOutput_gens (n : Nat) (x : Output) : (s.setOutput n x).gens = s.gens := rfl
@[simp] theorem State.setOutput_line (n : Nat) (x : Output) : (s.setOutput n x).line = s.line := rfl
@[simp] theorem State.setOutput_link (n : Nat) (x : Output) : (s.setOutput n x).link = s.link := rfl
@[simp] theorem State.setOutput_pending (n : Nat) (x : Output) : (s.setOutput n x).pending = s.pending := rfl

/-! ### setMode -/

@[simp] theorem State.setMode_resetHeld (n : Nat) (m : OutputMode) : (s.setMode n m).resetHeld = s.resetHeld := rfl
@[simp] theorem State.setMode_tick (n : Nat) (m : OutputMode) : (s.setMode n m).tick = s.tick := rfl
@[simp] theorem State.setMode_stations (n : Nat) (m : OutputMode) : (s.setMode n m).stations = s.stations := rfl
@[simp] theorem State.setMode_marks (n : Nat) (m : OutputMode) : (s.setMode n m).marks = s.marks := rfl
@[simp] theorem State.setMode_windows (n : Nat) (m : OutputMode) : (s.setMode n m).windows = s.windows := rfl
@[simp] theorem State.setMode_baths (n : Nat) (m : OutputMode) : (s.setMode n m).baths = s.baths := rfl
@[simp] theorem State.setMode_recipes (n : Nat) (m : OutputMode) : (s.setMode n m).recipes = s.recipes := rfl
@[simp] theorem State.setMode_racks (n : Nat) (m : OutputMode) : (s.setMode n m).racks = s.racks := rfl
@[simp] theorem State.setMode_seqCounter (n : Nat) (m : OutputMode) : (s.setMode n m).seqCounter = s.seqCounter := rfl
@[simp] theorem State.setMode_queue (n : Nat) (m : OutputMode) : (s.setMode n m).queue = s.queue := rfl
@[simp] theorem State.setMode_requests (n : Nat) (m : OutputMode) : (s.setMode n m).requests = s.requests := rfl
@[simp] theorem State.setMode_dispatcher (n : Nat) (m : OutputMode) : (s.setMode n m).dispatcher = s.dispatcher := rfl
@[simp] theorem State.setMode_hoistA (n : Nat) (m : OutputMode) : (s.setMode n m).hoistA = s.hoistA := rfl
@[simp] theorem State.setMode_hoistB (n : Nat) (m : OutputMode) : (s.setMode n m).hoistB = s.hoistB := rfl
@[simp] theorem State.setMode_span (n : Nat) (m : OutputMode) : (s.setMode n m).span = s.span := rfl
@[simp] theorem State.setMode_gens (n : Nat) (m : OutputMode) : (s.setMode n m).gens = s.gens := rfl
@[simp] theorem State.setMode_line (n : Nat) (m : OutputMode) : (s.setMode n m).line = s.line := rfl
@[simp] theorem State.setMode_link (n : Nat) (m : OutputMode) : (s.setMode n m).link = s.link := rfl
@[simp] theorem State.setMode_pending (n : Nat) (m : OutputMode) : (s.setMode n m).pending = s.pending := rfl

/-! ### setHandover -/

@[simp] theorem State.setHandover_resetHeld (h : Handover) : (s.setHandover h).resetHeld = s.resetHeld := rfl
@[simp] theorem State.setHandover_tick (h : Handover) : (s.setHandover h).tick = s.tick := rfl
@[simp] theorem State.setHandover_stations (h : Handover) : (s.setHandover h).stations = s.stations := rfl
@[simp] theorem State.setHandover_marks (h : Handover) : (s.setHandover h).marks = s.marks := rfl
@[simp] theorem State.setHandover_windows (h : Handover) : (s.setHandover h).windows = s.windows := rfl
@[simp] theorem State.setHandover_baths (h : Handover) : (s.setHandover h).baths = s.baths := rfl
@[simp] theorem State.setHandover_recipes (h : Handover) : (s.setHandover h).recipes = s.recipes := rfl
@[simp] theorem State.setHandover_racks (h : Handover) : (s.setHandover h).racks = s.racks := rfl
@[simp] theorem State.setHandover_seqCounter (h : Handover) : (s.setHandover h).seqCounter = s.seqCounter := rfl
@[simp] theorem State.setHandover_queue (h : Handover) : (s.setHandover h).queue = s.queue := rfl
@[simp] theorem State.setHandover_requests (h : Handover) : (s.setHandover h).requests = s.requests := rfl
@[simp] theorem State.setHandover_dispatcher (h : Handover) : (s.setHandover h).dispatcher = s.dispatcher := rfl
@[simp] theorem State.setHandover_hoistA (h : Handover) : (s.setHandover h).hoistA = s.hoistA := rfl
@[simp] theorem State.setHandover_hoistB (h : Handover) : (s.setHandover h).hoistB = s.hoistB := rfl
@[simp] theorem State.setHandover_gens (h : Handover) : (s.setHandover h).gens = s.gens := rfl
@[simp] theorem State.setHandover_line (h : Handover) : (s.setHandover h).line = s.line := rfl
@[simp] theorem State.setHandover_io (h : Handover) : (s.setHandover h).io = s.io := rfl
@[simp] theorem State.setHandover_link (h : Handover) : (s.setHandover h).link = s.link := rfl
@[simp] theorem State.setHandover_pending (h : Handover) : (s.setHandover h).pending = s.pending := rfl

/-! ### sendHoist -/

@[simp] theorem State.sendHoist_resetHeld (h : Hoist) (m : OutMsg) : (s.sendHoist h m).resetHeld = s.resetHeld := rfl
@[simp] theorem State.sendHoist_tick (h : Hoist) (m : OutMsg) : (s.sendHoist h m).tick = s.tick := rfl
@[simp] theorem State.sendHoist_stations (h : Hoist) (m : OutMsg) : (s.sendHoist h m).stations = s.stations := rfl
@[simp] theorem State.sendHoist_marks (h : Hoist) (m : OutMsg) : (s.sendHoist h m).marks = s.marks := rfl
@[simp] theorem State.sendHoist_windows (h : Hoist) (m : OutMsg) : (s.sendHoist h m).windows = s.windows := rfl
@[simp] theorem State.sendHoist_baths (h : Hoist) (m : OutMsg) : (s.sendHoist h m).baths = s.baths := rfl
@[simp] theorem State.sendHoist_recipes (h : Hoist) (m : OutMsg) : (s.sendHoist h m).recipes = s.recipes := rfl
@[simp] theorem State.sendHoist_racks (h : Hoist) (m : OutMsg) : (s.sendHoist h m).racks = s.racks := rfl
@[simp] theorem State.sendHoist_seqCounter (h : Hoist) (m : OutMsg) : (s.sendHoist h m).seqCounter = s.seqCounter := rfl
@[simp] theorem State.sendHoist_queue (h : Hoist) (m : OutMsg) : (s.sendHoist h m).queue = s.queue := rfl
@[simp] theorem State.sendHoist_requests (h : Hoist) (m : OutMsg) : (s.sendHoist h m).requests = s.requests := rfl
@[simp] theorem State.sendHoist_dispatcher (h : Hoist) (m : OutMsg) : (s.sendHoist h m).dispatcher = s.dispatcher := rfl
@[simp] theorem State.sendHoist_hoistA (h : Hoist) (m : OutMsg) : (s.sendHoist h m).hoistA = s.hoistA := rfl
@[simp] theorem State.sendHoist_hoistB (h : Hoist) (m : OutMsg) : (s.sendHoist h m).hoistB = s.hoistB := rfl
@[simp] theorem State.sendHoist_span (h : Hoist) (m : OutMsg) : (s.sendHoist h m).span = s.span := rfl
@[simp] theorem State.sendHoist_gens (h : Hoist) (m : OutMsg) : (s.sendHoist h m).gens = s.gens := rfl
@[simp] theorem State.sendHoist_line (h : Hoist) (m : OutMsg) : (s.sendHoist h m).line = s.line := rfl
@[simp] theorem State.sendHoist_io (h : Hoist) (m : OutMsg) : (s.sendHoist h m).io = s.io := rfl
@[simp] theorem State.sendHoist_pending (h : Hoist) (m : OutMsg) : (s.sendHoist h m).pending = s.pending := rfl

/-! ### notify -/

@[simp] theorem State.notify_resetHeld (m : OutMsg) : (s.notify m).resetHeld = s.resetHeld := rfl
@[simp] theorem State.notify_tick (m : OutMsg) : (s.notify m).tick = s.tick := rfl
@[simp] theorem State.notify_stations (m : OutMsg) : (s.notify m).stations = s.stations := rfl
@[simp] theorem State.notify_marks (m : OutMsg) : (s.notify m).marks = s.marks := rfl
@[simp] theorem State.notify_windows (m : OutMsg) : (s.notify m).windows = s.windows := rfl
@[simp] theorem State.notify_baths (m : OutMsg) : (s.notify m).baths = s.baths := rfl
@[simp] theorem State.notify_recipes (m : OutMsg) : (s.notify m).recipes = s.recipes := rfl
@[simp] theorem State.notify_racks (m : OutMsg) : (s.notify m).racks = s.racks := rfl
@[simp] theorem State.notify_seqCounter (m : OutMsg) : (s.notify m).seqCounter = s.seqCounter := rfl
@[simp] theorem State.notify_queue (m : OutMsg) : (s.notify m).queue = s.queue := rfl
@[simp] theorem State.notify_requests (m : OutMsg) : (s.notify m).requests = s.requests := rfl
@[simp] theorem State.notify_dispatcher (m : OutMsg) : (s.notify m).dispatcher = s.dispatcher := rfl
@[simp] theorem State.notify_hoistA (m : OutMsg) : (s.notify m).hoistA = s.hoistA := rfl
@[simp] theorem State.notify_hoistB (m : OutMsg) : (s.notify m).hoistB = s.hoistB := rfl
@[simp] theorem State.notify_span (m : OutMsg) : (s.notify m).span = s.span := rfl
@[simp] theorem State.notify_gens (m : OutMsg) : (s.notify m).gens = s.gens := rfl
@[simp] theorem State.notify_line (m : OutMsg) : (s.notify m).line = s.line := rfl
@[simp] theorem State.notify_io (m : OutMsg) : (s.notify m).io = s.io := rfl
@[simp] theorem State.notify_pending (m : OutMsg) : (s.notify m).pending = s.pending := rfl

/-! ### reply -/

@[simp] theorem State.reply_resetHeld (kind : Nat) (code : ReplyCode) (contents : List Byte) : (s.reply kind code contents).resetHeld = s.resetHeld := rfl
@[simp] theorem State.reply_tick (kind : Nat) (code : ReplyCode) (contents : List Byte) : (s.reply kind code contents).tick = s.tick := rfl
@[simp] theorem State.reply_stations (kind : Nat) (code : ReplyCode) (contents : List Byte) : (s.reply kind code contents).stations = s.stations := rfl
@[simp] theorem State.reply_marks (kind : Nat) (code : ReplyCode) (contents : List Byte) : (s.reply kind code contents).marks = s.marks := rfl
@[simp] theorem State.reply_windows (kind : Nat) (code : ReplyCode) (contents : List Byte) : (s.reply kind code contents).windows = s.windows := rfl
@[simp] theorem State.reply_baths (kind : Nat) (code : ReplyCode) (contents : List Byte) : (s.reply kind code contents).baths = s.baths := rfl
@[simp] theorem State.reply_recipes (kind : Nat) (code : ReplyCode) (contents : List Byte) : (s.reply kind code contents).recipes = s.recipes := rfl
@[simp] theorem State.reply_racks (kind : Nat) (code : ReplyCode) (contents : List Byte) : (s.reply kind code contents).racks = s.racks := rfl
@[simp] theorem State.reply_seqCounter (kind : Nat) (code : ReplyCode) (contents : List Byte) : (s.reply kind code contents).seqCounter = s.seqCounter := rfl
@[simp] theorem State.reply_queue (kind : Nat) (code : ReplyCode) (contents : List Byte) : (s.reply kind code contents).queue = s.queue := rfl
@[simp] theorem State.reply_requests (kind : Nat) (code : ReplyCode) (contents : List Byte) : (s.reply kind code contents).requests = s.requests := rfl
@[simp] theorem State.reply_dispatcher (kind : Nat) (code : ReplyCode) (contents : List Byte) : (s.reply kind code contents).dispatcher = s.dispatcher := rfl
@[simp] theorem State.reply_hoistA (kind : Nat) (code : ReplyCode) (contents : List Byte) : (s.reply kind code contents).hoistA = s.hoistA := rfl
@[simp] theorem State.reply_hoistB (kind : Nat) (code : ReplyCode) (contents : List Byte) : (s.reply kind code contents).hoistB = s.hoistB := rfl
@[simp] theorem State.reply_span (kind : Nat) (code : ReplyCode) (contents : List Byte) : (s.reply kind code contents).span = s.span := rfl
@[simp] theorem State.reply_gens (kind : Nat) (code : ReplyCode) (contents : List Byte) : (s.reply kind code contents).gens = s.gens := rfl
@[simp] theorem State.reply_line (kind : Nat) (code : ReplyCode) (contents : List Byte) : (s.reply kind code contents).line = s.line := rfl
@[simp] theorem State.reply_io (kind : Nat) (code : ReplyCode) (contents : List Byte) : (s.reply kind code contents).io = s.io := rfl
@[simp] theorem State.reply_pending (kind : Nat) (code : ReplyCode) (contents : List Byte) : (s.reply kind code contents).pending = s.pending := rfl

/-! ### rackNotice -/

@[simp] theorem State.rackNotice_resetHeld (ev : RackEvent) (k : Nat) (r : Rack) (n : Option Nat) : (s.rackNotice ev k r n).resetHeld = s.resetHeld := rfl
@[simp] theorem State.rackNotice_tick (ev : RackEvent) (k : Nat) (r : Rack) (n : Option Nat) : (s.rackNotice ev k r n).tick = s.tick := rfl
@[simp] theorem State.rackNotice_stations (ev : RackEvent) (k : Nat) (r : Rack) (n : Option Nat) : (s.rackNotice ev k r n).stations = s.stations := rfl
@[simp] theorem State.rackNotice_marks (ev : RackEvent) (k : Nat) (r : Rack) (n : Option Nat) : (s.rackNotice ev k r n).marks = s.marks := rfl
@[simp] theorem State.rackNotice_windows (ev : RackEvent) (k : Nat) (r : Rack) (n : Option Nat) : (s.rackNotice ev k r n).windows = s.windows := rfl
@[simp] theorem State.rackNotice_baths (ev : RackEvent) (k : Nat) (r : Rack) (n : Option Nat) : (s.rackNotice ev k r n).baths = s.baths := rfl
@[simp] theorem State.rackNotice_recipes (ev : RackEvent) (k : Nat) (r : Rack) (n : Option Nat) : (s.rackNotice ev k r n).recipes = s.recipes := rfl
@[simp] theorem State.rackNotice_racks (ev : RackEvent) (k : Nat) (r : Rack) (n : Option Nat) : (s.rackNotice ev k r n).racks = s.racks := rfl
@[simp] theorem State.rackNotice_seqCounter (ev : RackEvent) (k : Nat) (r : Rack) (n : Option Nat) : (s.rackNotice ev k r n).seqCounter = s.seqCounter := rfl
@[simp] theorem State.rackNotice_queue (ev : RackEvent) (k : Nat) (r : Rack) (n : Option Nat) : (s.rackNotice ev k r n).queue = s.queue := rfl
@[simp] theorem State.rackNotice_requests (ev : RackEvent) (k : Nat) (r : Rack) (n : Option Nat) : (s.rackNotice ev k r n).requests = s.requests := rfl
@[simp] theorem State.rackNotice_dispatcher (ev : RackEvent) (k : Nat) (r : Rack) (n : Option Nat) : (s.rackNotice ev k r n).dispatcher = s.dispatcher := rfl
@[simp] theorem State.rackNotice_hoistA (ev : RackEvent) (k : Nat) (r : Rack) (n : Option Nat) : (s.rackNotice ev k r n).hoistA = s.hoistA := rfl
@[simp] theorem State.rackNotice_hoistB (ev : RackEvent) (k : Nat) (r : Rack) (n : Option Nat) : (s.rackNotice ev k r n).hoistB = s.hoistB := rfl
@[simp] theorem State.rackNotice_span (ev : RackEvent) (k : Nat) (r : Rack) (n : Option Nat) : (s.rackNotice ev k r n).span = s.span := rfl
@[simp] theorem State.rackNotice_gens (ev : RackEvent) (k : Nat) (r : Rack) (n : Option Nat) : (s.rackNotice ev k r n).gens = s.gens := rfl
@[simp] theorem State.rackNotice_line (ev : RackEvent) (k : Nat) (r : Rack) (n : Option Nat) : (s.rackNotice ev k r n).line = s.line := rfl
@[simp] theorem State.rackNotice_io (ev : RackEvent) (k : Nat) (r : Rack) (n : Option Nat) : (s.rackNotice ev k r n).io = s.io := rfl
@[simp] theorem State.rackNotice_pending (ev : RackEvent) (k : Nat) (r : Rack) (n : Option Nat) : (s.rackNotice ev k r n).pending = s.pending := rfl

/-! ### bathNotice -/

@[simp] theorem State.bathNotice_resetHeld (ev : BathEvent) (b : Nat) : (s.bathNotice ev b).resetHeld = s.resetHeld := rfl
@[simp] theorem State.bathNotice_tick (ev : BathEvent) (b : Nat) : (s.bathNotice ev b).tick = s.tick := rfl
@[simp] theorem State.bathNotice_stations (ev : BathEvent) (b : Nat) : (s.bathNotice ev b).stations = s.stations := rfl
@[simp] theorem State.bathNotice_marks (ev : BathEvent) (b : Nat) : (s.bathNotice ev b).marks = s.marks := rfl
@[simp] theorem State.bathNotice_windows (ev : BathEvent) (b : Nat) : (s.bathNotice ev b).windows = s.windows := rfl
@[simp] theorem State.bathNotice_baths (ev : BathEvent) (b : Nat) : (s.bathNotice ev b).baths = s.baths := rfl
@[simp] theorem State.bathNotice_recipes (ev : BathEvent) (b : Nat) : (s.bathNotice ev b).recipes = s.recipes := rfl
@[simp] theorem State.bathNotice_racks (ev : BathEvent) (b : Nat) : (s.bathNotice ev b).racks = s.racks := rfl
@[simp] theorem State.bathNotice_seqCounter (ev : BathEvent) (b : Nat) : (s.bathNotice ev b).seqCounter = s.seqCounter := rfl
@[simp] theorem State.bathNotice_queue (ev : BathEvent) (b : Nat) : (s.bathNotice ev b).queue = s.queue := rfl
@[simp] theorem State.bathNotice_requests (ev : BathEvent) (b : Nat) : (s.bathNotice ev b).requests = s.requests := rfl
@[simp] theorem State.bathNotice_dispatcher (ev : BathEvent) (b : Nat) : (s.bathNotice ev b).dispatcher = s.dispatcher := rfl
@[simp] theorem State.bathNotice_hoistA (ev : BathEvent) (b : Nat) : (s.bathNotice ev b).hoistA = s.hoistA := rfl
@[simp] theorem State.bathNotice_hoistB (ev : BathEvent) (b : Nat) : (s.bathNotice ev b).hoistB = s.hoistB := rfl
@[simp] theorem State.bathNotice_span (ev : BathEvent) (b : Nat) : (s.bathNotice ev b).span = s.span := rfl
@[simp] theorem State.bathNotice_gens (ev : BathEvent) (b : Nat) : (s.bathNotice ev b).gens = s.gens := rfl
@[simp] theorem State.bathNotice_line (ev : BathEvent) (b : Nat) : (s.bathNotice ev b).line = s.line := rfl
@[simp] theorem State.bathNotice_io (ev : BathEvent) (b : Nat) : (s.bathNotice ev b).io = s.io := rfl
@[simp] theorem State.bathNotice_pending (ev : BathEvent) (b : Nat) : (s.bathNotice ev b).pending = s.pending := rfl

/-! ### stationNotice -/

@[simp] theorem State.stationNotice_resetHeld (ev : StationEvent) (n : Nat) : (s.stationNotice ev n).resetHeld = s.resetHeld := rfl
@[simp] theorem State.stationNotice_tick (ev : StationEvent) (n : Nat) : (s.stationNotice ev n).tick = s.tick := rfl
@[simp] theorem State.stationNotice_stations (ev : StationEvent) (n : Nat) : (s.stationNotice ev n).stations = s.stations := rfl
@[simp] theorem State.stationNotice_marks (ev : StationEvent) (n : Nat) : (s.stationNotice ev n).marks = s.marks := rfl
@[simp] theorem State.stationNotice_windows (ev : StationEvent) (n : Nat) : (s.stationNotice ev n).windows = s.windows := rfl
@[simp] theorem State.stationNotice_baths (ev : StationEvent) (n : Nat) : (s.stationNotice ev n).baths = s.baths := rfl
@[simp] theorem State.stationNotice_recipes (ev : StationEvent) (n : Nat) : (s.stationNotice ev n).recipes = s.recipes := rfl
@[simp] theorem State.stationNotice_racks (ev : StationEvent) (n : Nat) : (s.stationNotice ev n).racks = s.racks := rfl
@[simp] theorem State.stationNotice_seqCounter (ev : StationEvent) (n : Nat) : (s.stationNotice ev n).seqCounter = s.seqCounter := rfl
@[simp] theorem State.stationNotice_queue (ev : StationEvent) (n : Nat) : (s.stationNotice ev n).queue = s.queue := rfl
@[simp] theorem State.stationNotice_requests (ev : StationEvent) (n : Nat) : (s.stationNotice ev n).requests = s.requests := rfl
@[simp] theorem State.stationNotice_dispatcher (ev : StationEvent) (n : Nat) : (s.stationNotice ev n).dispatcher = s.dispatcher := rfl
@[simp] theorem State.stationNotice_hoistA (ev : StationEvent) (n : Nat) : (s.stationNotice ev n).hoistA = s.hoistA := rfl
@[simp] theorem State.stationNotice_hoistB (ev : StationEvent) (n : Nat) : (s.stationNotice ev n).hoistB = s.hoistB := rfl
@[simp] theorem State.stationNotice_span (ev : StationEvent) (n : Nat) : (s.stationNotice ev n).span = s.span := rfl
@[simp] theorem State.stationNotice_gens (ev : StationEvent) (n : Nat) : (s.stationNotice ev n).gens = s.gens := rfl
@[simp] theorem State.stationNotice_line (ev : StationEvent) (n : Nat) : (s.stationNotice ev n).line = s.line := rfl
@[simp] theorem State.stationNotice_io (ev : StationEvent) (n : Nat) : (s.stationNotice ev n).io = s.io := rfl
@[simp] theorem State.stationNotice_pending (ev : StationEvent) (n : Nat) : (s.stationNotice ev n).pending = s.pending := rfl

/-! ### setRequestSlot -/

@[simp] theorem State.setRequestSlot_resetHeld (f : Option SlotFrame) : (s.setRequestSlot f).resetHeld = s.resetHeld := rfl
@[simp] theorem State.setRequestSlot_tick (f : Option SlotFrame) : (s.setRequestSlot f).tick = s.tick := rfl
@[simp] theorem State.setRequestSlot_stations (f : Option SlotFrame) : (s.setRequestSlot f).stations = s.stations := rfl
@[simp] theorem State.setRequestSlot_marks (f : Option SlotFrame) : (s.setRequestSlot f).marks = s.marks := rfl
@[simp] theorem State.setRequestSlot_windows (f : Option SlotFrame) : (s.setRequestSlot f).windows = s.windows := rfl
@[simp] theorem State.setRequestSlot_baths (f : Option SlotFrame) : (s.setRequestSlot f).baths = s.baths := rfl
@[simp] theorem State.setRequestSlot_recipes (f : Option SlotFrame) : (s.setRequestSlot f).recipes = s.recipes := rfl
@[simp] theorem State.setRequestSlot_racks (f : Option SlotFrame) : (s.setRequestSlot f).racks = s.racks := rfl
@[simp] theorem State.setRequestSlot_seqCounter (f : Option SlotFrame) : (s.setRequestSlot f).seqCounter = s.seqCounter := rfl
@[simp] theorem State.setRequestSlot_queue (f : Option SlotFrame) : (s.setRequestSlot f).queue = s.queue := rfl
@[simp] theorem State.setRequestSlot_requests (f : Option SlotFrame) : (s.setRequestSlot f).requests = s.requests := rfl
@[simp] theorem State.setRequestSlot_dispatcher (f : Option SlotFrame) : (s.setRequestSlot f).dispatcher = s.dispatcher := rfl
@[simp] theorem State.setRequestSlot_hoistA (f : Option SlotFrame) : (s.setRequestSlot f).hoistA = s.hoistA := rfl
@[simp] theorem State.setRequestSlot_hoistB (f : Option SlotFrame) : (s.setRequestSlot f).hoistB = s.hoistB := rfl
@[simp] theorem State.setRequestSlot_span (f : Option SlotFrame) : (s.setRequestSlot f).span = s.span := rfl
@[simp] theorem State.setRequestSlot_gens (f : Option SlotFrame) : (s.setRequestSlot f).gens = s.gens := rfl
@[simp] theorem State.setRequestSlot_line (f : Option SlotFrame) : (s.setRequestSlot f).line = s.line := rfl
@[simp] theorem State.setRequestSlot_io (f : Option SlotFrame) : (s.setRequestSlot f).io = s.io := rfl
@[simp] theorem State.setRequestSlot_pending (f : Option SlotFrame) : (s.setRequestSlot f).pending = s.pending := rfl

/-! ### strayCabinet -/

@[simp] theorem State.strayCabinet_resetHeld : s.strayCabinet.resetHeld = s.resetHeld := rfl
@[simp] theorem State.strayCabinet_tick : s.strayCabinet.tick = s.tick := rfl
@[simp] theorem State.strayCabinet_stations : s.strayCabinet.stations = s.stations := rfl
@[simp] theorem State.strayCabinet_marks : s.strayCabinet.marks = s.marks := rfl
@[simp] theorem State.strayCabinet_windows : s.strayCabinet.windows = s.windows := rfl
@[simp] theorem State.strayCabinet_baths : s.strayCabinet.baths = s.baths := rfl
@[simp] theorem State.strayCabinet_recipes : s.strayCabinet.recipes = s.recipes := rfl
@[simp] theorem State.strayCabinet_racks : s.strayCabinet.racks = s.racks := rfl
@[simp] theorem State.strayCabinet_seqCounter : s.strayCabinet.seqCounter = s.seqCounter := rfl
@[simp] theorem State.strayCabinet_queue : s.strayCabinet.queue = s.queue := rfl
@[simp] theorem State.strayCabinet_requests : s.strayCabinet.requests = s.requests := rfl
@[simp] theorem State.strayCabinet_dispatcher : s.strayCabinet.dispatcher = s.dispatcher := rfl
@[simp] theorem State.strayCabinet_hoistA : s.strayCabinet.hoistA = s.hoistA := rfl
@[simp] theorem State.strayCabinet_hoistB : s.strayCabinet.hoistB = s.hoistB := rfl
@[simp] theorem State.strayCabinet_span : s.strayCabinet.span = s.span := rfl
@[simp] theorem State.strayCabinet_gens : s.strayCabinet.gens = s.gens := rfl
@[simp] theorem State.strayCabinet_line : s.strayCabinet.line = s.line := rfl
@[simp] theorem State.strayCabinet_io : s.strayCabinet.io = s.io := rfl
@[simp] theorem State.strayCabinet_pending : s.strayCabinet.pending = s.pending := rfl

/-! ### triggerPass -/

@[simp] theorem State.triggerPass_resetHeld : s.triggerPass.resetHeld = s.resetHeld := rfl
@[simp] theorem State.triggerPass_tick : s.triggerPass.tick = s.tick := rfl
@[simp] theorem State.triggerPass_stations : s.triggerPass.stations = s.stations := rfl
@[simp] theorem State.triggerPass_marks : s.triggerPass.marks = s.marks := rfl
@[simp] theorem State.triggerPass_windows : s.triggerPass.windows = s.windows := rfl
@[simp] theorem State.triggerPass_baths : s.triggerPass.baths = s.baths := rfl
@[simp] theorem State.triggerPass_recipes : s.triggerPass.recipes = s.recipes := rfl
@[simp] theorem State.triggerPass_racks : s.triggerPass.racks = s.racks := rfl
@[simp] theorem State.triggerPass_seqCounter : s.triggerPass.seqCounter = s.seqCounter := rfl
@[simp] theorem State.triggerPass_queue : s.triggerPass.queue = s.queue := rfl
@[simp] theorem State.triggerPass_requests : s.triggerPass.requests = s.requests := rfl
@[simp] theorem State.triggerPass_hoistA : s.triggerPass.hoistA = s.hoistA := rfl
@[simp] theorem State.triggerPass_hoistB : s.triggerPass.hoistB = s.hoistB := rfl
@[simp] theorem State.triggerPass_span : s.triggerPass.span = s.span := rfl
@[simp] theorem State.triggerPass_gens : s.triggerPass.gens = s.gens := rfl
@[simp] theorem State.triggerPass_line : s.triggerPass.line = s.line := rfl
@[simp] theorem State.triggerPass_io : s.triggerPass.io = s.io := rfl
@[simp] theorem State.triggerPass_link : s.triggerPass.link = s.link := rfl
@[simp] theorem State.triggerPass_pending : s.triggerPass.pending = s.pending := rfl

/-! ### raiseArea -/

@[simp] theorem State.raiseArea_resetHeld (p : Nat → Bool) (a : Nat) : (s.raiseArea p a).resetHeld = s.resetHeld := rfl
@[simp] theorem State.raiseArea_tick (p : Nat → Bool) (a : Nat) : (s.raiseArea p a).tick = s.tick := rfl
@[simp] theorem State.raiseArea_stations (p : Nat → Bool) (a : Nat) : (s.raiseArea p a).stations = s.stations := rfl
@[simp] theorem State.raiseArea_marks (p : Nat → Bool) (a : Nat) : (s.raiseArea p a).marks = s.marks := rfl
@[simp] theorem State.raiseArea_windows (p : Nat → Bool) (a : Nat) : (s.raiseArea p a).windows = s.windows := rfl
@[simp] theorem State.raiseArea_recipes (p : Nat → Bool) (a : Nat) : (s.raiseArea p a).recipes = s.recipes := rfl
@[simp] theorem State.raiseArea_racks (p : Nat → Bool) (a : Nat) : (s.raiseArea p a).racks = s.racks := rfl
@[simp] theorem State.raiseArea_seqCounter (p : Nat → Bool) (a : Nat) : (s.raiseArea p a).seqCounter = s.seqCounter := rfl
@[simp] theorem State.raiseArea_queue (p : Nat → Bool) (a : Nat) : (s.raiseArea p a).queue = s.queue := rfl
@[simp] theorem State.raiseArea_requests (p : Nat → Bool) (a : Nat) : (s.raiseArea p a).requests = s.requests := rfl
@[simp] theorem State.raiseArea_dispatcher (p : Nat → Bool) (a : Nat) : (s.raiseArea p a).dispatcher = s.dispatcher := rfl
@[simp] theorem State.raiseArea_hoistA (p : Nat → Bool) (a : Nat) : (s.raiseArea p a).hoistA = s.hoistA := rfl
@[simp] theorem State.raiseArea_hoistB (p : Nat → Bool) (a : Nat) : (s.raiseArea p a).hoistB = s.hoistB := rfl
@[simp] theorem State.raiseArea_span (p : Nat → Bool) (a : Nat) : (s.raiseArea p a).span = s.span := rfl
@[simp] theorem State.raiseArea_gens (p : Nat → Bool) (a : Nat) : (s.raiseArea p a).gens = s.gens := rfl
@[simp] theorem State.raiseArea_line (p : Nat → Bool) (a : Nat) : (s.raiseArea p a).line = s.line := rfl
@[simp] theorem State.raiseArea_io (p : Nat → Bool) (a : Nat) : (s.raiseArea p a).io = s.io := rfl
@[simp] theorem State.raiseArea_link (p : Nat → Bool) (a : Nat) : (s.raiseArea p a).link = s.link := rfl
@[simp] theorem State.raiseArea_pending (p : Nat → Bool) (a : Nat) : (s.raiseArea p a).pending = s.pending := rfl

/-! ### lowerArea -/

@[simp] theorem State.lowerArea_resetHeld (p : Nat → Bool) (a : Nat) : (s.lowerArea p a).resetHeld = s.resetHeld := rfl
@[simp] theorem State.lowerArea_tick (p : Nat → Bool) (a : Nat) : (s.lowerArea p a).tick = s.tick := rfl
@[simp] theorem State.lowerArea_stations (p : Nat → Bool) (a : Nat) : (s.lowerArea p a).stations = s.stations := rfl
@[simp] theorem State.lowerArea_marks (p : Nat → Bool) (a : Nat) : (s.lowerArea p a).marks = s.marks := rfl
@[simp] theorem State.lowerArea_windows (p : Nat → Bool) (a : Nat) : (s.lowerArea p a).windows = s.windows := rfl
@[simp] theorem State.lowerArea_recipes (p : Nat → Bool) (a : Nat) : (s.lowerArea p a).recipes = s.recipes := rfl
@[simp] theorem State.lowerArea_racks (p : Nat → Bool) (a : Nat) : (s.lowerArea p a).racks = s.racks := rfl
@[simp] theorem State.lowerArea_seqCounter (p : Nat → Bool) (a : Nat) : (s.lowerArea p a).seqCounter = s.seqCounter := rfl
@[simp] theorem State.lowerArea_queue (p : Nat → Bool) (a : Nat) : (s.lowerArea p a).queue = s.queue := rfl
@[simp] theorem State.lowerArea_requests (p : Nat → Bool) (a : Nat) : (s.lowerArea p a).requests = s.requests := rfl
@[simp] theorem State.lowerArea_dispatcher (p : Nat → Bool) (a : Nat) : (s.lowerArea p a).dispatcher = s.dispatcher := rfl
@[simp] theorem State.lowerArea_hoistA (p : Nat → Bool) (a : Nat) : (s.lowerArea p a).hoistA = s.hoistA := rfl
@[simp] theorem State.lowerArea_hoistB (p : Nat → Bool) (a : Nat) : (s.lowerArea p a).hoistB = s.hoistB := rfl
@[simp] theorem State.lowerArea_span (p : Nat → Bool) (a : Nat) : (s.lowerArea p a).span = s.span := rfl
@[simp] theorem State.lowerArea_gens (p : Nat → Bool) (a : Nat) : (s.lowerArea p a).gens = s.gens := rfl
@[simp] theorem State.lowerArea_line (p : Nat → Bool) (a : Nat) : (s.lowerArea p a).line = s.line := rfl
@[simp] theorem State.lowerArea_io (p : Nat → Bool) (a : Nat) : (s.lowerArea p a).io = s.io := rfl
@[simp] theorem State.lowerArea_link (p : Nat → Bool) (a : Nat) : (s.lowerArea p a).link = s.link := rfl
@[simp] theorem State.lowerArea_pending (p : Nat → Bool) (a : Nat) : (s.lowerArea p a).pending = s.pending := rfl

/-! ### driveOutputs -/

@[simp] theorem State.driveOutputs_resetHeld : s.driveOutputs.resetHeld = s.resetHeld := rfl
@[simp] theorem State.driveOutputs_tick : s.driveOutputs.tick = s.tick := rfl
@[simp] theorem State.driveOutputs_stations : s.driveOutputs.stations = s.stations := rfl
@[simp] theorem State.driveOutputs_marks : s.driveOutputs.marks = s.marks := rfl
@[simp] theorem State.driveOutputs_windows : s.driveOutputs.windows = s.windows := rfl
@[simp] theorem State.driveOutputs_baths : s.driveOutputs.baths = s.baths := rfl
@[simp] theorem State.driveOutputs_recipes : s.driveOutputs.recipes = s.recipes := rfl
@[simp] theorem State.driveOutputs_racks : s.driveOutputs.racks = s.racks := rfl
@[simp] theorem State.driveOutputs_seqCounter : s.driveOutputs.seqCounter = s.seqCounter := rfl
@[simp] theorem State.driveOutputs_queue : s.driveOutputs.queue = s.queue := rfl
@[simp] theorem State.driveOutputs_requests : s.driveOutputs.requests = s.requests := rfl
@[simp] theorem State.driveOutputs_dispatcher : s.driveOutputs.dispatcher = s.dispatcher := rfl
@[simp] theorem State.driveOutputs_hoistA : s.driveOutputs.hoistA = s.hoistA := rfl
@[simp] theorem State.driveOutputs_hoistB : s.driveOutputs.hoistB = s.hoistB := rfl
@[simp] theorem State.driveOutputs_span : s.driveOutputs.span = s.span := rfl
@[simp] theorem State.driveOutputs_gens : s.driveOutputs.gens = s.gens := rfl
@[simp] theorem State.driveOutputs_line : s.driveOutputs.line = s.line := rfl
@[simp] theorem State.driveOutputs_link : s.driveOutputs.link = s.link := rfl
@[simp] theorem State.driveOutputs_pending : s.driveOutputs.pending = s.pending := rfl

/-! ### joinWaiting -/

@[simp] theorem State.joinWaiting_resetHeld (b : Nat) : (s.joinWaiting b).resetHeld = s.resetHeld := rfl
@[simp] theorem State.joinWaiting_tick (b : Nat) : (s.joinWaiting b).tick = s.tick := rfl
@[simp] theorem State.joinWaiting_stations (b : Nat) : (s.joinWaiting b).stations = s.stations := rfl
@[simp] theorem State.joinWaiting_windows (b : Nat) : (s.joinWaiting b).windows = s.windows := rfl
@[simp] theorem State.joinWaiting_baths (b : Nat) : (s.joinWaiting b).baths = s.baths := rfl
@[simp] theorem State.joinWaiting_recipes (b : Nat) : (s.joinWaiting b).recipes = s.recipes := rfl
@[simp] theorem State.joinWaiting_racks (b : Nat) : (s.joinWaiting b).racks = s.racks := rfl
@[simp] theorem State.joinWaiting_seqCounter (b : Nat) : (s.joinWaiting b).seqCounter = s.seqCounter := rfl
@[simp] theorem State.joinWaiting_queue (b : Nat) : (s.joinWaiting b).queue = s.queue := rfl
@[simp] theorem State.joinWaiting_requests (b : Nat) : (s.joinWaiting b).requests = s.requests := rfl
@[simp] theorem State.joinWaiting_dispatcher (b : Nat) : (s.joinWaiting b).dispatcher = s.dispatcher := rfl
@[simp] theorem State.joinWaiting_hoistA (b : Nat) : (s.joinWaiting b).hoistA = s.hoistA := rfl
@[simp] theorem State.joinWaiting_hoistB (b : Nat) : (s.joinWaiting b).hoistB = s.hoistB := rfl
@[simp] theorem State.joinWaiting_span (b : Nat) : (s.joinWaiting b).span = s.span := rfl
@[simp] theorem State.joinWaiting_gens (b : Nat) : (s.joinWaiting b).gens = s.gens := rfl
@[simp] theorem State.joinWaiting_line (b : Nat) : (s.joinWaiting b).line = s.line := rfl
@[simp] theorem State.joinWaiting_io (b : Nat) : (s.joinWaiting b).io = s.io := rfl
@[simp] theorem State.joinWaiting_link (b : Nat) : (s.joinWaiting b).link = s.link := rfl
@[simp] theorem State.joinWaiting_pending (b : Nat) : (s.joinWaiting b).pending = s.pending := rfl

/-! ### clearStations -/

@[simp] theorem State.clearStations_resetHeld : s.clearStations.resetHeld = s.resetHeld := rfl
@[simp] theorem State.clearStations_tick : s.clearStations.tick = s.tick := rfl
@[simp] theorem State.clearStations_marks : s.clearStations.marks = s.marks := rfl
@[simp] theorem State.clearStations_windows : s.clearStations.windows = s.windows := rfl
@[simp] theorem State.clearStations_baths : s.clearStations.baths = s.baths := rfl
@[simp] theorem State.clearStations_recipes : s.clearStations.recipes = s.recipes := rfl
@[simp] theorem State.clearStations_racks : s.clearStations.racks = s.racks := rfl
@[simp] theorem State.clearStations_seqCounter : s.clearStations.seqCounter = s.seqCounter := rfl
@[simp] theorem State.clearStations_queue : s.clearStations.queue = s.queue := rfl
@[simp] theorem State.clearStations_requests : s.clearStations.requests = s.requests := rfl
@[simp] theorem State.clearStations_dispatcher : s.clearStations.dispatcher = s.dispatcher := rfl
@[simp] theorem State.clearStations_hoistA : s.clearStations.hoistA = s.hoistA := rfl
@[simp] theorem State.clearStations_hoistB : s.clearStations.hoistB = s.hoistB := rfl
@[simp] theorem State.clearStations_span : s.clearStations.span = s.span := rfl
@[simp] theorem State.clearStations_gens : s.clearStations.gens = s.gens := rfl
@[simp] theorem State.clearStations_line : s.clearStations.line = s.line := rfl
@[simp] theorem State.clearStations_io : s.clearStations.io = s.io := rfl
@[simp] theorem State.clearStations_link : s.clearStations.link = s.link := rfl
@[simp] theorem State.clearStations_pending : s.clearStations.pending = s.pending := rfl

/-! ### clearCauses -/

@[simp] theorem State.clearCauses_resetHeld (named : List Cause) : (s.clearCauses named).resetHeld = s.resetHeld := rfl
@[simp] theorem State.clearCauses_tick (named : List Cause) : (s.clearCauses named).tick = s.tick := rfl
@[simp] theorem State.clearCauses_stations (named : List Cause) : (s.clearCauses named).stations = s.stations := rfl
@[simp] theorem State.clearCauses_marks (named : List Cause) : (s.clearCauses named).marks = s.marks := rfl
@[simp] theorem State.clearCauses_windows (named : List Cause) : (s.clearCauses named).windows = s.windows := rfl
@[simp] theorem State.clearCauses_baths (named : List Cause) : (s.clearCauses named).baths = s.baths := rfl
@[simp] theorem State.clearCauses_recipes (named : List Cause) : (s.clearCauses named).recipes = s.recipes := rfl
@[simp] theorem State.clearCauses_racks (named : List Cause) : (s.clearCauses named).racks = s.racks := rfl
@[simp] theorem State.clearCauses_seqCounter (named : List Cause) : (s.clearCauses named).seqCounter = s.seqCounter := rfl
@[simp] theorem State.clearCauses_queue (named : List Cause) : (s.clearCauses named).queue = s.queue := rfl
@[simp] theorem State.clearCauses_requests (named : List Cause) : (s.clearCauses named).requests = s.requests := rfl
@[simp] theorem State.clearCauses_dispatcher (named : List Cause) : (s.clearCauses named).dispatcher = s.dispatcher := rfl
@[simp] theorem State.clearCauses_hoistA (named : List Cause) : (s.clearCauses named).hoistA = s.hoistA := rfl
@[simp] theorem State.clearCauses_hoistB (named : List Cause) : (s.clearCauses named).hoistB = s.hoistB := rfl
@[simp] theorem State.clearCauses_span (named : List Cause) : (s.clearCauses named).span = s.span := rfl
@[simp] theorem State.clearCauses_gens (named : List Cause) : (s.clearCauses named).gens = s.gens := rfl
@[simp] theorem State.clearCauses_io (named : List Cause) : (s.clearCauses named).io = s.io := rfl
@[simp] theorem State.clearCauses_link (named : List Cause) : (s.clearCauses named).link = s.link := rfl
@[simp] theorem State.clearCauses_pending (named : List Cause) : (s.clearCauses named).pending = s.pending := rfl

/-! ### setHoist -/

@[simp] theorem State.setHoist_resetHeld (h : Hoist) (x : HoistRec) : (s.setHoist h x).resetHeld = s.resetHeld := by cases h <;> rfl
@[simp] theorem State.setHoist_tick (h : Hoist) (x : HoistRec) : (s.setHoist h x).tick = s.tick := by cases h <;> rfl
@[simp] theorem State.setHoist_stations (h : Hoist) (x : HoistRec) : (s.setHoist h x).stations = s.stations := by cases h <;> rfl
@[simp] theorem State.setHoist_marks (h : Hoist) (x : HoistRec) : (s.setHoist h x).marks = s.marks := by cases h <;> rfl
@[simp] theorem State.setHoist_windows (h : Hoist) (x : HoistRec) : (s.setHoist h x).windows = s.windows := by cases h <;> rfl
@[simp] theorem State.setHoist_baths (h : Hoist) (x : HoistRec) : (s.setHoist h x).baths = s.baths := by cases h <;> rfl
@[simp] theorem State.setHoist_recipes (h : Hoist) (x : HoistRec) : (s.setHoist h x).recipes = s.recipes := by cases h <;> rfl
@[simp] theorem State.setHoist_racks (h : Hoist) (x : HoistRec) : (s.setHoist h x).racks = s.racks := by cases h <;> rfl
@[simp] theorem State.setHoist_seqCounter (h : Hoist) (x : HoistRec) : (s.setHoist h x).seqCounter = s.seqCounter := by cases h <;> rfl
@[simp] theorem State.setHoist_queue (h : Hoist) (x : HoistRec) : (s.setHoist h x).queue = s.queue := by cases h <;> rfl
@[simp] theorem State.setHoist_requests (h : Hoist) (x : HoistRec) : (s.setHoist h x).requests = s.requests := by cases h <;> rfl
@[simp] theorem State.setHoist_dispatcher (h : Hoist) (x : HoistRec) : (s.setHoist h x).dispatcher = s.dispatcher := by cases h <;> rfl
@[simp] theorem State.setHoist_span (h : Hoist) (x : HoistRec) : (s.setHoist h x).span = s.span := by cases h <;> rfl
@[simp] theorem State.setHoist_gens (h : Hoist) (x : HoistRec) : (s.setHoist h x).gens = s.gens := by cases h <;> rfl
@[simp] theorem State.setHoist_line (h : Hoist) (x : HoistRec) : (s.setHoist h x).line = s.line := by cases h <;> rfl
@[simp] theorem State.setHoist_io (h : Hoist) (x : HoistRec) : (s.setHoist h x).io = s.io := by cases h <;> rfl
@[simp] theorem State.setHoist_link (h : Hoist) (x : HoistRec) : (s.setHoist h x).link = s.link := by cases h <;> rfl
@[simp] theorem State.setHoist_pending (h : Hoist) (x : HoistRec) : (s.setHoist h x).pending = s.pending := by cases h <;> rfl

/-! ### setTimer -/

@[simp] theorem State.setTimer_resetHeld (h : Hoist) (v : Nat) : (s.setTimer h v).resetHeld = s.resetHeld := by cases h <;> rfl
@[simp] theorem State.setTimer_tick (h : Hoist) (v : Nat) : (s.setTimer h v).tick = s.tick := by cases h <;> rfl
@[simp] theorem State.setTimer_stations (h : Hoist) (v : Nat) : (s.setTimer h v).stations = s.stations := by cases h <;> rfl
@[simp] theorem State.setTimer_marks (h : Hoist) (v : Nat) : (s.setTimer h v).marks = s.marks := by cases h <;> rfl
@[simp] theorem State.setTimer_windows (h : Hoist) (v : Nat) : (s.setTimer h v).windows = s.windows := by cases h <;> rfl
@[simp] theorem State.setTimer_baths (h : Hoist) (v : Nat) : (s.setTimer h v).baths = s.baths := by cases h <;> rfl
@[simp] theorem State.setTimer_recipes (h : Hoist) (v : Nat) : (s.setTimer h v).recipes = s.recipes := by cases h <;> rfl
@[simp] theorem State.setTimer_racks (h : Hoist) (v : Nat) : (s.setTimer h v).racks = s.racks := by cases h <;> rfl
@[simp] theorem State.setTimer_seqCounter (h : Hoist) (v : Nat) : (s.setTimer h v).seqCounter = s.seqCounter := by cases h <;> rfl
@[simp] theorem State.setTimer_queue (h : Hoist) (v : Nat) : (s.setTimer h v).queue = s.queue := by cases h <;> rfl
@[simp] theorem State.setTimer_requests (h : Hoist) (v : Nat) : (s.setTimer h v).requests = s.requests := by cases h <;> rfl
@[simp] theorem State.setTimer_dispatcher (h : Hoist) (v : Nat) : (s.setTimer h v).dispatcher = s.dispatcher := by cases h <;> rfl
@[simp] theorem State.setTimer_span (h : Hoist) (v : Nat) : (s.setTimer h v).span = s.span := by cases h <;> rfl
@[simp] theorem State.setTimer_gens (h : Hoist) (v : Nat) : (s.setTimer h v).gens = s.gens := by cases h <;> rfl
@[simp] theorem State.setTimer_line (h : Hoist) (v : Nat) : (s.setTimer h v).line = s.line := by cases h <;> rfl
@[simp] theorem State.setTimer_io (h : Hoist) (v : Nat) : (s.setTimer h v).io = s.io := by cases h <;> rfl
@[simp] theorem State.setTimer_link (h : Hoist) (v : Nat) : (s.setTimer h v).link = s.link := by cases h <;> rfl
@[simp] theorem State.setTimer_pending (h : Hoist) (v : Nat) : (s.setTimer h v).pending = s.pending := by cases h <;> rfl

/-! ### stray -/

@[simp] theorem State.stray_resetHeld (h : Hoist) : (s.stray h).resetHeld = s.resetHeld := by cases h <;> rfl
@[simp] theorem State.stray_tick (h : Hoist) : (s.stray h).tick = s.tick := by cases h <;> rfl
@[simp] theorem State.stray_stations (h : Hoist) : (s.stray h).stations = s.stations := by cases h <;> rfl
@[simp] theorem State.stray_marks (h : Hoist) : (s.stray h).marks = s.marks := by cases h <;> rfl
@[simp] theorem State.stray_windows (h : Hoist) : (s.stray h).windows = s.windows := by cases h <;> rfl
@[simp] theorem State.stray_baths (h : Hoist) : (s.stray h).baths = s.baths := by cases h <;> rfl
@[simp] theorem State.stray_recipes (h : Hoist) : (s.stray h).recipes = s.recipes := by cases h <;> rfl
@[simp] theorem State.stray_racks (h : Hoist) : (s.stray h).racks = s.racks := by cases h <;> rfl
@[simp] theorem State.stray_seqCounter (h : Hoist) : (s.stray h).seqCounter = s.seqCounter := by cases h <;> rfl
@[simp] theorem State.stray_queue (h : Hoist) : (s.stray h).queue = s.queue := by cases h <;> rfl
@[simp] theorem State.stray_requests (h : Hoist) : (s.stray h).requests = s.requests := by cases h <;> rfl
@[simp] theorem State.stray_dispatcher (h : Hoist) : (s.stray h).dispatcher = s.dispatcher := by cases h <;> rfl
@[simp] theorem State.stray_span (h : Hoist) : (s.stray h).span = s.span := by cases h <;> rfl
@[simp] theorem State.stray_gens (h : Hoist) : (s.stray h).gens = s.gens := by cases h <;> rfl
@[simp] theorem State.stray_line (h : Hoist) : (s.stray h).line = s.line := by cases h <;> rfl
@[simp] theorem State.stray_io (h : Hoist) : (s.stray h).io = s.io := by cases h <;> rfl
@[simp] theorem State.stray_link (h : Hoist) : (s.stray h).link = s.link := by cases h <;> rfl
@[simp] theorem State.stray_pending (h : Hoist) : (s.stray h).pending = s.pending := by cases h <;> rfl

/-! ### notePosition -/

@[simp] theorem State.notePosition_resetHeld (h : Hoist) (p : Option Int) : (s.notePosition h p).resetHeld = s.resetHeld := by cases h <;> rfl
@[simp] theorem State.notePosition_tick (h : Hoist) (p : Option Int) : (s.notePosition h p).tick = s.tick := by cases h <;> rfl
@[simp] theorem State.notePosition_stations (h : Hoist) (p : Option Int) : (s.notePosition h p).stations = s.stations := by cases h <;> rfl
@[simp] theorem State.notePosition_marks (h : Hoist) (p : Option Int) : (s.notePosition h p).marks = s.marks := by cases h <;> rfl
@[simp] theorem State.notePosition_windows (h : Hoist) (p : Option Int) : (s.notePosition h p).windows = s.windows := by cases h <;> rfl
@[simp] theorem State.notePosition_baths (h : Hoist) (p : Option Int) : (s.notePosition h p).baths = s.baths := by cases h <;> rfl
@[simp] theorem State.notePosition_recipes (h : Hoist) (p : Option Int) : (s.notePosition h p).recipes = s.recipes := by cases h <;> rfl
@[simp] theorem State.notePosition_racks (h : Hoist) (p : Option Int) : (s.notePosition h p).racks = s.racks := by cases h <;> rfl
@[simp] theorem State.notePosition_seqCounter (h : Hoist) (p : Option Int) : (s.notePosition h p).seqCounter = s.seqCounter := by cases h <;> rfl
@[simp] theorem State.notePosition_queue (h : Hoist) (p : Option Int) : (s.notePosition h p).queue = s.queue := by cases h <;> rfl
@[simp] theorem State.notePosition_requests (h : Hoist) (p : Option Int) : (s.notePosition h p).requests = s.requests := by cases h <;> rfl
@[simp] theorem State.notePosition_dispatcher (h : Hoist) (p : Option Int) : (s.notePosition h p).dispatcher = s.dispatcher := by cases h <;> rfl
@[simp] theorem State.notePosition_span (h : Hoist) (p : Option Int) : (s.notePosition h p).span = s.span := by cases h <;> rfl
@[simp] theorem State.notePosition_gens (h : Hoist) (p : Option Int) : (s.notePosition h p).gens = s.gens := by cases h <;> rfl
@[simp] theorem State.notePosition_line (h : Hoist) (p : Option Int) : (s.notePosition h p).line = s.line := by cases h <;> rfl
@[simp] theorem State.notePosition_io (h : Hoist) (p : Option Int) : (s.notePosition h p).io = s.io := by cases h <;> rfl
@[simp] theorem State.notePosition_link (h : Hoist) (p : Option Int) : (s.notePosition h p).link = s.link := by cases h <;> rfl
@[simp] theorem State.notePosition_pending (h : Hoist) (p : Option Int) : (s.notePosition h p).pending = s.pending := by cases h <;> rfl

/-! ### keepRefusal -/

@[simp] theorem State.keepRefusal_resetHeld (h : Hoist) (r : Nat) : (s.keepRefusal h r).resetHeld = s.resetHeld := by cases h <;> rfl
@[simp] theorem State.keepRefusal_tick (h : Hoist) (r : Nat) : (s.keepRefusal h r).tick = s.tick := by cases h <;> rfl
@[simp] theorem State.keepRefusal_stations (h : Hoist) (r : Nat) : (s.keepRefusal h r).stations = s.stations := by cases h <;> rfl
@[simp] theorem State.keepRefusal_marks (h : Hoist) (r : Nat) : (s.keepRefusal h r).marks = s.marks := by cases h <;> rfl
@[simp] theorem State.keepRefusal_windows (h : Hoist) (r : Nat) : (s.keepRefusal h r).windows = s.windows := by cases h <;> rfl
@[simp] theorem State.keepRefusal_baths (h : Hoist) (r : Nat) : (s.keepRefusal h r).baths = s.baths := by cases h <;> rfl
@[simp] theorem State.keepRefusal_recipes (h : Hoist) (r : Nat) : (s.keepRefusal h r).recipes = s.recipes := by cases h <;> rfl
@[simp] theorem State.keepRefusal_racks (h : Hoist) (r : Nat) : (s.keepRefusal h r).racks = s.racks := by cases h <;> rfl
@[simp] theorem State.keepRefusal_seqCounter (h : Hoist) (r : Nat) : (s.keepRefusal h r).seqCounter = s.seqCounter := by cases h <;> rfl
@[simp] theorem State.keepRefusal_queue (h : Hoist) (r : Nat) : (s.keepRefusal h r).queue = s.queue := by cases h <;> rfl
@[simp] theorem State.keepRefusal_requests (h : Hoist) (r : Nat) : (s.keepRefusal h r).requests = s.requests := by cases h <;> rfl
@[simp] theorem State.keepRefusal_dispatcher (h : Hoist) (r : Nat) : (s.keepRefusal h r).dispatcher = s.dispatcher := by cases h <;> rfl
@[simp] theorem State.keepRefusal_span (h : Hoist) (r : Nat) : (s.keepRefusal h r).span = s.span := by cases h <;> rfl
@[simp] theorem State.keepRefusal_gens (h : Hoist) (r : Nat) : (s.keepRefusal h r).gens = s.gens := by cases h <;> rfl
@[simp] theorem State.keepRefusal_line (h : Hoist) (r : Nat) : (s.keepRefusal h r).line = s.line := by cases h <;> rfl
@[simp] theorem State.keepRefusal_io (h : Hoist) (r : Nat) : (s.keepRefusal h r).io = s.io := by cases h <;> rfl
@[simp] theorem State.keepRefusal_link (h : Hoist) (r : Nat) : (s.keepRefusal h r).link = s.link := by cases h <;> rfl
@[simp] theorem State.keepRefusal_pending (h : Hoist) (r : Nat) : (s.keepRefusal h r).pending = s.pending := by cases h <;> rfl

/-! ### setSpan -/

@[simp] theorem State.setSpan_resetHeld (h : Hoist) (x : Span) : (s.setSpan h x).resetHeld = s.resetHeld := by cases h <;> rfl
@[simp] theorem State.setSpan_tick (h : Hoist) (x : Span) : (s.setSpan h x).tick = s.tick := by cases h <;> rfl
@[simp] theorem State.setSpan_stations (h : Hoist) (x : Span) : (s.setSpan h x).stations = s.stations := by cases h <;> rfl
@[simp] theorem State.setSpan_marks (h : Hoist) (x : Span) : (s.setSpan h x).marks = s.marks := by cases h <;> rfl
@[simp] theorem State.setSpan_windows (h : Hoist) (x : Span) : (s.setSpan h x).windows = s.windows := by cases h <;> rfl
@[simp] theorem State.setSpan_baths (h : Hoist) (x : Span) : (s.setSpan h x).baths = s.baths := by cases h <;> rfl
@[simp] theorem State.setSpan_recipes (h : Hoist) (x : Span) : (s.setSpan h x).recipes = s.recipes := by cases h <;> rfl
@[simp] theorem State.setSpan_racks (h : Hoist) (x : Span) : (s.setSpan h x).racks = s.racks := by cases h <;> rfl
@[simp] theorem State.setSpan_seqCounter (h : Hoist) (x : Span) : (s.setSpan h x).seqCounter = s.seqCounter := by cases h <;> rfl
@[simp] theorem State.setSpan_queue (h : Hoist) (x : Span) : (s.setSpan h x).queue = s.queue := by cases h <;> rfl
@[simp] theorem State.setSpan_requests (h : Hoist) (x : Span) : (s.setSpan h x).requests = s.requests := by cases h <;> rfl
@[simp] theorem State.setSpan_dispatcher (h : Hoist) (x : Span) : (s.setSpan h x).dispatcher = s.dispatcher := by cases h <;> rfl
@[simp] theorem State.setSpan_hoistA (h : Hoist) (x : Span) : (s.setSpan h x).hoistA = s.hoistA := by cases h <;> rfl
@[simp] theorem State.setSpan_hoistB (h : Hoist) (x : Span) : (s.setSpan h x).hoistB = s.hoistB := by cases h <;> rfl
@[simp] theorem State.setSpan_gens (h : Hoist) (x : Span) : (s.setSpan h x).gens = s.gens := by cases h <;> rfl
@[simp] theorem State.setSpan_line (h : Hoist) (x : Span) : (s.setSpan h x).line = s.line := by cases h <;> rfl
@[simp] theorem State.setSpan_io (h : Hoist) (x : Span) : (s.setSpan h x).io = s.io := by cases h <;> rfl
@[simp] theorem State.setSpan_link (h : Hoist) (x : Span) : (s.setSpan h x).link = s.link := by cases h <;> rfl
@[simp] theorem State.setSpan_pending (h : Hoist) (x : Span) : (s.setSpan h x).pending = s.pending := by cases h <;> rfl

/-! ### setSeq -/

@[simp] theorem State.setSeq_resetHeld (h : Hoist) (q : Nat) : (s.setSeq h q).resetHeld = s.resetHeld := by cases h <;> rfl
@[simp] theorem State.setSeq_tick (h : Hoist) (q : Nat) : (s.setSeq h q).tick = s.tick := by cases h <;> rfl
@[simp] theorem State.setSeq_stations (h : Hoist) (q : Nat) : (s.setSeq h q).stations = s.stations := by cases h <;> rfl
@[simp] theorem State.setSeq_marks (h : Hoist) (q : Nat) : (s.setSeq h q).marks = s.marks := by cases h <;> rfl
@[simp] theorem State.setSeq_windows (h : Hoist) (q : Nat) : (s.setSeq h q).windows = s.windows := by cases h <;> rfl
@[simp] theorem State.setSeq_baths (h : Hoist) (q : Nat) : (s.setSeq h q).baths = s.baths := by cases h <;> rfl
@[simp] theorem State.setSeq_recipes (h : Hoist) (q : Nat) : (s.setSeq h q).recipes = s.recipes := by cases h <;> rfl
@[simp] theorem State.setSeq_racks (h : Hoist) (q : Nat) : (s.setSeq h q).racks = s.racks := by cases h <;> rfl
@[simp] theorem State.setSeq_seqCounter (h : Hoist) (q : Nat) : (s.setSeq h q).seqCounter = s.seqCounter := by cases h <;> rfl
@[simp] theorem State.setSeq_queue (h : Hoist) (q : Nat) : (s.setSeq h q).queue = s.queue := by cases h <;> rfl
@[simp] theorem State.setSeq_requests (h : Hoist) (q : Nat) : (s.setSeq h q).requests = s.requests := by cases h <;> rfl
@[simp] theorem State.setSeq_dispatcher (h : Hoist) (q : Nat) : (s.setSeq h q).dispatcher = s.dispatcher := by cases h <;> rfl
@[simp] theorem State.setSeq_hoistA (h : Hoist) (q : Nat) : (s.setSeq h q).hoistA = s.hoistA := by cases h <;> rfl
@[simp] theorem State.setSeq_hoistB (h : Hoist) (q : Nat) : (s.setSeq h q).hoistB = s.hoistB := by cases h <;> rfl
@[simp] theorem State.setSeq_gens (h : Hoist) (q : Nat) : (s.setSeq h q).gens = s.gens := by cases h <;> rfl
@[simp] theorem State.setSeq_line (h : Hoist) (q : Nat) : (s.setSeq h q).line = s.line := by cases h <;> rfl
@[simp] theorem State.setSeq_io (h : Hoist) (q : Nat) : (s.setSeq h q).io = s.io := by cases h <;> rfl
@[simp] theorem State.setSeq_link (h : Hoist) (q : Nat) : (s.setSeq h q).link = s.link := by cases h <;> rfl
@[simp] theorem State.setSeq_pending (h : Hoist) (q : Nat) : (s.setSeq h q).pending = s.pending := by cases h <;> rfl

/-! ### emptySpan -/

@[simp] theorem State.emptySpan_resetHeld (h : Hoist) : (s.emptySpan h).resetHeld = s.resetHeld := by cases h <;> rfl
@[simp] theorem State.emptySpan_tick (h : Hoist) : (s.emptySpan h).tick = s.tick := by cases h <;> rfl
@[simp] theorem State.emptySpan_stations (h : Hoist) : (s.emptySpan h).stations = s.stations := by cases h <;> rfl
@[simp] theorem State.emptySpan_marks (h : Hoist) : (s.emptySpan h).marks = s.marks := by cases h <;> rfl
@[simp] theorem State.emptySpan_windows (h : Hoist) : (s.emptySpan h).windows = s.windows := by cases h <;> rfl
@[simp] theorem State.emptySpan_baths (h : Hoist) : (s.emptySpan h).baths = s.baths := by cases h <;> rfl
@[simp] theorem State.emptySpan_recipes (h : Hoist) : (s.emptySpan h).recipes = s.recipes := by cases h <;> rfl
@[simp] theorem State.emptySpan_racks (h : Hoist) : (s.emptySpan h).racks = s.racks := by cases h <;> rfl
@[simp] theorem State.emptySpan_seqCounter (h : Hoist) : (s.emptySpan h).seqCounter = s.seqCounter := by cases h <;> rfl
@[simp] theorem State.emptySpan_queue (h : Hoist) : (s.emptySpan h).queue = s.queue := by cases h <;> rfl
@[simp] theorem State.emptySpan_requests (h : Hoist) : (s.emptySpan h).requests = s.requests := by cases h <;> rfl
@[simp] theorem State.emptySpan_dispatcher (h : Hoist) : (s.emptySpan h).dispatcher = s.dispatcher := by cases h <;> rfl
@[simp] theorem State.emptySpan_hoistA (h : Hoist) : (s.emptySpan h).hoistA = s.hoistA := by cases h <;> rfl
@[simp] theorem State.emptySpan_hoistB (h : Hoist) : (s.emptySpan h).hoistB = s.hoistB := by cases h <;> rfl
@[simp] theorem State.emptySpan_gens (h : Hoist) : (s.emptySpan h).gens = s.gens := by cases h <;> rfl
@[simp] theorem State.emptySpan_line (h : Hoist) : (s.emptySpan h).line = s.line := by cases h <;> rfl
@[simp] theorem State.emptySpan_io (h : Hoist) : (s.emptySpan h).io = s.io := by cases h <;> rfl
@[simp] theorem State.emptySpan_link (h : Hoist) : (s.emptySpan h).link = s.link := by cases h <;> rfl
@[simp] theorem State.emptySpan_pending (h : Hoist) : (s.emptySpan h).pending = s.pending := by cases h <;> rfl

/-! ### awaitAck -/

@[simp] theorem State.awaitAck_resetHeld (h : Hoist) : (s.awaitAck h).resetHeld = s.resetHeld := by cases h <;> rfl
@[simp] theorem State.awaitAck_tick (h : Hoist) : (s.awaitAck h).tick = s.tick := by cases h <;> rfl
@[simp] theorem State.awaitAck_stations (h : Hoist) : (s.awaitAck h).stations = s.stations := by cases h <;> rfl
@[simp] theorem State.awaitAck_marks (h : Hoist) : (s.awaitAck h).marks = s.marks := by cases h <;> rfl
@[simp] theorem State.awaitAck_windows (h : Hoist) : (s.awaitAck h).windows = s.windows := by cases h <;> rfl
@[simp] theorem State.awaitAck_baths (h : Hoist) : (s.awaitAck h).baths = s.baths := by cases h <;> rfl
@[simp] theorem State.awaitAck_recipes (h : Hoist) : (s.awaitAck h).recipes = s.recipes := by cases h <;> rfl
@[simp] theorem State.awaitAck_racks (h : Hoist) : (s.awaitAck h).racks = s.racks := by cases h <;> rfl
@[simp] theorem State.awaitAck_seqCounter (h : Hoist) : (s.awaitAck h).seqCounter = s.seqCounter := by cases h <;> rfl
@[simp] theorem State.awaitAck_queue (h : Hoist) : (s.awaitAck h).queue = s.queue := by cases h <;> rfl
@[simp] theorem State.awaitAck_requests (h : Hoist) : (s.awaitAck h).requests = s.requests := by cases h <;> rfl
@[simp] theorem State.awaitAck_dispatcher (h : Hoist) : (s.awaitAck h).dispatcher = s.dispatcher := by cases h <;> rfl
@[simp] theorem State.awaitAck_hoistA (h : Hoist) : (s.awaitAck h).hoistA = s.hoistA := by cases h <;> rfl
@[simp] theorem State.awaitAck_hoistB (h : Hoist) : (s.awaitAck h).hoistB = s.hoistB := by cases h <;> rfl
@[simp] theorem State.awaitAck_gens (h : Hoist) : (s.awaitAck h).gens = s.gens := by cases h <;> rfl
@[simp] theorem State.awaitAck_line (h : Hoist) : (s.awaitAck h).line = s.line := by cases h <;> rfl
@[simp] theorem State.awaitAck_io (h : Hoist) : (s.awaitAck h).io = s.io := by cases h <;> rfl
@[simp] theorem State.awaitAck_link (h : Hoist) : (s.awaitAck h).link = s.link := by cases h <;> rfl
@[simp] theorem State.awaitAck_pending (h : Hoist) : (s.awaitAck h).pending = s.pending := by cases h <;> rfl

/-! ### What the updates write -/

@[simp] theorem State.setStation_stations (n : Nat) (x : Station) :
    (s.setStation n x).stations = s.stations.set n x := rfl
@[simp] theorem State.setOcc_stations (n : Nat) (o : Occupancy) :
    (s.setOcc n o).stations = s.stations.set n { s.stations.get n with occ := o } := rfl
@[simp] theorem State.setBath_baths (b : Nat) (x : Bath) : (s.setBath b x).baths = s.baths.set b x := rfl
@[simp] theorem State.setRecipe_recipes (r : Nat) (x : Recipe) : (s.setRecipe r x).recipes = s.recipes.set r x := rfl
@[simp] theorem State.setRack_racks (k : Nat) (x : Option Rack) : (s.setRack k x).racks = s.racks.set k x := rfl
@[simp] theorem State.setRequest_requests (k : Nat) (x : Option Request) :
    (s.setRequest k x).requests = s.requests.set k x := rfl
@[simp] theorem State.setMark_marks (n : Nat) (m : AgitationMark) : (s.setMark n m).marks = s.marks.set n m := rfl
@[simp] theorem State.setWindow_windows (n : Nat) (w : Option Nat) :
    (s.setWindow n w).windows = s.windows.set n w := rfl
@[simp] theorem State.setGen_gens (b : Nat) (g : Generator) : (s.setGen b g).gens = s.gens.set b g := rfl
@[simp] theorem State.setHandover_handover (h : Handover) : (s.setHandover h).span.handover = h := rfl
@[simp] theorem State.setHandover_spanA (h : Handover) : (s.setHandover h).span.spanA = s.span.spanA := rfl
@[simp] theorem State.setHandover_spanB (h : Handover) : (s.setHandover h).span.spanB = s.span.spanB := rfl
@[simp] theorem State.setHandover_seqA (h : Handover) : (s.setHandover h).span.seqA = s.span.seqA := rfl
@[simp] theorem State.setHandover_seqB (h : Handover) : (s.setHandover h).span.seqB = s.span.seqB := rfl
@[simp] theorem State.setHandover_guardGap (h : Handover) : (s.setHandover h).span.guardGap = s.span.guardGap := rfl
@[simp] theorem State.setHandover_split (h : Handover) : (s.setHandover h).span.split = s.span.split := rfl
@[simp] theorem State.setSpan_handover (h : Hoist) (x : Span) :
    (s.setSpan h x).span.handover = s.span.handover := by cases h <;> rfl
@[simp] theorem State.setSpan_spanOf (h : Hoist) (x : Span) : (s.setSpan h x).spanOf h = x := by cases h <;> rfl
@[simp] theorem State.setSeq_handover (h : Hoist) (q : Nat) :
    (s.setSeq h q).span.handover = s.span.handover := by cases h <;> rfl
@[simp] theorem State.setSeq_spanOf (h g : Hoist) (q : Nat) : (s.setSeq h q).spanOf g = s.spanOf g := by
  cases h <;> cases g <;> rfl
@[simp] theorem State.setSeq_seqOf (h : Hoist) (q : Nat) : (s.setSeq h q).seqOf h = q := by cases h <;> rfl
@[simp] theorem State.setHoist_hoist (h : Hoist) (x : HoistRec) : (s.setHoist h x).hoist h = x := by cases h <;> rfl
@[simp] theorem State.setHoist_other (h : Hoist) (x : HoistRec) :
    (s.setHoist h x).hoist h.other = s.hoist h.other := by cases h <;> rfl
theorem State.setHoist_ne {h g : Hoist} (hg : g ≠ h) (x : HoistRec) : (s.setHoist h x).hoist g = s.hoist g := by
  cases h <;> cases g <;> first | rfl | exact absurd rfl hg
@[simp] theorem State.setHoist_setHoist (h : Hoist) (x y : HoistRec) :
    (s.setHoist h x).setHoist h y = s.setHoist h y := by cases h <;> rfl
@[simp] theorem State.setHoist_self (h : Hoist) : s.setHoist h (s.hoist h) = s := by cases h <;> rfl
@[simp] theorem State.sendHoist_hoist (h g : Hoist) (m : OutMsg) : (s.sendHoist h m).hoist g = s.hoist g := by
  cases g <;> rfl
@[simp] theorem State.sendHoist_spanOf (h g : Hoist) (m : OutMsg) : (s.sendHoist h m).spanOf g = s.spanOf g := by
  cases g <;> rfl
@[simp] theorem State.triggerPass_passesOwed :
    s.triggerPass.dispatcher.passesOwed = s.dispatcher.passesOwed + 1 := rfl
@[simp] theorem State.reply_link (kind : Nat) (code : ReplyCode) (contents : List Byte) :
    (s.reply kind code contents).link = s.link.reply kind code contents := rfl
@[simp] theorem State.notify_link (m : OutMsg) : (s.notify m).link = s.link.notify m := rfl
@[simp] theorem State.sendHoist_link (h : Hoist) (m : OutMsg) :
    (s.sendHoist h m).link = s.link.send h.channel m := rfl

@[simp] theorem Hoist_other_other (h : Hoist) : h.other.other = h := by cases h <;> rfl
theorem Hoist_other_ne (h : Hoist) : h.other ≠ h := by cases h <;> decide

end Sys2Proof.Machine
end

