-- ==== Sys2Proof/Laws/Links.lean ====
section
/-! SUPPORT. The outbound queues and the inbound slots: what each operation of the link leaves alone, and that
filling a slot changes nothing that is queued. -/

namespace Sys2Proof.Machine

variable (l : Link)

@[simp] theorem Link.push_engine (c : Nat) (m : OutMsg) : (l.push c m).engine = l.engine := rfl
@[simp] theorem Link.push_window (c : Nat) (m : OutMsg) : (l.push c m).window = l.window := rfl
@[simp] theorem Link.push_discardWait (c : Nat) (m : OutMsg) : (l.push c m).discardWait = l.discardWait := rfl
@[simp] theorem Link.push_lastHoist (c : Nat) (m : OutMsg) : (l.push c m).lastHoist = l.lastHoist := rfl
@[simp] theorem Link.push_dropped (c : Nat) (m : OutMsg) : (l.push c m).dropped = l.dropped := rfl
@[simp] theorem Link.push_strayBath (c : Nat) (m : OutMsg) : (l.push c m).strayBath = l.strayBath := rfl
@[simp] theorem Link.count_engine (c : Nat) (f : Counts → Counts) : (l.count c f).engine = l.engine := rfl
@[simp] theorem Link.count_window (c : Nat) (f : Counts → Counts) : (l.count c f).window = l.window := rfl
@[simp] theorem Link.count_discardWait (c : Nat) (f : Counts → Counts) : (l.count c f).discardWait = l.discardWait := rfl
@[simp] theorem Link.count_dropped (c : Nat) (f : Counts → Counts) : (l.count c f).dropped = l.dropped := rfl
@[simp] theorem Link.setSlot_engine (c : Nat) (f : Option SlotFrame) : (l.setSlot c f).engine = l.engine := rfl
@[simp] theorem Link.setSlot_window (c : Nat) (f : Option SlotFrame) : (l.setSlot c f).window = l.window := rfl
@[simp] theorem Link.setSlot_dropped (c : Nat) (f : Option SlotFrame) : (l.setSlot c f).dropped = l.dropped := rfl

/-! ### The queue of a channel after an operation -/

theorem Link.held_push_self {c : Nat} (h : c < 4) (m : OutMsg) : (l.push c m).held c = l.held c + 1 := by
  simp [Link.held, Link.push, Table.modify, Table.get_set_self _ h]

@[simp] theorem Link.held_push_ne {c d : Nat} (h : c ≠ d) (m : OutMsg) : (l.push c m).held d = l.held d := by
  simp [Link.held, Link.push, Table.modify, h]

@[simp] theorem Link.held_count (c d : Nat) (f : Counts → Counts) : (l.count c f).held d = l.held d := by
  by_cases h : c = d
  · subst h
    by_cases hc : c < 4
    · simp [Link.held, Link.count, Table.modify, Table.get_set_self _ hc]
    · simp [Link.held, Link.count, Table.modify, Table.set_outside _ (by omega : 4 ≤ c)]
  · simp [Link.held, Link.count, Table.modify, h]

@[simp] theorem Link.held_setSlot (c d : Nat) (f : Option SlotFrame) : (l.setSlot c f).held d = l.held d := by
  by_cases h : c = d
  · subst h
    by_cases hc : c < 4
    · simp [Link.held, Link.setSlot, Table.modify, Table.get_set_self _ hc]
    · simp [Link.held, Link.setSlot, Table.modify, Table.set_outside _ (by omega : 4 ≤ c)]
  · simp [Link.held, Link.setSlot, Table.modify, h]

/-- A hoist message is queued where fewer than four frames are held, and lost otherwise; the queue never passes
four (06 R110, 11 R192). -/
theorem Link.held_send {c : Nat} (h : c < 4) (m : OutMsg) :
    (l.send c m).held c = if l.held c < 4 then l.held c + 1 else l.held c := by
  unfold Link.send Link.lose
  split <;> simp_all [Config.hoistPlaces, l.held_push_self h]

@[simp] theorem Link.held_send_ne {c d : Nat} (h : c ≠ d) (m : OutMsg) : (l.send c m).held d = l.held d := by
  unfold Link.send Link.lose
  split <;> simp [h]

/-- The queues do not depend on the notices-dropped indication. -/
@[simp] theorem Link.held_setDropped (d : Nat) (b : Bool) : ({ l with dropped := b } : Link).held d = l.held d := rfl

@[simp] theorem Link.held_lose (c d : Nat) : (l.lose c).held d = l.held d := l.held_count c d _

/-- A notice is queued where it leaves three places free (11 R192). -/
theorem Link.held_notify (m : OutMsg) :
    (l.notify m).held 3 = if l.held 3 + 3 < 8 then l.held 3 + 1 else l.held 3 := by
  unfold Link.notify
  simp only [Config.replyPlaces, Config.orderPlaces]
  by_cases h : l.held 3 + 3 < 8
  · rw [if_pos h, if_pos h]; exact l.held_push_self (by decide) m
  · rw [if_neg h, if_neg h]; exact l.held_lose 3 3

@[simp] theorem Link.held_notify_ne {d : Nat} (h : 3 ≠ d) (m : OutMsg) : (l.notify m).held d = l.held d := by
  unfold Link.notify
  split
  · exact l.held_push_ne h m
  · exact l.held_lose 3 d

/-! ### A slot filled or emptied around other operations -/

theorem Link.modify_comm (t : Table Channel 4) (c d : Nat) (f g : Channel → Channel) (h : ∀ x, f (g x) = g (f x)) :
    (t.modify c f).modify d g = (t.modify d g).modify c f := by
  by_cases hcd : c = d
  · subst hcd
    by_cases hc : c < 4
    · simp [Table.modify, Table.get_set_self _ hc, h]
    · simp [Table.modify, Table.set_outside _ (by omega : 4 ≤ c)]
  · simp [Table.modify, hcd, Ne.symm hcd, Table.set_comm _ hcd]

theorem Link.push_setSlot (c d : Nat) (f : Option SlotFrame) (m : OutMsg) :
    (l.setSlot d f).push c m = (l.push c m).setSlot d f := by
  simp only [Link.push, Link.setSlot, Link.mk.injEq, true_and, and_true]
  exact Link.modify_comm _ _ _ _ _ (fun _ => rfl)

theorem Link.count_setSlot (c d : Nat) (f : Option SlotFrame) (g : Counts → Counts) :
    (l.setSlot d f).count c g = (l.count c g).setSlot d f := by
  simp only [Link.count, Link.setSlot, Link.mk.injEq, true_and, and_true]
  exact Link.modify_comm _ _ _ _ _ (fun _ => rfl)

theorem Link.send_setSlot (c d : Nat) (f : Option SlotFrame) (m : OutMsg) :
    (l.setSlot d f).send c m = (l.send c m).setSlot d f := by
  simp only [Link.send, Link.lose, Link.held_setSlot, Link.push_setSlot, Link.count_setSlot]
  split <;> rfl

theorem Link.notify_setSlot (d : Nat) (f : Option SlotFrame) (m : OutMsg) :
    (l.setSlot d f).notify m = (l.notify m).setSlot d f := by
  simp only [Link.notify, Link.lose, Link.held_setSlot, Link.push_setSlot, Link.count_setSlot]
  split <;> rfl

theorem Link.pushAll_setSlot (ms : List OutMsg) (l : Link) (c d : Nat) (f : Option SlotFrame) :
    ms.foldl (fun l m => l.push c m) (l.setSlot d f) = (ms.foldl (fun l m => l.push c m) l).setSlot d f := by
  induction ms generalizing l with
  | nil => rfl
  | cons m ms ih => simp only [List.foldl_cons, Link.push_setSlot]; exact ih (l.push c m)

theorem Link.reply_setSlot (d : Nat) (f : Option SlotFrame) (kind : Nat) (code : ReplyCode) (contents : List Byte) :
    (l.setSlot d f).reply kind code contents = (l.reply kind code contents).setSlot d f :=
  Link.pushAll_setSlot _ l 3 d f

@[simp] theorem Link.setSlot_setSlot (c : Nat) (f g : Option SlotFrame) : (l.setSlot c f).setSlot c g = l.setSlot c g := by
  simp only [Link.setSlot, Link.mk.injEq, true_and, and_true]
  by_cases hc : c < 4
  · simp [Table.modify, Table.get_set_self _ hc]
  · simp [Table.modify, Table.set_outside _ (by omega : 4 ≤ c)]

/-- Emptying an empty slot changes nothing. -/
theorem Link.setSlot_none {c : Nat} (h : l.slot c = none) : l.setSlot c none = l := by
  have : { l.channels.get c with slot := none } = l.channels.get c := by
    unfold Link.slot at h
    cases hx : l.channels.get c
    simp_all
  simp [Link.setSlot, Table.modify, this, Table.set_get_self]

theorem Link.slot_setSlot {c : Nat} (h : c < 4) (f : Option SlotFrame) : (l.setSlot c f).slot c = f := by
  simp [Link.slot, Link.setSlot, Table.modify, Table.get_set_self _ h]

theorem Link.slot_push (c d : Nat) (m : OutMsg) : (l.push c m).slot d = l.slot d := by
  by_cases hcd : c = d
  · subst hcd
    by_cases hc : c < 4
    · simp [Link.slot, Link.push, Table.modify, Table.get_set_self _ hc]
    · simp [Link.slot, Link.push, Table.modify, Table.set_outside _ (by omega : 4 ≤ c)]
  · simp [Link.slot, Link.push, Table.modify, hcd]

theorem Link.slot_pushAll (ms : List OutMsg) (l : Link) (c d : Nat) :
    (ms.foldl (fun l m => l.push c m) l).slot d = l.slot d := by
  induction ms generalizing l with
  | nil => rfl
  | cons m ms ih => simp only [List.foldl_cons]; rw [ih, Link.slot_push]

theorem Link.slot_reply (d : Nat) (kind : Nat) (code : ReplyCode) (contents : List Byte) :
    (l.reply kind code contents).slot d = l.slot d := Link.slot_pushAll _ l 3 d

/-- A reply queued while a request stands in the slot, which is then emptied, is the reply queued on the link
(11 R191). -/
theorem Link.reply_within {l : Link} (h : l.slot 3 = none) (f : Option SlotFrame) (kind : Nat) (code : ReplyCode)
    (contents : List Byte) : ((l.setSlot 3 f).reply kind code contents).setSlot 3 none = l.reply kind code contents := by
  rw [Link.reply_setSlot, Link.setSlot_setSlot, Link.setSlot_none]
  rw [Link.slot_reply, h]

/-! ### Replies (11 R195) -/

theorem replyParts_length (contents : List Byte) :
    1 ≤ (replyParts contents).length ∧ (replyParts contents).length ≤ 3 := by
  unfold replyParts
  split
  · simp
  · split <;> simp

theorem replyFrames_length (kind : Nat) (code : ReplyCode) (contents : List Byte) :
    (replyFrames kind code contents).length = (replyParts contents).length := by
  simp [replyFrames]

theorem Link.held_pushAll (ms : List OutMsg) (l : Link) {c : Nat} (h : c < 4) :
    (ms.foldl (fun l m => l.push c m) l).held c = l.held c + ms.length := by
  induction ms generalizing l with
  | nil => rfl
  | cons m ms ih => simp only [List.foldl_cons, ih, l.held_push_self h, List.length_cons]; omega

theorem Link.held_pushAll_ne (ms : List OutMsg) (l : Link) {c d : Nat} (h : c ≠ d) :
    (ms.foldl (fun l m => l.push c m) l).held d = l.held d := by
  induction ms generalizing l with
  | nil => rfl
  | cons m ms ih => simp only [List.foldl_cons, ih, l.held_push_ne h]

/-- A reply takes at most three places of channel 3 (11 R195). -/
theorem Link.held_reply (kind : Nat) (code : ReplyCode) (contents : List Byte) :
    (l.reply kind code contents).held 3 ≤ l.held 3 + 3 := by
  have h := (replyParts_length contents).2
  unfold Link.reply
  rw [Link.held_pushAll _ l (by omega : 3 < 4), replyFrames_length]
  omega

@[simp] theorem Link.held_reply_ne {d : Nat} (h : 3 ≠ d) (kind : Nat) (code : ReplyCode) (contents : List Byte) :
    (l.reply kind code contents).held d = l.held d := Link.held_pushAll_ne _ l h

/-! ### Taking a request (11 R191) -/

variable {s : State}

@[simp] theorem State.setRequestSlot_link (s : State) (f : Option SlotFrame) :
    (s.setRequestSlot f).link = s.link.setSlot 3 f := rfl

@[simp] theorem State.setRequestSlot_setRequestSlot (s : State) (f g : Option SlotFrame) :
    (s.setRequestSlot f).setRequestSlot g = s.setRequestSlot g := by
  simp [State.setRequestSlot]

/-- A request that can be taken is handled with itself in the slot, which is then emptied (11 R191). -/
theorem State.takeRequest_taken (h : s.TakesRequests) (i : Instr) (handler : State → State) :
    s.takeRequest i handler = (handler (s.setRequestSlot (some (.good i)))).setRequestSlot none := by
  obtain ⟨-, hslot, hroom⟩ := h
  unfold State.takeRequest
  rw [hslot]
  simp [Link.hasReplyRoom, Config.replyPlaces, Config.orderPlaces, hroom, State.serve]

/-- A request that finds fewer than three free places waits in the slot (11 R191). -/
theorem State.takeRequest_waits (hslot : s.link.slot 3 = none) (hroom : 8 < s.link.held 3 + 3) (i : Instr)
    (handler : State → State) : s.takeRequest i handler = s.setRequestSlot (some (.good i)) := by
  unfold State.takeRequest
  rw [hslot]
  simp [Link.hasReplyRoom, Config.replyPlaces, Config.orderPlaces]
  omega

/-- A reply queued by a handler that touches the link no further. -/
theorem State.reply_within (hslot : s.link.slot 3 = none) (f : Option SlotFrame) (kind : Nat) (code : ReplyCode)
    (contents : List Byte) :
    ((s.setRequestSlot f).reply kind code contents).setRequestSlot none = s.reply kind code contents := by
  simp [State.setRequestSlot, State.reply, Link.reply_within hslot]

/-- As `State.reply_within`, for a state that carries the request in its slot and is otherwise s. -/
theorem State.reply_emptied {s t : State} (kind : Nat) (code : ReplyCode) (contents : List Byte)
    (hslot : s.link.slot 3 = none) (f : Option SlotFrame) (h : t = s.setRequestSlot f) :
    (t.reply kind code contents).setRequestSlot none = s.reply kind code contents := by
  rw [h, State.reply_within hslot]

end Sys2Proof.Machine
end

