-- ==== Sys2Proof/Laws/Ops.lean ====
section
/-! SUPPORT. Which fields of the state each shared operation leaves alone: one lemma for each field an operation cannot
change, each by the lemmas of the operations it is made of. -/

namespace Sys2Proof.Machine

set_option Elab.async false

/-- A field that no turn of a loop changes is the same after the loop. -/
theorem State.foldl_same {β γ : Type} (field : State → γ) (f : State → β → State)
    (h : ∀ s b, field (f s b) = field s) (l : List β) (s : State) : field (l.foldl f s) = field s := by
  induction l generalizing s with
  | nil => rfl
  | cons b l ih => exact (ih (f s b)).trans (h s b)

variable (s : State)

/-! ### enterHalt -/

@[simp] theorem State.enterHalt_resetHeld : s.enterHalt.resetHeld = s.resetHeld := rfl
@[simp] theorem State.enterHalt_tick : s.enterHalt.tick = s.tick := rfl
@[simp] theorem State.enterHalt_stations : s.enterHalt.stations = s.stations := rfl
@[simp] theorem State.enterHalt_marks : s.enterHalt.marks = s.marks := rfl
@[simp] theorem State.enterHalt_windows : s.enterHalt.windows = s.windows := rfl
@[simp] theorem State.enterHalt_baths : s.enterHalt.baths = s.baths := rfl
@[simp] theorem State.enterHalt_recipes : s.enterHalt.recipes = s.recipes := rfl
@[simp] theorem State.enterHalt_racks : s.enterHalt.racks = s.racks := rfl
@[simp] theorem State.enterHalt_seqCounter : s.enterHalt.seqCounter = s.seqCounter := rfl
@[simp] theorem State.enterHalt_queue : s.enterHalt.queue = s.queue := rfl
@[simp] theorem State.enterHalt_requests : s.enterHalt.requests = s.requests := rfl
@[simp] theorem State.enterHalt_dispatcher : s.enterHalt.dispatcher = s.dispatcher := rfl
@[simp] theorem State.enterHalt_gens : s.enterHalt.gens = s.gens := rfl
@[simp] theorem State.enterHalt_io : s.enterHalt.io = s.io := rfl
@[simp] theorem State.enterHalt_pending : s.enterHalt.pending = s.pending := rfl

/-! ### moveFor -/

@[simp] theorem State.moveFor_resetHeld (c : Cause) : (s.moveFor c).resetHeld = s.resetHeld := by
  unfold State.moveFor; (try dsimp only); (repeat' split) <;> simp
@[simp] theorem State.moveFor_tick (c : Cause) : (s.moveFor c).tick = s.tick := by
  unfold State.moveFor; (try dsimp only); (repeat' split) <;> simp
@[simp] theorem State.moveFor_stations (c : Cause) : (s.moveFor c).stations = s.stations := by
  unfold State.moveFor; (try dsimp only); (repeat' split) <;> simp
@[simp] theorem State.moveFor_marks (c : Cause) : (s.moveFor c).marks = s.marks := by
  unfold State.moveFor; (try dsimp only); (repeat' split) <;> simp
@[simp] theorem State.moveFor_windows (c : Cause) : (s.moveFor c).windows = s.windows := by
  unfold State.moveFor; (try dsimp only); (repeat' split) <;> simp
@[simp] theorem State.moveFor_baths (c : Cause) : (s.moveFor c).baths = s.baths := by
  unfold State.moveFor; (try dsimp only); (repeat' split) <;> simp
@[simp] theorem State.moveFor_recipes (c : Cause) : (s.moveFor c).recipes = s.recipes := by
  unfold State.moveFor; (try dsimp only); (repeat' split) <;> simp
@[simp] theorem State.moveFor_racks (c : Cause) : (s.moveFor c).racks = s.racks := by
  unfold State.moveFor; (try dsimp only); (repeat' split) <;> simp
@[simp] theorem State.moveFor_seqCounter (c : Cause) : (s.moveFor c).seqCounter = s.seqCounter := by
  unfold State.moveFor; (try dsimp only); (repeat' split) <;> simp
@[simp] theorem State.moveFor_queue (c : Cause) : (s.moveFor c).queue = s.queue := by
  unfold State.moveFor; (try dsimp only); (repeat' split) <;> simp
@[simp] theorem State.moveFor_requests (c : Cause) : (s.moveFor c).requests = s.requests := by
  unfold State.moveFor; (try dsimp only); (repeat' split) <;> simp
@[simp] theorem State.moveFor_dispatcher (c : Cause) : (s.moveFor c).dispatcher = s.dispatcher := by
  unfold State.moveFor; (try dsimp only); (repeat' split) <;> simp
@[simp] theorem State.moveFor_gens (c : Cause) : (s.moveFor c).gens = s.gens := by
  unfold State.moveFor; (try dsimp only); (repeat' split) <;> simp
@[simp] theorem State.moveFor_io (c : Cause) : (s.moveFor c).io = s.io := by
  unfold State.moveFor; (try dsimp only); (repeat' split) <;> simp
@[simp] theorem State.moveFor_pending (c : Cause) : (s.moveFor c).pending = s.pending := by
  unfold State.moveFor; (try dsimp only); (repeat' split) <;> simp

/-! ### addCause -/

@[simp] theorem State.addCause_resetHeld (c : Cause) : (s.addCause c).resetHeld = s.resetHeld := by
  unfold State.addCause; (try dsimp only); (repeat' split) <;> simp
@[simp] theorem State.addCause_tick (c : Cause) : (s.addCause c).tick = s.tick := by
  unfold State.addCause; (try dsimp only); (repeat' split) <;> simp
@[simp] theorem State.addCause_stations (c : Cause) : (s.addCause c).stations = s.stations := by
  unfold State.addCause; (try dsimp only); (repeat' split) <;> simp
@[simp] theorem State.addCause_marks (c : Cause) : (s.addCause c).marks = s.marks := by
  unfold State.addCause; (try dsimp only); (repeat' split) <;> simp
@[simp] theorem State.addCause_windows (c : Cause) : (s.addCause c).windows = s.windows := by
  unfold State.addCause; (try dsimp only); (repeat' split) <;> simp
@[simp] theorem State.addCause_baths (c : Cause) : (s.addCause c).baths = s.baths := by
  unfold State.addCause; (try dsimp only); (repeat' split) <;> simp
@[simp] theorem State.addCause_recipes (c : Cause) : (s.addCause c).recipes = s.recipes := by
  unfold State.addCause; (try dsimp only); (repeat' split) <;> simp
@[simp] theorem State.addCause_racks (c : Cause) : (s.addCause c).racks = s.racks := by
  unfold State.addCause; (try dsimp only); (repeat' split) <;> simp
@[simp] theorem State.addCause_seqCounter (c : Cause) : (s.addCause c).seqCounter = s.seqCounter := by
  unfold State.addCause; (try dsimp only); (repeat' split) <;> simp
@[simp] theorem State.addCause_queue (c : Cause) : (s.addCause c).queue = s.queue := by
  unfold State.addCause; (try dsimp only); (repeat' split) <;> simp
@[simp] theorem State.addCause_requests (c : Cause) : (s.addCause c).requests = s.requests := by
  unfold State.addCause; (try dsimp only); (repeat' split) <;> simp
@[simp] theorem State.addCause_dispatcher (c : Cause) : (s.addCause c).dispatcher = s.dispatcher := by
  unfold State.addCause; (try dsimp only); (repeat' split) <;> simp
@[simp] theorem State.addCause_gens (c : Cause) : (s.addCause c).gens = s.gens := by
  unfold State.addCause; (try dsimp only); (repeat' split) <;> simp
@[simp] theorem State.addCause_io (c : Cause) : (s.addCause c).io = s.io := by
  unfold State.addCause; (try dsimp only); (repeat' split) <;> simp
@[simp] theorem State.addCause_pending (c : Cause) : (s.addCause c).pending = s.pending := by
  unfold State.addCause; (try dsimp only); (repeat' split) <;> simp

/-! ### addFlag -/

@[simp] theorem State.addFlag_resetHeld (k : Nat) (f : StepFlag) : (s.addFlag k f).resetHeld = s.resetHeld := by
  unfold State.addFlag; (repeat' split) <;> simp
@[simp] theorem State.addFlag_tick (k : Nat) (f : StepFlag) : (s.addFlag k f).tick = s.tick := by
  unfold State.addFlag; (repeat' split) <;> simp
@[simp] theorem State.addFlag_stations (k : Nat) (f : StepFlag) : (s.addFlag k f).stations = s.stations := by
  unfold State.addFlag; (repeat' split) <;> simp
@[simp] theorem State.addFlag_marks (k : Nat) (f : StepFlag) : (s.addFlag k f).marks = s.marks := by
  unfold State.addFlag; (repeat' split) <;> simp
@[simp] theorem State.addFlag_windows (k : Nat) (f : StepFlag) : (s.addFlag k f).windows = s.windows := by
  unfold State.addFlag; (repeat' split) <;> simp
@[simp] theorem State.addFlag_baths (k : Nat) (f : StepFlag) : (s.addFlag k f).baths = s.baths := by
  unfold State.addFlag; (repeat' split) <;> simp
@[simp] theorem State.addFlag_recipes (k : Nat) (f : StepFlag) : (s.addFlag k f).recipes = s.recipes := by
  unfold State.addFlag; (repeat' split) <;> simp
@[simp] theorem State.addFlag_seqCounter (k : Nat) (f : StepFlag) : (s.addFlag k f).seqCounter = s.seqCounter := by
  unfold State.addFlag; (repeat' split) <;> simp
@[simp] theorem State.addFlag_queue (k : Nat) (f : StepFlag) : (s.addFlag k f).queue = s.queue := by
  unfold State.addFlag; (repeat' split) <;> simp
@[simp] theorem State.addFlag_requests (k : Nat) (f : StepFlag) : (s.addFlag k f).requests = s.requests := by
  unfold State.addFlag; (repeat' split) <;> simp
@[simp] theorem State.addFlag_dispatcher (k : Nat) (f : StepFlag) : (s.addFlag k f).dispatcher = s.dispatcher := by
  unfold State.addFlag; (repeat' split) <;> simp
@[simp] theorem State.addFlag_hoistA (k : Nat) (f : StepFlag) : (s.addFlag k f).hoistA = s.hoistA := by
  unfold State.addFlag; (repeat' split) <;> simp
@[simp] theorem State.addFlag_hoistB (k : Nat) (f : StepFlag) : (s.addFlag k f).hoistB = s.hoistB := by
  unfold State.addFlag; (repeat' split) <;> simp
@[simp] theorem State.addFlag_span (k : Nat) (f : StepFlag) : (s.addFlag k f).span = s.span := by
  unfold State.addFlag; (repeat' split) <;> simp
@[simp] theorem State.addFlag_gens (k : Nat) (f : StepFlag) : (s.addFlag k f).gens = s.gens := by
  unfold State.addFlag; (repeat' split) <;> simp
@[simp] theorem State.addFlag_line (k : Nat) (f : StepFlag) : (s.addFlag k f).line = s.line := by
  unfold State.addFlag; (repeat' split) <;> simp
@[simp] theorem State.addFlag_io (k : Nat) (f : StepFlag) : (s.addFlag k f).io = s.io := by
  unfold State.addFlag; (repeat' split) <;> simp
@[simp] theorem State.addFlag_link (k : Nat) (f : StepFlag) : (s.addFlag k f).link = s.link := by
  unfold State.addFlag; (repeat' split) <;> simp
@[simp] theorem State.addFlag_pending (k : Nat) (f : StepFlag) : (s.addFlag k f).pending = s.pending := by
  unfold State.addFlag; (repeat' split) <;> simp

/-! ### chooseDestination -/

@[simp] theorem State.chooseDestination_resetHeld (k : Nat) : (s.chooseDestination k).resetHeld = s.resetHeld := by
  unfold State.chooseDestination; (repeat' split) <;> simp
@[simp] theorem State.chooseDestination_tick (k : Nat) : (s.chooseDestination k).tick = s.tick := by
  unfold State.chooseDestination; (repeat' split) <;> simp
@[simp] theorem State.chooseDestination_marks (k : Nat) : (s.chooseDestination k).marks = s.marks := by
  unfold State.chooseDestination; (repeat' split) <;> simp
@[simp] theorem State.chooseDestination_windows (k : Nat) : (s.chooseDestination k).windows = s.windows := by
  unfold State.chooseDestination; (repeat' split) <;> simp
@[simp] theorem State.chooseDestination_baths (k : Nat) : (s.chooseDestination k).baths = s.baths := by
  unfold State.chooseDestination; (repeat' split) <;> simp
@[simp] theorem State.chooseDestination_recipes (k : Nat) : (s.chooseDestination k).recipes = s.recipes := by
  unfold State.chooseDestination; (repeat' split) <;> simp
@[simp] theorem State.chooseDestination_seqCounter (k : Nat) : (s.chooseDestination k).seqCounter = s.seqCounter := by
  unfold State.chooseDestination; (repeat' split) <;> simp
@[simp] theorem State.chooseDestination_queue (k : Nat) : (s.chooseDestination k).queue = s.queue := by
  unfold State.chooseDestination; (repeat' split) <;> simp
@[simp] theorem State.chooseDestination_dispatcher (k : Nat) : (s.chooseDestination k).dispatcher = s.dispatcher := by
  unfold State.chooseDestination; (repeat' split) <;> simp
@[simp] theorem State.chooseDestination_hoistA (k : Nat) : (s.chooseDestination k).hoistA = s.hoistA := by
  unfold State.chooseDestination; (repeat' split) <;> simp
@[simp] theorem State.chooseDestination_hoistB (k : Nat) : (s.chooseDestination k).hoistB = s.hoistB := by
  unfold State.chooseDestination; (repeat' split) <;> simp
@[simp] theorem State.chooseDestination_span (k : Nat) : (s.chooseDestination k).span = s.span := by
  unfold State.chooseDestination; (repeat' split) <;> simp
@[simp] theorem State.chooseDestination_gens (k : Nat) : (s.chooseDestination k).gens = s.gens := by
  unfold State.chooseDestination; (repeat' split) <;> simp
@[simp] theorem State.chooseDestination_line (k : Nat) : (s.chooseDestination k).line = s.line := by
  unfold State.chooseDestination; (repeat' split) <;> simp
@[simp] theorem State.chooseDestination_io (k : Nat) : (s.chooseDestination k).io = s.io := by
  unfold State.chooseDestination; (repeat' split) <;> simp
@[simp] theorem State.chooseDestination_link (k : Nat) : (s.chooseDestination k).link = s.link := by
  unfold State.chooseDestination; (repeat' split) <;> simp
@[simp] theorem State.chooseDestination_pending (k : Nat) : (s.chooseDestination k).pending = s.pending := by
  unfold State.chooseDestination; (repeat' split) <;> simp

/-! ### createRequest -/

@[simp] theorem State.createRequest_resetHeld (k : Nat) : (s.createRequest k).resetHeld = s.resetHeld := by
  unfold State.createRequest; (repeat' split) <;> simp
@[simp] theorem State.createRequest_tick (k : Nat) : (s.createRequest k).tick = s.tick := by
  unfold State.createRequest; (repeat' split) <;> simp
@[simp] theorem State.createRequest_marks (k : Nat) : (s.createRequest k).marks = s.marks := by
  unfold State.createRequest; (repeat' split) <;> simp
@[simp] theorem State.createRequest_windows (k : Nat) : (s.createRequest k).windows = s.windows := by
  unfold State.createRequest; (repeat' split) <;> simp
@[simp] theorem State.createRequest_baths (k : Nat) : (s.createRequest k).baths = s.baths := by
  unfold State.createRequest; (repeat' split) <;> simp
@[simp] theorem State.createRequest_recipes (k : Nat) : (s.createRequest k).recipes = s.recipes := by
  unfold State.createRequest; (repeat' split) <;> simp
@[simp] theorem State.createRequest_seqCounter (k : Nat) : (s.createRequest k).seqCounter = s.seqCounter := by
  unfold State.createRequest; (repeat' split) <;> simp
@[simp] theorem State.createRequest_queue (k : Nat) : (s.createRequest k).queue = s.queue := by
  unfold State.createRequest; (repeat' split) <;> simp
@[simp] theorem State.createRequest_dispatcher (k : Nat) : (s.createRequest k).dispatcher = s.dispatcher := by
  unfold State.createRequest; (repeat' split) <;> simp
@[simp] theorem State.createRequest_hoistA (k : Nat) : (s.createRequest k).hoistA = s.hoistA := by
  unfold State.createRequest; (repeat' split) <;> simp
@[simp] theorem State.createRequest_hoistB (k : Nat) : (s.createRequest k).hoistB = s.hoistB := by
  unfold State.createRequest; (repeat' split) <;> simp
@[simp] theorem State.createRequest_span (k : Nat) : (s.createRequest k).span = s.span := by
  unfold State.createRequest; (repeat' split) <;> simp
@[simp] theorem State.createRequest_gens (k : Nat) : (s.createRequest k).gens = s.gens := by
  unfold State.createRequest; (repeat' split) <;> simp
@[simp] theorem State.createRequest_line (k : Nat) : (s.createRequest k).line = s.line := by
  unfold State.createRequest; (repeat' split) <;> simp
@[simp] theorem State.createRequest_io (k : Nat) : (s.createRequest k).io = s.io := by
  unfold State.createRequest; (repeat' split) <;> simp
@[simp] theorem State.createRequest_link (k : Nat) : (s.createRequest k).link = s.link := by
  unfold State.createRequest; (repeat' split) <;> simp
@[simp] theorem State.createRequest_pending (k : Nat) : (s.createRequest k).pending = s.pending := by
  unfold State.createRequest; (repeat' split) <;> simp

/-! ### retryOne -/

@[simp] theorem State.retryOne_resetHeld (k : Nat) : (s.retryOne k).resetHeld = s.resetHeld := by
  unfold State.retryOne; (try dsimp only); (repeat' split) <;> simp
@[simp] theorem State.retryOne_tick (k : Nat) : (s.retryOne k).tick = s.tick := by
  unfold State.retryOne; (try dsimp only); (repeat' split) <;> simp
@[simp] theorem State.retryOne_marks (k : Nat) : (s.retryOne k).marks = s.marks := by
  unfold State.retryOne; (try dsimp only); (repeat' split) <;> simp
@[simp] theorem State.retryOne_windows (k : Nat) : (s.retryOne k).windows = s.windows := by
  unfold State.retryOne; (try dsimp only); (repeat' split) <;> simp
@[simp] theorem State.retryOne_baths (k : Nat) : (s.retryOne k).baths = s.baths := by
  unfold State.retryOne; (try dsimp only); (repeat' split) <;> simp
@[simp] theorem State.retryOne_recipes (k : Nat) : (s.retryOne k).recipes = s.recipes := by
  unfold State.retryOne; (try dsimp only); (repeat' split) <;> simp
@[simp] theorem State.retryOne_seqCounter (k : Nat) : (s.retryOne k).seqCounter = s.seqCounter := by
  unfold State.retryOne; (try dsimp only); (repeat' split) <;> simp
@[simp] theorem State.retryOne_queue (k : Nat) : (s.retryOne k).queue = s.queue := by
  unfold State.retryOne; (try dsimp only); (repeat' split) <;> simp
@[simp] theorem State.retryOne_hoistA (k : Nat) : (s.retryOne k).hoistA = s.hoistA := by
  unfold State.retryOne; (try dsimp only); (repeat' split) <;> simp
@[simp] theorem State.retryOne_hoistB (k : Nat) : (s.retryOne k).hoistB = s.hoistB := by
  unfold State.retryOne; (try dsimp only); (repeat' split) <;> simp
@[simp] theorem State.retryOne_span (k : Nat) : (s.retryOne k).span = s.span := by
  unfold State.retryOne; (try dsimp only); (repeat' split) <;> simp
@[simp] theorem State.retryOne_gens (k : Nat) : (s.retryOne k).gens = s.gens := by
  unfold State.retryOne; (try dsimp only); (repeat' split) <;> simp
@[simp] theorem State.retryOne_line (k : Nat) : (s.retryOne k).line = s.line := by
  unfold State.retryOne; (try dsimp only); (repeat' split) <;> simp
@[simp] theorem State.retryOne_io (k : Nat) : (s.retryOne k).io = s.io := by
  unfold State.retryOne; (try dsimp only); (repeat' split) <;> simp
@[simp] theorem State.retryOne_link (k : Nat) : (s.retryOne k).link = s.link := by
  unfold State.retryOne; (try dsimp only); (repeat' split) <;> simp
@[simp] theorem State.retryOne_pending (k : Nat) : (s.retryOne k).pending = s.pending := by
  unfold State.retryOne; (try dsimp only); (repeat' split) <;> simp

/-! ### retryBlocked -/

@[simp] theorem State.retryBlocked_resetHeld (n : Nat) : (s.retryBlocked n).resetHeld = s.resetHeld := by
  unfold State.retryBlocked; dsimp only; split <;> simp [State.foldl_same State.resetHeld]
@[simp] theorem State.retryBlocked_tick (n : Nat) : (s.retryBlocked n).tick = s.tick := by
  unfold State.retryBlocked; dsimp only; split <;> simp [State.foldl_same State.tick]
@[simp] theorem State.retryBlocked_marks (n : Nat) : (s.retryBlocked n).marks = s.marks := by
  unfold State.retryBlocked; dsimp only; split <;> simp [State.foldl_same State.marks]
@[simp] theorem State.retryBlocked_windows (n : Nat) : (s.retryBlocked n).windows = s.windows := by
  unfold State.retryBlocked; dsimp only; split <;> simp [State.foldl_same State.windows]
@[simp] theorem State.retryBlocked_baths (n : Nat) : (s.retryBlocked n).baths = s.baths := by
  unfold State.retryBlocked; dsimp only; split <;> simp [State.foldl_same State.baths]
@[simp] theorem State.retryBlocked_recipes (n : Nat) : (s.retryBlocked n).recipes = s.recipes := by
  unfold State.retryBlocked; dsimp only; split <;> simp [State.foldl_same State.recipes]
@[simp] theorem State.retryBlocked_seqCounter (n : Nat) : (s.retryBlocked n).seqCounter = s.seqCounter := by
  unfold State.retryBlocked; dsimp only; split <;> simp [State.foldl_same State.seqCounter]
@[simp] theorem State.retryBlocked_queue (n : Nat) : (s.retryBlocked n).queue = s.queue := by
  unfold State.retryBlocked; dsimp only; split <;> simp [State.foldl_same State.queue]
@[simp] theorem State.retryBlocked_hoistA (n : Nat) : (s.retryBlocked n).hoistA = s.hoistA := by
  unfold State.retryBlocked; dsimp only; split <;> simp [State.foldl_same State.hoistA]
@[simp] theorem State.retryBlocked_hoistB (n : Nat) : (s.retryBlocked n).hoistB = s.hoistB := by
  unfold State.retryBlocked; dsimp only; split <;> simp [State.foldl_same State.hoistB]
@[simp] theorem State.retryBlocked_span (n : Nat) : (s.retryBlocked n).span = s.span := by
  unfold State.retryBlocked; dsimp only; split <;> simp [State.foldl_same State.span]
@[simp] theorem State.retryBlocked_gens (n : Nat) : (s.retryBlocked n).gens = s.gens := by
  unfold State.retryBlocked; dsimp only; split <;> simp [State.foldl_same State.gens]
@[simp] theorem State.retryBlocked_line (n : Nat) : (s.retryBlocked n).line = s.line := by
  unfold State.retryBlocked; dsimp only; split <;> simp [State.foldl_same State.line]
@[simp] theorem State.retryBlocked_io (n : Nat) : (s.retryBlocked n).io = s.io := by
  unfold State.retryBlocked; dsimp only; split <;> simp [State.foldl_same State.io]
@[simp] theorem State.retryBlocked_link (n : Nat) : (s.retryBlocked n).link = s.link := by
  unfold State.retryBlocked; dsimp only; split <;> simp [State.foldl_same State.link]
@[simp] theorem State.retryBlocked_pending (n : Nat) : (s.retryBlocked n).pending = s.pending := by
  unfold State.retryBlocked; dsimp only; split <;> simp [State.foldl_same State.pending]

/-! ### returnRequest -/

@[simp] theorem State.returnRequest_resetHeld (k : Nat) : (s.returnRequest k).resetHeld = s.resetHeld := by
  unfold State.returnRequest; (repeat' split) <;> simp
@[simp] theorem State.returnRequest_tick (k : Nat) : (s.returnRequest k).tick = s.tick := by
  unfold State.returnRequest; (repeat' split) <;> simp
@[simp] theorem State.returnRequest_stations (k : Nat) : (s.returnRequest k).stations = s.stations := by
  unfold State.returnRequest; (repeat' split) <;> simp
@[simp] theorem State.returnRequest_marks (k : Nat) : (s.returnRequest k).marks = s.marks := by
  unfold State.returnRequest; (repeat' split) <;> simp
@[simp] theorem State.returnRequest_windows (k : Nat) : (s.returnRequest k).windows = s.windows := by
  unfold State.returnRequest; (repeat' split) <;> simp
@[simp] theorem State.returnRequest_baths (k : Nat) : (s.returnRequest k).baths = s.baths := by
  unfold State.returnRequest; (repeat' split) <;> simp
@[simp] theorem State.returnRequest_recipes (k : Nat) : (s.returnRequest k).recipes = s.recipes := by
  unfold State.returnRequest; (repeat' split) <;> simp
@[simp] theorem State.returnRequest_racks (k : Nat) : (s.returnRequest k).racks = s.racks := by
  unfold State.returnRequest; (repeat' split) <;> simp
@[simp] theorem State.returnRequest_seqCounter (k : Nat) : (s.returnRequest k).seqCounter = s.seqCounter := by
  unfold State.returnRequest; (repeat' split) <;> simp
@[simp] theorem State.returnRequest_queue (k : Nat) : (s.returnRequest k).queue = s.queue := by
  unfold State.returnRequest; (repeat' split) <;> simp
@[simp] theorem State.returnRequest_dispatcher (k : Nat) : (s.returnRequest k).dispatcher = s.dispatcher := by
  unfold State.returnRequest; (repeat' split) <;> simp
@[simp] theorem State.returnRequest_hoistA (k : Nat) : (s.returnRequest k).hoistA = s.hoistA := by
  unfold State.returnRequest; (repeat' split) <;> simp
@[simp] theorem State.returnRequest_hoistB (k : Nat) : (s.returnRequest k).hoistB = s.hoistB := by
  unfold State.returnRequest; (repeat' split) <;> simp
@[simp] theorem State.returnRequest_span (k : Nat) : (s.returnRequest k).span = s.span := by
  unfold State.returnRequest; (repeat' split) <;> simp
@[simp] theorem State.returnRequest_gens (k : Nat) : (s.returnRequest k).gens = s.gens := by
  unfold State.returnRequest; (repeat' split) <;> simp
@[simp] theorem State.returnRequest_line (k : Nat) : (s.returnRequest k).line = s.line := by
  unfold State.returnRequest; (repeat' split) <;> simp
@[simp] theorem State.returnRequest_io (k : Nat) : (s.returnRequest k).io = s.io := by
  unfold State.returnRequest; (repeat' split) <;> simp
@[simp] theorem State.returnRequest_link (k : Nat) : (s.returnRequest k).link = s.link := by
  unfold State.returnRequest; (repeat' split) <;> simp
@[simp] theorem State.returnRequest_pending (k : Nat) : (s.returnRequest k).pending = s.pending := by
  unfold State.returnRequest; (repeat' split) <;> simp

/-! ### removeRequest -/

@[simp] theorem State.removeRequest_resetHeld (k : Nat) : (s.removeRequest k).resetHeld = s.resetHeld := by
  unfold State.removeRequest; (try dsimp only); (repeat' split) <;> simp
@[simp] theorem State.removeRequest_tick (k : Nat) : (s.removeRequest k).tick = s.tick := by
  unfold State.removeRequest; (try dsimp only); (repeat' split) <;> simp
@[simp] theorem State.removeRequest_stations (k : Nat) : (s.removeRequest k).stations = s.stations := by
  unfold State.removeRequest; (try dsimp only); (repeat' split) <;> simp
@[simp] theorem State.removeRequest_marks (k : Nat) : (s.removeRequest k).marks = s.marks := by
  unfold State.removeRequest; (try dsimp only); (repeat' split) <;> simp
@[simp] theorem State.removeRequest_windows (k : Nat) : (s.removeRequest k).windows = s.windows := by
  unfold State.removeRequest; (try dsimp only); (repeat' split) <;> simp
@[simp] theorem State.removeRequest_baths (k : Nat) : (s.removeRequest k).baths = s.baths := by
  unfold State.removeRequest; (try dsimp only); (repeat' split) <;> simp
@[simp] theorem State.removeRequest_recipes (k : Nat) : (s.removeRequest k).recipes = s.recipes := by
  unfold State.removeRequest; (try dsimp only); (repeat' split) <;> simp
@[simp] theorem State.removeRequest_racks (k : Nat) : (s.removeRequest k).racks = s.racks := by
  unfold State.removeRequest; (try dsimp only); (repeat' split) <;> simp
@[simp] theorem State.removeRequest_seqCounter (k : Nat) : (s.removeRequest k).seqCounter = s.seqCounter := by
  unfold State.removeRequest; (try dsimp only); (repeat' split) <;> simp
@[simp] theorem State.removeRequest_queue (k : Nat) : (s.removeRequest k).queue = s.queue := by
  unfold State.removeRequest; (try dsimp only); (repeat' split) <;> simp
@[simp] theorem State.removeRequest_dispatcher (k : Nat) : (s.removeRequest k).dispatcher = s.dispatcher := by
  unfold State.removeRequest; (try dsimp only); (repeat' split) <;> simp
@[simp] theorem State.removeRequest_hoistA (k : Nat) : (s.removeRequest k).hoistA = s.hoistA := by
  unfold State.removeRequest; (try dsimp only); (repeat' split) <;> simp
@[simp] theorem State.removeRequest_hoistB (k : Nat) : (s.removeRequest k).hoistB = s.hoistB := by
  unfold State.removeRequest; (try dsimp only); (repeat' split) <;> simp
@[simp] theorem State.removeRequest_gens (k : Nat) : (s.removeRequest k).gens = s.gens := by
  unfold State.removeRequest; (try dsimp only); (repeat' split) <;> simp
@[simp] theorem State.removeRequest_line (k : Nat) : (s.removeRequest k).line = s.line := by
  unfold State.removeRequest; (try dsimp only); (repeat' split) <;> simp
@[simp] theorem State.removeRequest_io (k : Nat) : (s.removeRequest k).io = s.io := by
  unfold State.removeRequest; (try dsimp only); (repeat' split) <;> simp
@[simp] theorem State.removeRequest_link (k : Nat) : (s.removeRequest k).link = s.link := by
  unfold State.removeRequest; (try dsimp only); (repeat' split) <;> simp
@[simp] theorem State.removeRequest_pending (k : Nat) : (s.removeRequest k).pending = s.pending := by
  unfold State.removeRequest; (try dsimp only); (repeat' split) <;> simp

/-! ### sendOwed -/

@[simp] theorem State.sendOwed_resetHeld (b : Nat) : (s.sendOwed b).resetHeld = s.resetHeld := by
  unfold State.sendOwed; (try dsimp only); (repeat' split) <;> simp
@[simp] theorem State.sendOwed_tick (b : Nat) : (s.sendOwed b).tick = s.tick := by
  unfold State.sendOwed; (try dsimp only); (repeat' split) <;> simp
@[simp] theorem State.sendOwed_stations (b : Nat) : (s.sendOwed b).stations = s.stations := by
  unfold State.sendOwed; (try dsimp only); (repeat' split) <;> simp
@[simp] theorem State.sendOwed_marks (b : Nat) : (s.sendOwed b).marks = s.marks := by
  unfold State.sendOwed; (try dsimp only); (repeat' split) <;> simp
@[simp] theorem State.sendOwed_windows (b : Nat) : (s.sendOwed b).windows = s.windows := by
  unfold State.sendOwed; (try dsimp only); (repeat' split) <;> simp
@[simp] theorem State.sendOwed_recipes (b : Nat) : (s.sendOwed b).recipes = s.recipes := by
  unfold State.sendOwed; (try dsimp only); (repeat' split) <;> simp
@[simp] theorem State.sendOwed_racks (b : Nat) : (s.sendOwed b).racks = s.racks := by
  unfold State.sendOwed; (try dsimp only); (repeat' split) <;> simp
@[simp] theorem State.sendOwed_seqCounter (b : Nat) : (s.sendOwed b).seqCounter = s.seqCounter := by
  unfold State.sendOwed; (try dsimp only); (repeat' split) <;> simp
@[simp] theorem State.sendOwed_queue (b : Nat) : (s.sendOwed b).queue = s.queue := by
  unfold State.sendOwed; (try dsimp only); (repeat' split) <;> simp
@[simp] theorem State.sendOwed_requests (b : Nat) : (s.sendOwed b).requests = s.requests := by
  unfold State.sendOwed; (try dsimp only); (repeat' split) <;> simp
@[simp] theorem State.sendOwed_dispatcher (b : Nat) : (s.sendOwed b).dispatcher = s.dispatcher := by
  unfold State.sendOwed; (try dsimp only); (repeat' split) <;> simp
@[simp] theorem State.sendOwed_hoistA (b : Nat) : (s.sendOwed b).hoistA = s.hoistA := by
  unfold State.sendOwed; (try dsimp only); (repeat' split) <;> simp
@[simp] theorem State.sendOwed_hoistB (b : Nat) : (s.sendOwed b).hoistB = s.hoistB := by
  unfold State.sendOwed; (try dsimp only); (repeat' split) <;> simp
@[simp] theorem State.sendOwed_span (b : Nat) : (s.sendOwed b).span = s.span := by
  unfold State.sendOwed; (try dsimp only); (repeat' split) <;> simp
@[simp] theorem State.sendOwed_gens (b : Nat) : (s.sendOwed b).gens = s.gens := by
  unfold State.sendOwed; (try dsimp only); (repeat' split) <;> simp
@[simp] theorem State.sendOwed_line (b : Nat) : (s.sendOwed b).line = s.line := by
  unfold State.sendOwed; (try dsimp only); (repeat' split) <;> simp
@[simp] theorem State.sendOwed_io (b : Nat) : (s.sendOwed b).io = s.io := by
  unfold State.sendOwed; (try dsimp only); (repeat' split) <;> simp
@[simp] theorem State.sendOwed_pending (b : Nat) : (s.sendOwed b).pending = s.pending := by
  unfold State.sendOwed; (try dsimp only); (repeat' split) <;> simp

/-! ### serveUnsent -/

@[simp] theorem State.serveUnsent_resetHeld : s.serveUnsent.resetHeld = s.resetHeld := by
  unfold State.serveUnsent; (try dsimp only); (repeat' split) <;> simp
@[simp] theorem State.serveUnsent_tick : s.serveUnsent.tick = s.tick := by
  unfold State.serveUnsent; (try dsimp only); (repeat' split) <;> simp
@[simp] theorem State.serveUnsent_stations : s.serveUnsent.stations = s.stations := by
  unfold State.serveUnsent; (try dsimp only); (repeat' split) <;> simp
@[simp] theorem State.serveUnsent_marks : s.serveUnsent.marks = s.marks := by
  unfold State.serveUnsent; (try dsimp only); (repeat' split) <;> simp
@[simp] theorem State.serveUnsent_windows : s.serveUnsent.windows = s.windows := by
  unfold State.serveUnsent; (try dsimp only); (repeat' split) <;> simp
@[simp] theorem State.serveUnsent_recipes : s.serveUnsent.recipes = s.recipes := by
  unfold State.serveUnsent; (try dsimp only); (repeat' split) <;> simp
@[simp] theorem State.serveUnsent_racks : s.serveUnsent.racks = s.racks := by
  unfold State.serveUnsent; (try dsimp only); (repeat' split) <;> simp
@[simp] theorem State.serveUnsent_seqCounter : s.serveUnsent.seqCounter = s.seqCounter := by
  unfold State.serveUnsent; (try dsimp only); (repeat' split) <;> simp
@[simp] theorem State.serveUnsent_queue : s.serveUnsent.queue = s.queue := by
  unfold State.serveUnsent; (try dsimp only); (repeat' split) <;> simp
@[simp] theorem State.serveUnsent_requests : s.serveUnsent.requests = s.requests := by
  unfold State.serveUnsent; (try dsimp only); (repeat' split) <;> simp
@[simp] theorem State.serveUnsent_dispatcher : s.serveUnsent.dispatcher = s.dispatcher := by
  unfold State.serveUnsent; (try dsimp only); (repeat' split) <;> simp
@[simp] theorem State.serveUnsent_hoistA : s.serveUnsent.hoistA = s.hoistA := by
  unfold State.serveUnsent; (try dsimp only); (repeat' split) <;> simp
@[simp] theorem State.serveUnsent_hoistB : s.serveUnsent.hoistB = s.hoistB := by
  unfold State.serveUnsent; (try dsimp only); (repeat' split) <;> simp
@[simp] theorem State.serveUnsent_span : s.serveUnsent.span = s.span := by
  unfold State.serveUnsent; (try dsimp only); (repeat' split) <;> simp
@[simp] theorem State.serveUnsent_gens : s.serveUnsent.gens = s.gens := by
  unfold State.serveUnsent; (try dsimp only); (repeat' split) <;> simp
@[simp] theorem State.serveUnsent_line : s.serveUnsent.line = s.line := by
  unfold State.serveUnsent; (try dsimp only); (repeat' split) <;> simp
@[simp] theorem State.serveUnsent_io : s.serveUnsent.io = s.io := by
  unfold State.serveUnsent; (try dsimp only); (repeat' split) <;> simp
@[simp] theorem State.serveUnsent_pending : s.serveUnsent.pending = s.pending := by
  unfold State.serveUnsent; (try dsimp only); (repeat' split) <;> simp

/-! ### chargeBath -/

@[simp] theorem State.chargeBath_resetHeld (b a : Nat) : (s.chargeBath b a).resetHeld = s.resetHeld := by
  unfold State.chargeBath; simp
@[simp] theorem State.chargeBath_tick (b a : Nat) : (s.chargeBath b a).tick = s.tick := by
  unfold State.chargeBath; simp
@[simp] theorem State.chargeBath_stations (b a : Nat) : (s.chargeBath b a).stations = s.stations := by
  unfold State.chargeBath; simp
@[simp] theorem State.chargeBath_marks (b a : Nat) : (s.chargeBath b a).marks = s.marks := by
  unfold State.chargeBath; simp
@[simp] theorem State.chargeBath_windows (b a : Nat) : (s.chargeBath b a).windows = s.windows := by
  unfold State.chargeBath; simp
@[simp] theorem State.chargeBath_recipes (b a : Nat) : (s.chargeBath b a).recipes = s.recipes := by
  unfold State.chargeBath; simp
@[simp] theorem State.chargeBath_racks (b a : Nat) : (s.chargeBath b a).racks = s.racks := by
  unfold State.chargeBath; simp
@[simp] theorem State.chargeBath_seqCounter (b a : Nat) : (s.chargeBath b a).seqCounter = s.seqCounter := by
  unfold State.chargeBath; simp
@[simp] theorem State.chargeBath_queue (b a : Nat) : (s.chargeBath b a).queue = s.queue := by
  unfold State.chargeBath; simp
@[simp] theorem State.chargeBath_requests (b a : Nat) : (s.chargeBath b a).requests = s.requests := by
  unfold State.chargeBath; simp
@[simp] theorem State.chargeBath_dispatcher (b a : Nat) : (s.chargeBath b a).dispatcher = s.dispatcher := by
  unfold State.chargeBath; simp
@[simp] theorem State.chargeBath_hoistA (b a : Nat) : (s.chargeBath b a).hoistA = s.hoistA := by
  unfold State.chargeBath; simp
@[simp] theorem State.chargeBath_hoistB (b a : Nat) : (s.chargeBath b a).hoistB = s.hoistB := by
  unfold State.chargeBath; simp
@[simp] theorem State.chargeBath_span (b a : Nat) : (s.chargeBath b a).span = s.span := by
  unfold State.chargeBath; simp
@[simp] theorem State.chargeBath_gens (b a : Nat) : (s.chargeBath b a).gens = s.gens := by
  unfold State.chargeBath; simp
@[simp] theorem State.chargeBath_line (b a : Nat) : (s.chargeBath b a).line = s.line := by
  unfold State.chargeBath; simp
@[simp] theorem State.chargeBath_io (b a : Nat) : (s.chargeBath b a).io = s.io := by
  unfold State.chargeBath; simp
@[simp] theorem State.chargeBath_pending (b a : Nat) : (s.chargeBath b a).pending = s.pending := by
  unfold State.chargeBath; simp

/-! ### placeAdmitted -/

@[simp] theorem State.placeAdmitted_resetHeld (e : QueueEntry) (k : Nat) : (s.placeAdmitted e k).resetHeld = s.resetHeld := by
  unfold State.placeAdmitted; (try dsimp only); simp
@[simp] theorem State.placeAdmitted_tick (e : QueueEntry) (k : Nat) : (s.placeAdmitted e k).tick = s.tick := by
  unfold State.placeAdmitted; (try dsimp only); simp
@[simp] theorem State.placeAdmitted_marks (e : QueueEntry) (k : Nat) : (s.placeAdmitted e k).marks = s.marks := by
  unfold State.placeAdmitted; (try dsimp only); simp
@[simp] theorem State.placeAdmitted_windows (e : QueueEntry) (k : Nat) : (s.placeAdmitted e k).windows = s.windows := by
  unfold State.placeAdmitted; (try dsimp only); simp
@[simp] theorem State.placeAdmitted_recipes (e : QueueEntry) (k : Nat) : (s.placeAdmitted e k).recipes = s.recipes := by
  unfold State.placeAdmitted; (try dsimp only); simp
@[simp] theorem State.placeAdmitted_queue (e : QueueEntry) (k : Nat) : (s.placeAdmitted e k).queue = s.queue := by
  unfold State.placeAdmitted; (try dsimp only); simp
@[simp] theorem State.placeAdmitted_hoistA (e : QueueEntry) (k : Nat) : (s.placeAdmitted e k).hoistA = s.hoistA := by
  unfold State.placeAdmitted; (try dsimp only); simp
@[simp] theorem State.placeAdmitted_hoistB (e : QueueEntry) (k : Nat) : (s.placeAdmitted e k).hoistB = s.hoistB := by
  unfold State.placeAdmitted; (try dsimp only); simp
@[simp] theorem State.placeAdmitted_span (e : QueueEntry) (k : Nat) : (s.placeAdmitted e k).span = s.span := by
  unfold State.placeAdmitted; (try dsimp only); simp
@[simp] theorem State.placeAdmitted_gens (e : QueueEntry) (k : Nat) : (s.placeAdmitted e k).gens = s.gens := by
  unfold State.placeAdmitted; (try dsimp only); simp
@[simp] theorem State.placeAdmitted_line (e : QueueEntry) (k : Nat) : (s.placeAdmitted e k).line = s.line := by
  unfold State.placeAdmitted; (try dsimp only); simp
@[simp] theorem State.placeAdmitted_io (e : QueueEntry) (k : Nat) : (s.placeAdmitted e k).io = s.io := by
  unfold State.placeAdmitted; (try dsimp only); simp
@[simp] theorem State.placeAdmitted_link (e : QueueEntry) (k : Nat) : (s.placeAdmitted e k).link = s.link := by
  unfold State.placeAdmitted; (try dsimp only); simp
@[simp] theorem State.placeAdmitted_pending (e : QueueEntry) (k : Nat) : (s.placeAdmitted e k).pending = s.pending := by
  unfold State.placeAdmitted; (try dsimp only); simp

/-! ### noticeAdmitted -/

@[simp] theorem State.noticeAdmitted_resetHeld (k : Nat) : (s.noticeAdmitted k).resetHeld = s.resetHeld := by
  unfold State.noticeAdmitted; (repeat' split) <;> simp
@[simp] theorem State.noticeAdmitted_tick (k : Nat) : (s.noticeAdmitted k).tick = s.tick := by
  unfold State.noticeAdmitted; (repeat' split) <;> simp
@[simp] theorem State.noticeAdmitted_stations (k : Nat) : (s.noticeAdmitted k).stations = s.stations := by
  unfold State.noticeAdmitted; (repeat' split) <;> simp
@[simp] theorem State.noticeAdmitted_marks (k : Nat) : (s.noticeAdmitted k).marks = s.marks := by
  unfold State.noticeAdmitted; (repeat' split) <;> simp
@[simp] theorem State.noticeAdmitted_windows (k : Nat) : (s.noticeAdmitted k).windows = s.windows := by
  unfold State.noticeAdmitted; (repeat' split) <;> simp
@[simp] theorem State.noticeAdmitted_baths (k : Nat) : (s.noticeAdmitted k).baths = s.baths := by
  unfold State.noticeAdmitted; (repeat' split) <;> simp
@[simp] theorem State.noticeAdmitted_recipes (k : Nat) : (s.noticeAdmitted k).recipes = s.recipes := by
  unfold State.noticeAdmitted; (repeat' split) <;> simp
@[simp] theorem State.noticeAdmitted_racks (k : Nat) : (s.noticeAdmitted k).racks = s.racks := by
  unfold State.noticeAdmitted; (repeat' split) <;> simp
@[simp] theorem State.noticeAdmitted_seqCounter (k : Nat) : (s.noticeAdmitted k).seqCounter = s.seqCounter := by
  unfold State.noticeAdmitted; (repeat' split) <;> simp
@[simp] theorem State.noticeAdmitted_queue (k : Nat) : (s.noticeAdmitted k).queue = s.queue := by
  unfold State.noticeAdmitted; (repeat' split) <;> simp
@[simp] theorem State.noticeAdmitted_requests (k : Nat) : (s.noticeAdmitted k).requests = s.requests := by
  unfold State.noticeAdmitted; (repeat' split) <;> simp
@[simp] theorem State.noticeAdmitted_dispatcher (k : Nat) : (s.noticeAdmitted k).dispatcher = s.dispatcher := by
  unfold State.noticeAdmitted; (repeat' split) <;> simp
@[simp] theorem State.noticeAdmitted_hoistA (k : Nat) : (s.noticeAdmitted k).hoistA = s.hoistA := by
  unfold State.noticeAdmitted; (repeat' split) <;> simp
@[simp] theorem State.noticeAdmitted_hoistB (k : Nat) : (s.noticeAdmitted k).hoistB = s.hoistB := by
  unfold State.noticeAdmitted; (repeat' split) <;> simp
@[simp] theorem State.noticeAdmitted_span (k : Nat) : (s.noticeAdmitted k).span = s.span := by
  unfold State.noticeAdmitted; (repeat' split) <;> simp
@[simp] theorem State.noticeAdmitted_gens (k : Nat) : (s.noticeAdmitted k).gens = s.gens := by
  unfold State.noticeAdmitted; (repeat' split) <;> simp
@[simp] theorem State.noticeAdmitted_line (k : Nat) : (s.noticeAdmitted k).line = s.line := by
  unfold State.noticeAdmitted; (repeat' split) <;> simp
@[simp] theorem State.noticeAdmitted_io (k : Nat) : (s.noticeAdmitted k).io = s.io := by
  unfold State.noticeAdmitted; (repeat' split) <;> simp
@[simp] theorem State.noticeAdmitted_pending (k : Nat) : (s.noticeAdmitted k).pending = s.pending := by
  unfold State.noticeAdmitted; (repeat' split) <;> simp

/-! ### retestFrom -/

@[simp] theorem State.retestFrom_resetHeld (n : Nat) : (s.retestFrom n).resetHeld = s.resetHeld := by
  induction n generalizing s with
  | zero => rfl
  | succ n ih => unfold State.retestFrom; (repeat' split) <;> simp [ih]
@[simp] theorem State.retestFrom_tick (n : Nat) : (s.retestFrom n).tick = s.tick := by
  induction n generalizing s with
  | zero => rfl
  | succ n ih => unfold State.retestFrom; (repeat' split) <;> simp [ih]
@[simp] theorem State.retestFrom_marks (n : Nat) : (s.retestFrom n).marks = s.marks := by
  induction n generalizing s with
  | zero => rfl
  | succ n ih => unfold State.retestFrom; (repeat' split) <;> simp [ih]
@[simp] theorem State.retestFrom_windows (n : Nat) : (s.retestFrom n).windows = s.windows := by
  induction n generalizing s with
  | zero => rfl
  | succ n ih => unfold State.retestFrom; (repeat' split) <;> simp [ih]
@[simp] theorem State.retestFrom_recipes (n : Nat) : (s.retestFrom n).recipes = s.recipes := by
  induction n generalizing s with
  | zero => rfl
  | succ n ih => unfold State.retestFrom; (repeat' split) <;> simp [ih]
@[simp] theorem State.retestFrom_hoistA (n : Nat) : (s.retestFrom n).hoistA = s.hoistA := by
  induction n generalizing s with
  | zero => rfl
  | succ n ih => unfold State.retestFrom; (repeat' split) <;> simp [ih]
@[simp] theorem State.retestFrom_hoistB (n : Nat) : (s.retestFrom n).hoistB = s.hoistB := by
  induction n generalizing s with
  | zero => rfl
  | succ n ih => unfold State.retestFrom; (repeat' split) <;> simp [ih]
@[simp] theorem State.retestFrom_span (n : Nat) : (s.retestFrom n).span = s.span := by
  induction n generalizing s with
  | zero => rfl
  | succ n ih => unfold State.retestFrom; (repeat' split) <;> simp [ih]
@[simp] theorem State.retestFrom_gens (n : Nat) : (s.retestFrom n).gens = s.gens := by
  induction n generalizing s with
  | zero => rfl
  | succ n ih => unfold State.retestFrom; (repeat' split) <;> simp [ih]
@[simp] theorem State.retestFrom_line (n : Nat) : (s.retestFrom n).line = s.line := by
  induction n generalizing s with
  | zero => rfl
  | succ n ih => unfold State.retestFrom; (repeat' split) <;> simp [ih]
@[simp] theorem State.retestFrom_io (n : Nat) : (s.retestFrom n).io = s.io := by
  induction n generalizing s with
  | zero => rfl
  | succ n ih => unfold State.retestFrom; (repeat' split) <;> simp [ih]
@[simp] theorem State.retestFrom_pending (n : Nat) : (s.retestFrom n).pending = s.pending := by
  induction n generalizing s with
  | zero => rfl
  | succ n ih => unfold State.retestFrom; (repeat' split) <;> simp [ih]

/-! ### retestHead -/

@[simp] theorem State.retestHead_resetHeld : s.retestHead.resetHeld = s.resetHeld := by
  unfold State.retestHead; simp
@[simp] theorem State.retestHead_tick : s.retestHead.tick = s.tick := by
  unfold State.retestHead; simp
@[simp] theorem State.retestHead_marks : s.retestHead.marks = s.marks := by
  unfold State.retestHead; simp
@[simp] theorem State.retestHead_windows : s.retestHead.windows = s.windows := by
  unfold State.retestHead; simp
@[simp] theorem State.retestHead_recipes : s.retestHead.recipes = s.recipes := by
  unfold State.retestHead; simp
@[simp] theorem State.retestHead_hoistA : s.retestHead.hoistA = s.hoistA := by
  unfold State.retestHead; simp
@[simp] theorem State.retestHead_hoistB : s.retestHead.hoistB = s.hoistB := by
  unfold State.retestHead; simp
@[simp] theorem State.retestHead_span : s.retestHead.span = s.span := by
  unfold State.retestHead; simp
@[simp] theorem State.retestHead_gens : s.retestHead.gens = s.gens := by
  unfold State.retestHead; simp
@[simp] theorem State.retestHead_line : s.retestHead.line = s.line := by
  unfold State.retestHead; simp
@[simp] theorem State.retestHead_io : s.retestHead.io = s.io := by
  unfold State.retestHead; simp
@[simp] theorem State.retestHead_pending : s.retestHead.pending = s.pending := by
  unfold State.retestHead; simp

/-! ### sendSpan -/

@[simp] theorem State.sendSpan_resetHeld (h : Hoist) : (s.sendSpan h).resetHeld = s.resetHeld := by
  unfold State.sendSpan; (try dsimp only); (repeat' split) <;> simp
@[simp] theorem State.sendSpan_tick (h : Hoist) : (s.sendSpan h).tick = s.tick := by
  unfold State.sendSpan; (try dsimp only); (repeat' split) <;> simp
@[simp] theorem State.sendSpan_stations (h : Hoist) : (s.sendSpan h).stations = s.stations := by
  unfold State.sendSpan; (try dsimp only); (repeat' split) <;> simp
@[simp] theorem State.sendSpan_marks (h : Hoist) : (s.sendSpan h).marks = s.marks := by
  unfold State.sendSpan; (try dsimp only); (repeat' split) <;> simp
@[simp] theorem State.sendSpan_windows (h : Hoist) : (s.sendSpan h).windows = s.windows := by
  unfold State.sendSpan; (try dsimp only); (repeat' split) <;> simp
@[simp] theorem State.sendSpan_baths (h : Hoist) : (s.sendSpan h).baths = s.baths := by
  unfold State.sendSpan; (try dsimp only); (repeat' split) <;> simp
@[simp] theorem State.sendSpan_recipes (h : Hoist) : (s.sendSpan h).recipes = s.recipes := by
  unfold State.sendSpan; (try dsimp only); (repeat' split) <;> simp
@[simp] theorem State.sendSpan_racks (h : Hoist) : (s.sendSpan h).racks = s.racks := by
  unfold State.sendSpan; (try dsimp only); (repeat' split) <;> simp
@[simp] theorem State.sendSpan_seqCounter (h : Hoist) : (s.sendSpan h).seqCounter = s.seqCounter := by
  unfold State.sendSpan; (try dsimp only); (repeat' split) <;> simp
@[simp] theorem State.sendSpan_queue (h : Hoist) : (s.sendSpan h).queue = s.queue := by
  unfold State.sendSpan; (try dsimp only); (repeat' split) <;> simp
@[simp] theorem State.sendSpan_requests (h : Hoist) : (s.sendSpan h).requests = s.requests := by
  unfold State.sendSpan; (try dsimp only); (repeat' split) <;> simp
@[simp] theorem State.sendSpan_dispatcher (h : Hoist) : (s.sendSpan h).dispatcher = s.dispatcher := by
  unfold State.sendSpan; (try dsimp only); (repeat' split) <;> simp
@[simp] theorem State.sendSpan_hoistA (h : Hoist) : (s.sendSpan h).hoistA = s.hoistA := by
  unfold State.sendSpan; (try dsimp only); (repeat' split) <;> simp
@[simp] theorem State.sendSpan_hoistB (h : Hoist) : (s.sendSpan h).hoistB = s.hoistB := by
  unfold State.sendSpan; (try dsimp only); (repeat' split) <;> simp
@[simp] theorem State.sendSpan_gens (h : Hoist) : (s.sendSpan h).gens = s.gens := by
  unfold State.sendSpan; (try dsimp only); (repeat' split) <;> simp
@[simp] theorem State.sendSpan_line (h : Hoist) : (s.sendSpan h).line = s.line := by
  unfold State.sendSpan; (try dsimp only); (repeat' split) <;> simp
@[simp] theorem State.sendSpan_io (h : Hoist) : (s.sendSpan h).io = s.io := by
  unfold State.sendSpan; (try dsimp only); (repeat' split) <;> simp
@[simp] theorem State.sendSpan_pending (h : Hoist) : (s.sendSpan h).pending = s.pending := by
  unfold State.sendSpan; (try dsimp only); (repeat' split) <;> simp

/-! ### checkPosition -/

@[simp] theorem State.checkPosition_resetHeld (h : Hoist) (p : Int) (sp : Span) : (s.checkPosition h p sp).resetHeld = s.resetHeld := by
  unfold State.checkPosition; (repeat' split) <;> simp
@[simp] theorem State.checkPosition_tick (h : Hoist) (p : Int) (sp : Span) : (s.checkPosition h p sp).tick = s.tick := by
  unfold State.checkPosition; (repeat' split) <;> simp
@[simp] theorem State.checkPosition_stations (h : Hoist) (p : Int) (sp : Span) : (s.checkPosition h p sp).stations = s.stations := by
  unfold State.checkPosition; (repeat' split) <;> simp
@[simp] theorem State.checkPosition_marks (h : Hoist) (p : Int) (sp : Span) : (s.checkPosition h p sp).marks = s.marks := by
  unfold State.checkPosition; (repeat' split) <;> simp
@[simp] theorem State.checkPosition_windows (h : Hoist) (p : Int) (sp : Span) : (s.checkPosition h p sp).windows = s.windows := by
  unfold State.checkPosition; (repeat' split) <;> simp
@[simp] theorem State.checkPosition_baths (h : Hoist) (p : Int) (sp : Span) : (s.checkPosition h p sp).baths = s.baths := by
  unfold State.checkPosition; (repeat' split) <;> simp
@[simp] theorem State.checkPosition_recipes (h : Hoist) (p : Int) (sp : Span) : (s.checkPosition h p sp).recipes = s.recipes := by
  unfold State.checkPosition; (repeat' split) <;> simp
@[simp] theorem State.checkPosition_racks (h : Hoist) (p : Int) (sp : Span) : (s.checkPosition h p sp).racks = s.racks := by
  unfold State.checkPosition; (repeat' split) <;> simp
@[simp] theorem State.checkPosition_seqCounter (h : Hoist) (p : Int) (sp : Span) : (s.checkPosition h p sp).seqCounter = s.seqCounter := by
  unfold State.checkPosition; (repeat' split) <;> simp
@[simp] theorem State.checkPosition_queue (h : Hoist) (p : Int) (sp : Span) : (s.checkPosition h p sp).queue = s.queue := by
  unfold State.checkPosition; (repeat' split) <;> simp
@[simp] theorem State.checkPosition_requests (h : Hoist) (p : Int) (sp : Span) : (s.checkPosition h p sp).requests = s.requests := by
  unfold State.checkPosition; (repeat' split) <;> simp
@[simp] theorem State.checkPosition_dispatcher (h : Hoist) (p : Int) (sp : Span) : (s.checkPosition h p sp).dispatcher = s.dispatcher := by
  unfold State.checkPosition; (repeat' split) <;> simp
@[simp] theorem State.checkPosition_gens (h : Hoist) (p : Int) (sp : Span) : (s.checkPosition h p sp).gens = s.gens := by
  unfold State.checkPosition; (repeat' split) <;> simp
@[simp] theorem State.checkPosition_io (h : Hoist) (p : Int) (sp : Span) : (s.checkPosition h p sp).io = s.io := by
  unfold State.checkPosition; (repeat' split) <;> simp
@[simp] theorem State.checkPosition_pending (h : Hoist) (p : Int) (sp : Span) : (s.checkPosition h p sp).pending = s.pending := by
  unfold State.checkPosition; (repeat' split) <;> simp

/-! ### recordPosition -/

@[simp] theorem State.recordPosition_resetHeld (h : Hoist) (p : Int) : (s.recordPosition h p).resetHeld = s.resetHeld := by
  unfold State.recordPosition; (try dsimp only); simp
@[simp] theorem State.recordPosition_tick (h : Hoist) (p : Int) : (s.recordPosition h p).tick = s.tick := by
  unfold State.recordPosition; (try dsimp only); simp
@[simp] theorem State.recordPosition_stations (h : Hoist) (p : Int) : (s.recordPosition h p).stations = s.stations := by
  unfold State.recordPosition; (try dsimp only); simp
@[simp] theorem State.recordPosition_marks (h : Hoist) (p : Int) : (s.recordPosition h p).marks = s.marks := by
  unfold State.recordPosition; (try dsimp only); simp
@[simp] theorem State.recordPosition_windows (h : Hoist) (p : Int) : (s.recordPosition h p).windows = s.windows := by
  unfold State.recordPosition; (try dsimp only); simp
@[simp] theorem State.recordPosition_baths (h : Hoist) (p : Int) : (s.recordPosition h p).baths = s.baths := by
  unfold State.recordPosition; (try dsimp only); simp
@[simp] theorem State.recordPosition_recipes (h : Hoist) (p : Int) : (s.recordPosition h p).recipes = s.recipes := by
  unfold State.recordPosition; (try dsimp only); simp
@[simp] theorem State.recordPosition_racks (h : Hoist) (p : Int) : (s.recordPosition h p).racks = s.racks := by
  unfold State.recordPosition; (try dsimp only); simp
@[simp] theorem State.recordPosition_seqCounter (h : Hoist) (p : Int) : (s.recordPosition h p).seqCounter = s.seqCounter := by
  unfold State.recordPosition; (try dsimp only); simp
@[simp] theorem State.recordPosition_queue (h : Hoist) (p : Int) : (s.recordPosition h p).queue = s.queue := by
  unfold State.recordPosition; (try dsimp only); simp
@[simp] theorem State.recordPosition_requests (h : Hoist) (p : Int) : (s.recordPosition h p).requests = s.requests := by
  unfold State.recordPosition; (try dsimp only); simp
@[simp] theorem State.recordPosition_dispatcher (h : Hoist) (p : Int) : (s.recordPosition h p).dispatcher = s.dispatcher := by
  unfold State.recordPosition; (try dsimp only); simp
@[simp] theorem State.recordPosition_gens (h : Hoist) (p : Int) : (s.recordPosition h p).gens = s.gens := by
  unfold State.recordPosition; (try dsimp only); simp
@[simp] theorem State.recordPosition_io (h : Hoist) (p : Int) : (s.recordPosition h p).io = s.io := by
  unfold State.recordPosition; (try dsimp only); simp
@[simp] theorem State.recordPosition_pending (h : Hoist) (p : Int) : (s.recordPosition h p).pending = s.pending := by
  unfold State.recordPosition; (try dsimp only); simp

/-! ### openOrder -/

@[simp] theorem State.openOrder_resetHeld (h : Hoist) (k : Nat) : (s.openOrder h k).resetHeld = s.resetHeld := by
  unfold State.openOrder; (try dsimp only); (repeat' split) <;> simp
@[simp] theorem State.openOrder_tick (h : Hoist) (k : Nat) : (s.openOrder h k).tick = s.tick := by
  unfold State.openOrder; (try dsimp only); (repeat' split) <;> simp
@[simp] theorem State.openOrder_stations (h : Hoist) (k : Nat) : (s.openOrder h k).stations = s.stations := by
  unfold State.openOrder; (try dsimp only); (repeat' split) <;> simp
@[simp] theorem State.openOrder_marks (h : Hoist) (k : Nat) : (s.openOrder h k).marks = s.marks := by
  unfold State.openOrder; (try dsimp only); (repeat' split) <;> simp
@[simp] theorem State.openOrder_windows (h : Hoist) (k : Nat) : (s.openOrder h k).windows = s.windows := by
  unfold State.openOrder; (try dsimp only); (repeat' split) <;> simp
@[simp] theorem State.openOrder_baths (h : Hoist) (k : Nat) : (s.openOrder h k).baths = s.baths := by
  unfold State.openOrder; (try dsimp only); (repeat' split) <;> simp
@[simp] theorem State.openOrder_recipes (h : Hoist) (k : Nat) : (s.openOrder h k).recipes = s.recipes := by
  unfold State.openOrder; (try dsimp only); (repeat' split) <;> simp
@[simp] theorem State.openOrder_racks (h : Hoist) (k : Nat) : (s.openOrder h k).racks = s.racks := by
  unfold State.openOrder; (try dsimp only); (repeat' split) <;> simp
@[simp] theorem State.openOrder_seqCounter (h : Hoist) (k : Nat) : (s.openOrder h k).seqCounter = s.seqCounter := by
  unfold State.openOrder; (try dsimp only); (repeat' split) <;> simp
@[simp] theorem State.openOrder_queue (h : Hoist) (k : Nat) : (s.openOrder h k).queue = s.queue := by
  unfold State.openOrder; (try dsimp only); (repeat' split) <;> simp
@[simp] theorem State.openOrder_dispatcher (h : Hoist) (k : Nat) : (s.openOrder h k).dispatcher = s.dispatcher := by
  unfold State.openOrder; (try dsimp only); (repeat' split) <;> simp
@[simp] theorem State.openOrder_span (h : Hoist) (k : Nat) : (s.openOrder h k).span = s.span := by
  unfold State.openOrder; (try dsimp only); (repeat' split) <;> simp
@[simp] theorem State.openOrder_gens (h : Hoist) (k : Nat) : (s.openOrder h k).gens = s.gens := by
  unfold State.openOrder; (try dsimp only); (repeat' split) <;> simp
@[simp] theorem State.openOrder_line (h : Hoist) (k : Nat) : (s.openOrder h k).line = s.line := by
  unfold State.openOrder; (try dsimp only); (repeat' split) <;> simp
@[simp] theorem State.openOrder_io (h : Hoist) (k : Nat) : (s.openOrder h k).io = s.io := by
  unfold State.openOrder; (try dsimp only); (repeat' split) <;> simp
@[simp] theorem State.openOrder_pending (h : Hoist) (k : Nat) : (s.openOrder h k).pending = s.pending := by
  unfold State.openOrder; (try dsimp only); (repeat' split) <;> simp

/-! ### beginShrinking -/

@[simp] theorem State.beginShrinking_resetHeld : s.beginShrinking.resetHeld = s.resetHeld := by
  unfold State.beginShrinking; (try dsimp only); simp
@[simp] theorem State.beginShrinking_tick : s.beginShrinking.tick = s.tick := by
  unfold State.beginShrinking; (try dsimp only); simp
@[simp] theorem State.beginShrinking_stations : s.beginShrinking.stations = s.stations := by
  unfold State.beginShrinking; (try dsimp only); simp
@[simp] theorem State.beginShrinking_marks : s.beginShrinking.marks = s.marks := by
  unfold State.beginShrinking; (try dsimp only); simp
@[simp] theorem State.beginShrinking_windows : s.beginShrinking.windows = s.windows := by
  unfold State.beginShrinking; (try dsimp only); simp
@[simp] theorem State.beginShrinking_baths : s.beginShrinking.baths = s.baths := by
  unfold State.beginShrinking; (try dsimp only); simp
@[simp] theorem State.beginShrinking_recipes : s.beginShrinking.recipes = s.recipes := by
  unfold State.beginShrinking; (try dsimp only); simp
@[simp] theorem State.beginShrinking_racks : s.beginShrinking.racks = s.racks := by
  unfold State.beginShrinking; (try dsimp only); simp
@[simp] theorem State.beginShrinking_seqCounter : s.beginShrinking.seqCounter = s.seqCounter := by
  unfold State.beginShrinking; (try dsimp only); simp
@[simp] theorem State.beginShrinking_queue : s.beginShrinking.queue = s.queue := by
  unfold State.beginShrinking; (try dsimp only); simp
@[simp] theorem State.beginShrinking_requests : s.beginShrinking.requests = s.requests := by
  unfold State.beginShrinking; (try dsimp only); simp
@[simp] theorem State.beginShrinking_dispatcher : s.beginShrinking.dispatcher = s.dispatcher := by
  unfold State.beginShrinking; (try dsimp only); simp
@[simp] theorem State.beginShrinking_hoistA : s.beginShrinking.hoistA = s.hoistA := by
  unfold State.beginShrinking; (try dsimp only); simp
@[simp] theorem State.beginShrinking_hoistB : s.beginShrinking.hoistB = s.hoistB := by
  unfold State.beginShrinking; (try dsimp only); simp
@[simp] theorem State.beginShrinking_gens : s.beginShrinking.gens = s.gens := by
  unfold State.beginShrinking; (try dsimp only); simp
@[simp] theorem State.beginShrinking_line : s.beginShrinking.line = s.line := by
  unfold State.beginShrinking; (try dsimp only); simp
@[simp] theorem State.beginShrinking_io : s.beginShrinking.io = s.io := by
  unfold State.beginShrinking; (try dsimp only); simp
@[simp] theorem State.beginShrinking_pending : s.beginShrinking.pending = s.pending := by
  unfold State.beginShrinking; (try dsimp only); simp

/-! ### beginWidening -/

@[simp] theorem State.beginWidening_resetHeld : s.beginWidening.resetHeld = s.resetHeld := by
  unfold State.beginWidening; (try dsimp only); simp
@[simp] theorem State.beginWidening_tick : s.beginWidening.tick = s.tick := by
  unfold State.beginWidening; (try dsimp only); simp
@[simp] theorem State.beginWidening_stations : s.beginWidening.stations = s.stations := by
  unfold State.beginWidening; (try dsimp only); simp
@[simp] theorem State.beginWidening_marks : s.beginWidening.marks = s.marks := by
  unfold State.beginWidening; (try dsimp only); simp
@[simp] theorem State.beginWidening_windows : s.beginWidening.windows = s.windows := by
  unfold State.beginWidening; (try dsimp only); simp
@[simp] theorem State.beginWidening_baths : s.beginWidening.baths = s.baths := by
  unfold State.beginWidening; (try dsimp only); simp
@[simp] theorem State.beginWidening_recipes : s.beginWidening.recipes = s.recipes := by
  unfold State.beginWidening; (try dsimp only); simp
@[simp] theorem State.beginWidening_racks : s.beginWidening.racks = s.racks := by
  unfold State.beginWidening; (try dsimp only); simp
@[simp] theorem State.beginWidening_seqCounter : s.beginWidening.seqCounter = s.seqCounter := by
  unfold State.beginWidening; (try dsimp only); simp
@[simp] theorem State.beginWidening_queue : s.beginWidening.queue = s.queue := by
  unfold State.beginWidening; (try dsimp only); simp
@[simp] theorem State.beginWidening_requests : s.beginWidening.requests = s.requests := by
  unfold State.beginWidening; (try dsimp only); simp
@[simp] theorem State.beginWidening_dispatcher : s.beginWidening.dispatcher = s.dispatcher := by
  unfold State.beginWidening; (try dsimp only); simp
@[simp] theorem State.beginWidening_hoistA : s.beginWidening.hoistA = s.hoistA := by
  unfold State.beginWidening; (try dsimp only); simp
@[simp] theorem State.beginWidening_hoistB : s.beginWidening.hoistB = s.hoistB := by
  unfold State.beginWidening; (try dsimp only); simp
@[simp] theorem State.beginWidening_gens : s.beginWidening.gens = s.gens := by
  unfold State.beginWidening; (try dsimp only); simp
@[simp] theorem State.beginWidening_line : s.beginWidening.line = s.line := by
  unfold State.beginWidening; (try dsimp only); simp
@[simp] theorem State.beginWidening_io : s.beginWidening.io = s.io := by
  unfold State.beginWidening; (try dsimp only); simp
@[simp] theorem State.beginWidening_pending : s.beginWidening.pending = s.pending := by
  unfold State.beginWidening; (try dsimp only); simp

/-! ### startHandover -/

@[simp] theorem State.startHandover_resetHeld (h : Hoist) (k : Nat) : (s.startHandover h k).resetHeld = s.resetHeld := by
  unfold State.startHandover; (try dsimp only); (repeat' split) <;> simp
@[simp] theorem State.startHandover_tick (h : Hoist) (k : Nat) : (s.startHandover h k).tick = s.tick := by
  unfold State.startHandover; (try dsimp only); (repeat' split) <;> simp
@[simp] theorem State.startHandover_stations (h : Hoist) (k : Nat) : (s.startHandover h k).stations = s.stations := by
  unfold State.startHandover; (try dsimp only); (repeat' split) <;> simp
@[simp] theorem State.startHandover_marks (h : Hoist) (k : Nat) : (s.startHandover h k).marks = s.marks := by
  unfold State.startHandover; (try dsimp only); (repeat' split) <;> simp
@[simp] theorem State.startHandover_windows (h : Hoist) (k : Nat) : (s.startHandover h k).windows = s.windows := by
  unfold State.startHandover; (try dsimp only); (repeat' split) <;> simp
@[simp] theorem State.startHandover_baths (h : Hoist) (k : Nat) : (s.startHandover h k).baths = s.baths := by
  unfold State.startHandover; (try dsimp only); (repeat' split) <;> simp
@[simp] theorem State.startHandover_recipes (h : Hoist) (k : Nat) : (s.startHandover h k).recipes = s.recipes := by
  unfold State.startHandover; (try dsimp only); (repeat' split) <;> simp
@[simp] theorem State.startHandover_racks (h : Hoist) (k : Nat) : (s.startHandover h k).racks = s.racks := by
  unfold State.startHandover; (try dsimp only); (repeat' split) <;> simp
@[simp] theorem State.startHandover_seqCounter (h : Hoist) (k : Nat) : (s.startHandover h k).seqCounter = s.seqCounter := by
  unfold State.startHandover; (try dsimp only); (repeat' split) <;> simp
@[simp] theorem State.startHandover_queue (h : Hoist) (k : Nat) : (s.startHandover h k).queue = s.queue := by
  unfold State.startHandover; (try dsimp only); (repeat' split) <;> simp
@[simp] theorem State.startHandover_dispatcher (h : Hoist) (k : Nat) : (s.startHandover h k).dispatcher = s.dispatcher := by
  unfold State.startHandover; (try dsimp only); (repeat' split) <;> simp
@[simp] theorem State.startHandover_hoistA (h : Hoist) (k : Nat) : (s.startHandover h k).hoistA = s.hoistA := by
  unfold State.startHandover; (try dsimp only); (repeat' split) <;> simp
@[simp] theorem State.startHandover_hoistB (h : Hoist) (k : Nat) : (s.startHandover h k).hoistB = s.hoistB := by
  unfold State.startHandover; (try dsimp only); (repeat' split) <;> simp
@[simp] theorem State.startHandover_gens (h : Hoist) (k : Nat) : (s.startHandover h k).gens = s.gens := by
  unfold State.startHandover; (try dsimp only); (repeat' split) <;> simp
@[simp] theorem State.startHandover_line (h : Hoist) (k : Nat) : (s.startHandover h k).line = s.line := by
  unfold State.startHandover; (try dsimp only); (repeat' split) <;> simp
@[simp] theorem State.startHandover_io (h : Hoist) (k : Nat) : (s.startHandover h k).io = s.io := by
  unfold State.startHandover; (try dsimp only); (repeat' split) <;> simp
@[simp] theorem State.startHandover_pending (h : Hoist) (k : Nat) : (s.startHandover h k).pending = s.pending := by
  unfold State.startHandover; (try dsimp only); (repeat' split) <;> simp

/-! ### returnBound -/

@[simp] theorem State.returnBound_resetHeld : s.returnBound.resetHeld = s.resetHeld := by
  unfold State.returnBound; (repeat' split) <;> simp
@[simp] theorem State.returnBound_tick : s.returnBound.tick = s.tick := by
  unfold State.returnBound; (repeat' split) <;> simp
@[simp] theorem State.returnBound_stations : s.returnBound.stations = s.stations := by
  unfold State.returnBound; (repeat' split) <;> simp
@[simp] theorem State.returnBound_marks : s.returnBound.marks = s.marks := by
  unfold State.returnBound; (repeat' split) <;> simp
@[simp] theorem State.returnBound_windows : s.returnBound.windows = s.windows := by
  unfold State.returnBound; (repeat' split) <;> simp
@[simp] theorem State.returnBound_baths : s.returnBound.baths = s.baths := by
  unfold State.returnBound; (repeat' split) <;> simp
@[simp] theorem State.returnBound_recipes : s.returnBound.recipes = s.recipes := by
  unfold State.returnBound; (repeat' split) <;> simp
@[simp] theorem State.returnBound_racks : s.returnBound.racks = s.racks := by
  unfold State.returnBound; (repeat' split) <;> simp
@[simp] theorem State.returnBound_seqCounter : s.returnBound.seqCounter = s.seqCounter := by
  unfold State.returnBound; (repeat' split) <;> simp
@[simp] theorem State.returnBound_queue : s.returnBound.queue = s.queue := by
  unfold State.returnBound; (repeat' split) <;> simp
@[simp] theorem State.returnBound_dispatcher : s.returnBound.dispatcher = s.dispatcher := by
  unfold State.returnBound; (repeat' split) <;> simp
@[simp] theorem State.returnBound_hoistA : s.returnBound.hoistA = s.hoistA := by
  unfold State.returnBound; (repeat' split) <;> simp
@[simp] theorem State.returnBound_hoistB : s.returnBound.hoistB = s.hoistB := by
  unfold State.returnBound; (repeat' split) <;> simp
@[simp] theorem State.returnBound_span : s.returnBound.span = s.span := by
  unfold State.returnBound; (repeat' split) <;> simp
@[simp] theorem State.returnBound_gens : s.returnBound.gens = s.gens := by
  unfold State.returnBound; (repeat' split) <;> simp
@[simp] theorem State.returnBound_line : s.returnBound.line = s.line := by
  unfold State.returnBound; (repeat' split) <;> simp
@[simp] theorem State.returnBound_io : s.returnBound.io = s.io := by
  unfold State.returnBound; (repeat' split) <;> simp
@[simp] theorem State.returnBound_link : s.returnBound.link = s.link := by
  unfold State.returnBound; (repeat' split) <;> simp
@[simp] theorem State.returnBound_pending : s.returnBound.pending = s.pending := by
  unfold State.returnBound; (repeat' split) <;> simp

/-! ### endHandover -/

@[simp] theorem State.endHandover_resetHeld : s.endHandover.resetHeld = s.resetHeld := by
  unfold State.endHandover; simp
@[simp] theorem State.endHandover_tick : s.endHandover.tick = s.tick := by
  unfold State.endHandover; simp
@[simp] theorem State.endHandover_stations : s.endHandover.stations = s.stations := by
  unfold State.endHandover; simp
@[simp] theorem State.endHandover_marks : s.endHandover.marks = s.marks := by
  unfold State.endHandover; simp
@[simp] theorem State.endHandover_windows : s.endHandover.windows = s.windows := by
  unfold State.endHandover; simp
@[simp] theorem State.endHandover_baths : s.endHandover.baths = s.baths := by
  unfold State.endHandover; simp
@[simp] theorem State.endHandover_recipes : s.endHandover.recipes = s.recipes := by
  unfold State.endHandover; simp
@[simp] theorem State.endHandover_racks : s.endHandover.racks = s.racks := by
  unfold State.endHandover; simp
@[simp] theorem State.endHandover_seqCounter : s.endHandover.seqCounter = s.seqCounter := by
  unfold State.endHandover; simp
@[simp] theorem State.endHandover_queue : s.endHandover.queue = s.queue := by
  unfold State.endHandover; simp
@[simp] theorem State.endHandover_requests : s.endHandover.requests = s.requests := by
  unfold State.endHandover; simp
@[simp] theorem State.endHandover_hoistA : s.endHandover.hoistA = s.hoistA := by
  unfold State.endHandover; simp
@[simp] theorem State.endHandover_hoistB : s.endHandover.hoistB = s.hoistB := by
  unfold State.endHandover; simp
@[simp] theorem State.endHandover_gens : s.endHandover.gens = s.gens := by
  unfold State.endHandover; simp
@[simp] theorem State.endHandover_line : s.endHandover.line = s.line := by
  unfold State.endHandover; simp
@[simp] theorem State.endHandover_io : s.endHandover.io = s.io := by
  unfold State.endHandover; simp
@[simp] theorem State.endHandover_link : s.endHandover.link = s.link := by
  unfold State.endHandover; simp
@[simp] theorem State.endHandover_pending : s.endHandover.pending = s.pending := by
  unfold State.endHandover; simp

/-! ### abandon -/

@[simp] theorem State.abandon_resetHeld : s.abandon.resetHeld = s.resetHeld := by
  unfold State.abandon; simp
@[simp] theorem State.abandon_tick : s.abandon.tick = s.tick := by
  unfold State.abandon; simp
@[simp] theorem State.abandon_stations : s.abandon.stations = s.stations := by
  unfold State.abandon; simp
@[simp] theorem State.abandon_marks : s.abandon.marks = s.marks := by
  unfold State.abandon; simp
@[simp] theorem State.abandon_windows : s.abandon.windows = s.windows := by
  unfold State.abandon; simp
@[simp] theorem State.abandon_baths : s.abandon.baths = s.baths := by
  unfold State.abandon; simp
@[simp] theorem State.abandon_recipes : s.abandon.recipes = s.recipes := by
  unfold State.abandon; simp
@[simp] theorem State.abandon_racks : s.abandon.racks = s.racks := by
  unfold State.abandon; simp
@[simp] theorem State.abandon_seqCounter : s.abandon.seqCounter = s.seqCounter := by
  unfold State.abandon; simp
@[simp] theorem State.abandon_queue : s.abandon.queue = s.queue := by
  unfold State.abandon; simp
@[simp] theorem State.abandon_hoistA : s.abandon.hoistA = s.hoistA := by
  unfold State.abandon; simp
@[simp] theorem State.abandon_hoistB : s.abandon.hoistB = s.hoistB := by
  unfold State.abandon; simp
@[simp] theorem State.abandon_gens : s.abandon.gens = s.gens := by
  unfold State.abandon; simp
@[simp] theorem State.abandon_line : s.abandon.line = s.line := by
  unfold State.abandon; simp
@[simp] theorem State.abandon_io : s.abandon.io = s.io := by
  unfold State.abandon; simp
@[simp] theorem State.abandon_link : s.abandon.link = s.link := by
  unfold State.abandon; simp
@[simp] theorem State.abandon_pending : s.abandon.pending = s.pending := by
  unfold State.abandon; simp

/-! ### handoverFault -/

@[simp] theorem State.handoverFault_resetHeld (h : Hoist) : (s.handoverFault h).resetHeld = s.resetHeld := by
  unfold State.handoverFault; (try dsimp only); (repeat' split) <;> simp
@[simp] theorem State.handoverFault_tick (h : Hoist) : (s.handoverFault h).tick = s.tick := by
  unfold State.handoverFault; (try dsimp only); (repeat' split) <;> simp
@[simp] theorem State.handoverFault_stations (h : Hoist) : (s.handoverFault h).stations = s.stations := by
  unfold State.handoverFault; (try dsimp only); (repeat' split) <;> simp
@[simp] theorem State.handoverFault_marks (h : Hoist) : (s.handoverFault h).marks = s.marks := by
  unfold State.handoverFault; (try dsimp only); (repeat' split) <;> simp
@[simp] theorem State.handoverFault_windows (h : Hoist) : (s.handoverFault h).windows = s.windows := by
  unfold State.handoverFault; (try dsimp only); (repeat' split) <;> simp
@[simp] theorem State.handoverFault_baths (h : Hoist) : (s.handoverFault h).baths = s.baths := by
  unfold State.handoverFault; (try dsimp only); (repeat' split) <;> simp
@[simp] theorem State.handoverFault_recipes (h : Hoist) : (s.handoverFault h).recipes = s.recipes := by
  unfold State.handoverFault; (try dsimp only); (repeat' split) <;> simp
@[simp] theorem State.handoverFault_racks (h : Hoist) : (s.handoverFault h).racks = s.racks := by
  unfold State.handoverFault; (try dsimp only); (repeat' split) <;> simp
@[simp] theorem State.handoverFault_seqCounter (h : Hoist) : (s.handoverFault h).seqCounter = s.seqCounter := by
  unfold State.handoverFault; (try dsimp only); (repeat' split) <;> simp
@[simp] theorem State.handoverFault_queue (h : Hoist) : (s.handoverFault h).queue = s.queue := by
  unfold State.handoverFault; (try dsimp only); (repeat' split) <;> simp
@[simp] theorem State.handoverFault_hoistA (h : Hoist) : (s.handoverFault h).hoistA = s.hoistA := by
  unfold State.handoverFault; (try dsimp only); (repeat' split) <;> simp
@[simp] theorem State.handoverFault_hoistB (h : Hoist) : (s.handoverFault h).hoistB = s.hoistB := by
  unfold State.handoverFault; (try dsimp only); (repeat' split) <;> simp
@[simp] theorem State.handoverFault_gens (h : Hoist) : (s.handoverFault h).gens = s.gens := by
  unfold State.handoverFault; (try dsimp only); (repeat' split) <;> simp
@[simp] theorem State.handoverFault_line (h : Hoist) : (s.handoverFault h).line = s.line := by
  unfold State.handoverFault; (try dsimp only); (repeat' split) <;> simp
@[simp] theorem State.handoverFault_io (h : Hoist) : (s.handoverFault h).io = s.io := by
  unfold State.handoverFault; (try dsimp only); (repeat' split) <;> simp
@[simp] theorem State.handoverFault_link (h : Hoist) : (s.handoverFault h).link = s.link := by
  unfold State.handoverFault; (try dsimp only); (repeat' split) <;> simp
@[simp] theorem State.handoverFault_pending (h : Hoist) : (s.handoverFault h).pending = s.pending := by
  unfold State.handoverFault; (try dsimp only); (repeat' split) <;> simp

/-! ### completeBound -/

@[simp] theorem State.completeBound_resetHeld (h : Hoist) (b : Option Nat) : (s.completeBound h b).resetHeld = s.resetHeld := by
  unfold State.completeBound; (repeat' split) <;> simp
@[simp] theorem State.completeBound_tick (h : Hoist) (b : Option Nat) : (s.completeBound h b).tick = s.tick := by
  unfold State.completeBound; (repeat' split) <;> simp
@[simp] theorem State.completeBound_stations (h : Hoist) (b : Option Nat) : (s.completeBound h b).stations = s.stations := by
  unfold State.completeBound; (repeat' split) <;> simp
@[simp] theorem State.completeBound_marks (h : Hoist) (b : Option Nat) : (s.completeBound h b).marks = s.marks := by
  unfold State.completeBound; (repeat' split) <;> simp
@[simp] theorem State.completeBound_windows (h : Hoist) (b : Option Nat) : (s.completeBound h b).windows = s.windows := by
  unfold State.completeBound; (repeat' split) <;> simp
@[simp] theorem State.completeBound_baths (h : Hoist) (b : Option Nat) : (s.completeBound h b).baths = s.baths := by
  unfold State.completeBound; (repeat' split) <;> simp
@[simp] theorem State.completeBound_recipes (h : Hoist) (b : Option Nat) : (s.completeBound h b).recipes = s.recipes := by
  unfold State.completeBound; (repeat' split) <;> simp
@[simp] theorem State.completeBound_racks (h : Hoist) (b : Option Nat) : (s.completeBound h b).racks = s.racks := by
  unfold State.completeBound; (repeat' split) <;> simp
@[simp] theorem State.completeBound_seqCounter (h : Hoist) (b : Option Nat) : (s.completeBound h b).seqCounter = s.seqCounter := by
  unfold State.completeBound; (repeat' split) <;> simp
@[simp] theorem State.completeBound_queue (h : Hoist) (b : Option Nat) : (s.completeBound h b).queue = s.queue := by
  unfold State.completeBound; (repeat' split) <;> simp
@[simp] theorem State.completeBound_span (h : Hoist) (b : Option Nat) : (s.completeBound h b).span = s.span := by
  unfold State.completeBound; (repeat' split) <;> simp
@[simp] theorem State.completeBound_gens (h : Hoist) (b : Option Nat) : (s.completeBound h b).gens = s.gens := by
  unfold State.completeBound; (repeat' split) <;> simp
@[simp] theorem State.completeBound_line (h : Hoist) (b : Option Nat) : (s.completeBound h b).line = s.line := by
  unfold State.completeBound; (repeat' split) <;> simp
@[simp] theorem State.completeBound_io (h : Hoist) (b : Option Nat) : (s.completeBound h b).io = s.io := by
  unfold State.completeBound; (repeat' split) <;> simp
@[simp] theorem State.completeBound_pending (h : Hoist) (b : Option Nat) : (s.completeBound h b).pending = s.pending := by
  unfold State.completeBound; (repeat' split) <;> simp

/-! ### ackShrinking -/

@[simp] theorem State.ackShrinking_resetHeld (v : Hoist) (p : Int) : (s.ackShrinking v p).resetHeld = s.resetHeld := by
  unfold State.ackShrinking; (try dsimp only); (repeat' split) <;> simp
@[simp] theorem State.ackShrinking_tick (v : Hoist) (p : Int) : (s.ackShrinking v p).tick = s.tick := by
  unfold State.ackShrinking; (try dsimp only); (repeat' split) <;> simp
@[simp] theorem State.ackShrinking_stations (v : Hoist) (p : Int) : (s.ackShrinking v p).stations = s.stations := by
  unfold State.ackShrinking; (try dsimp only); (repeat' split) <;> simp
@[simp] theorem State.ackShrinking_marks (v : Hoist) (p : Int) : (s.ackShrinking v p).marks = s.marks := by
  unfold State.ackShrinking; (try dsimp only); (repeat' split) <;> simp
@[simp] theorem State.ackShrinking_windows (v : Hoist) (p : Int) : (s.ackShrinking v p).windows = s.windows := by
  unfold State.ackShrinking; (try dsimp only); (repeat' split) <;> simp
@[simp] theorem State.ackShrinking_baths (v : Hoist) (p : Int) : (s.ackShrinking v p).baths = s.baths := by
  unfold State.ackShrinking; (try dsimp only); (repeat' split) <;> simp
@[simp] theorem State.ackShrinking_recipes (v : Hoist) (p : Int) : (s.ackShrinking v p).recipes = s.recipes := by
  unfold State.ackShrinking; (try dsimp only); (repeat' split) <;> simp
@[simp] theorem State.ackShrinking_racks (v : Hoist) (p : Int) : (s.ackShrinking v p).racks = s.racks := by
  unfold State.ackShrinking; (try dsimp only); (repeat' split) <;> simp
@[simp] theorem State.ackShrinking_seqCounter (v : Hoist) (p : Int) : (s.ackShrinking v p).seqCounter = s.seqCounter := by
  unfold State.ackShrinking; (try dsimp only); (repeat' split) <;> simp
@[simp] theorem State.ackShrinking_queue (v : Hoist) (p : Int) : (s.ackShrinking v p).queue = s.queue := by
  unfold State.ackShrinking; (try dsimp only); (repeat' split) <;> simp
@[simp] theorem State.ackShrinking_gens (v : Hoist) (p : Int) : (s.ackShrinking v p).gens = s.gens := by
  unfold State.ackShrinking; (try dsimp only); (repeat' split) <;> simp
@[simp] theorem State.ackShrinking_io (v : Hoist) (p : Int) : (s.ackShrinking v p).io = s.io := by
  unfold State.ackShrinking; (try dsimp only); (repeat' split) <;> simp
@[simp] theorem State.ackShrinking_pending (v : Hoist) (p : Int) : (s.ackShrinking v p).pending = s.pending := by
  unfold State.ackShrinking; (try dsimp only); (repeat' split) <;> simp

/-! ### ackWidening -/

@[simp] theorem State.ackWidening_resetHeld (p : Int) : (s.ackWidening p).resetHeld = s.resetHeld := by
  unfold State.ackWidening; (try dsimp only); simp
@[simp] theorem State.ackWidening_tick (p : Int) : (s.ackWidening p).tick = s.tick := by
  unfold State.ackWidening; (try dsimp only); simp
@[simp] theorem State.ackWidening_stations (p : Int) : (s.ackWidening p).stations = s.stations := by
  unfold State.ackWidening; (try dsimp only); simp
@[simp] theorem State.ackWidening_marks (p : Int) : (s.ackWidening p).marks = s.marks := by
  unfold State.ackWidening; (try dsimp only); simp
@[simp] theorem State.ackWidening_windows (p : Int) : (s.ackWidening p).windows = s.windows := by
  unfold State.ackWidening; (try dsimp only); simp
@[simp] theorem State.ackWidening_baths (p : Int) : (s.ackWidening p).baths = s.baths := by
  unfold State.ackWidening; (try dsimp only); simp
@[simp] theorem State.ackWidening_recipes (p : Int) : (s.ackWidening p).recipes = s.recipes := by
  unfold State.ackWidening; (try dsimp only); simp
@[simp] theorem State.ackWidening_racks (p : Int) : (s.ackWidening p).racks = s.racks := by
  unfold State.ackWidening; (try dsimp only); simp
@[simp] theorem State.ackWidening_seqCounter (p : Int) : (s.ackWidening p).seqCounter = s.seqCounter := by
  unfold State.ackWidening; (try dsimp only); simp
@[simp] theorem State.ackWidening_queue (p : Int) : (s.ackWidening p).queue = s.queue := by
  unfold State.ackWidening; (try dsimp only); simp
@[simp] theorem State.ackWidening_gens (p : Int) : (s.ackWidening p).gens = s.gens := by
  unfold State.ackWidening; (try dsimp only); simp
@[simp] theorem State.ackWidening_io (p : Int) : (s.ackWidening p).io = s.io := by
  unfold State.ackWidening; (try dsimp only); simp
@[simp] theorem State.ackWidening_pending (p : Int) : (s.ackWidening p).pending = s.pending := by
  unfold State.ackWidening; (try dsimp only); simp

/-! ### takeSpanAck -/

@[simp] theorem State.takeSpanAck_resetHeld (h : Hoist) (q : Nat) (p : Option Int) : (s.takeSpanAck h q p).resetHeld = s.resetHeld := by
  unfold State.takeSpanAck; (repeat' split) <;> simp
@[simp] theorem State.takeSpanAck_tick (h : Hoist) (q : Nat) (p : Option Int) : (s.takeSpanAck h q p).tick = s.tick := by
  unfold State.takeSpanAck; (repeat' split) <;> simp
@[simp] theorem State.takeSpanAck_stations (h : Hoist) (q : Nat) (p : Option Int) : (s.takeSpanAck h q p).stations = s.stations := by
  unfold State.takeSpanAck; (repeat' split) <;> simp
@[simp] theorem State.takeSpanAck_marks (h : Hoist) (q : Nat) (p : Option Int) : (s.takeSpanAck h q p).marks = s.marks := by
  unfold State.takeSpanAck; (repeat' split) <;> simp
@[simp] theorem State.takeSpanAck_windows (h : Hoist) (q : Nat) (p : Option Int) : (s.takeSpanAck h q p).windows = s.windows := by
  unfold State.takeSpanAck; (repeat' split) <;> simp
@[simp] theorem State.takeSpanAck_baths (h : Hoist) (q : Nat) (p : Option Int) : (s.takeSpanAck h q p).baths = s.baths := by
  unfold State.takeSpanAck; (repeat' split) <;> simp
@[simp] theorem State.takeSpanAck_recipes (h : Hoist) (q : Nat) (p : Option Int) : (s.takeSpanAck h q p).recipes = s.recipes := by
  unfold State.takeSpanAck; (repeat' split) <;> simp
@[simp] theorem State.takeSpanAck_racks (h : Hoist) (q : Nat) (p : Option Int) : (s.takeSpanAck h q p).racks = s.racks := by
  unfold State.takeSpanAck; (repeat' split) <;> simp
@[simp] theorem State.takeSpanAck_seqCounter (h : Hoist) (q : Nat) (p : Option Int) : (s.takeSpanAck h q p).seqCounter = s.seqCounter := by
  unfold State.takeSpanAck; (repeat' split) <;> simp
@[simp] theorem State.takeSpanAck_queue (h : Hoist) (q : Nat) (p : Option Int) : (s.takeSpanAck h q p).queue = s.queue := by
  unfold State.takeSpanAck; (repeat' split) <;> simp
@[simp] theorem State.takeSpanAck_gens (h : Hoist) (q : Nat) (p : Option Int) : (s.takeSpanAck h q p).gens = s.gens := by
  unfold State.takeSpanAck; (repeat' split) <;> simp
@[simp] theorem State.takeSpanAck_io (h : Hoist) (q : Nat) (p : Option Int) : (s.takeSpanAck h q p).io = s.io := by
  unfold State.takeSpanAck; (repeat' split) <;> simp
@[simp] theorem State.takeSpanAck_pending (h : Hoist) (q : Nat) (p : Option Int) : (s.takeSpanAck h q p).pending = s.pending := by
  unfold State.takeSpanAck; (repeat' split) <;> simp

/-! ### initialGrant -/

@[simp] theorem State.initialGrant_resetHeld : s.initialGrant.resetHeld = s.resetHeld := by
  unfold State.initialGrant; (try dsimp only); (repeat' split) <;> simp
@[simp] theorem State.initialGrant_tick : s.initialGrant.tick = s.tick := by
  unfold State.initialGrant; (try dsimp only); (repeat' split) <;> simp
@[simp] theorem State.initialGrant_stations : s.initialGrant.stations = s.stations := by
  unfold State.initialGrant; (try dsimp only); (repeat' split) <;> simp
@[simp] theorem State.initialGrant_marks : s.initialGrant.marks = s.marks := by
  unfold State.initialGrant; (try dsimp only); (repeat' split) <;> simp
@[simp] theorem State.initialGrant_windows : s.initialGrant.windows = s.windows := by
  unfold State.initialGrant; (try dsimp only); (repeat' split) <;> simp
@[simp] theorem State.initialGrant_baths : s.initialGrant.baths = s.baths := by
  unfold State.initialGrant; (try dsimp only); (repeat' split) <;> simp
@[simp] theorem State.initialGrant_recipes : s.initialGrant.recipes = s.recipes := by
  unfold State.initialGrant; (try dsimp only); (repeat' split) <;> simp
@[simp] theorem State.initialGrant_racks : s.initialGrant.racks = s.racks := by
  unfold State.initialGrant; (try dsimp only); (repeat' split) <;> simp
@[simp] theorem State.initialGrant_seqCounter : s.initialGrant.seqCounter = s.seqCounter := by
  unfold State.initialGrant; (try dsimp only); (repeat' split) <;> simp
@[simp] theorem State.initialGrant_queue : s.initialGrant.queue = s.queue := by
  unfold State.initialGrant; (try dsimp only); (repeat' split) <;> simp
@[simp] theorem State.initialGrant_requests : s.initialGrant.requests = s.requests := by
  unfold State.initialGrant; (try dsimp only); (repeat' split) <;> simp
@[simp] theorem State.initialGrant_dispatcher : s.initialGrant.dispatcher = s.dispatcher := by
  unfold State.initialGrant; (try dsimp only); (repeat' split) <;> simp
@[simp] theorem State.initialGrant_hoistA : s.initialGrant.hoistA = s.hoistA := by
  unfold State.initialGrant; (try dsimp only); (repeat' split) <;> simp
@[simp] theorem State.initialGrant_hoistB : s.initialGrant.hoistB = s.hoistB := by
  unfold State.initialGrant; (try dsimp only); (repeat' split) <;> simp
@[simp] theorem State.initialGrant_gens : s.initialGrant.gens = s.gens := by
  unfold State.initialGrant; (try dsimp only); (repeat' split) <;> simp
@[simp] theorem State.initialGrant_line : s.initialGrant.line = s.line := by
  unfold State.initialGrant; (try dsimp only); (repeat' split) <;> simp
@[simp] theorem State.initialGrant_io : s.initialGrant.io = s.io := by
  unfold State.initialGrant; (try dsimp only); (repeat' split) <;> simp
@[simp] theorem State.initialGrant_pending : s.initialGrant.pending = s.pending := by
  unfold State.initialGrant; (try dsimp only); (repeat' split) <;> simp

/-! ### becomeIdle -/

@[simp] theorem State.becomeIdle_resetHeld (h : Hoist) : (s.becomeIdle h).resetHeld = s.resetHeld := by
  unfold State.becomeIdle; (try dsimp only); (repeat' split) <;> simp
@[simp] theorem State.becomeIdle_tick (h : Hoist) : (s.becomeIdle h).tick = s.tick := by
  unfold State.becomeIdle; (try dsimp only); (repeat' split) <;> simp
@[simp] theorem State.becomeIdle_stations (h : Hoist) : (s.becomeIdle h).stations = s.stations := by
  unfold State.becomeIdle; (try dsimp only); (repeat' split) <;> simp
@[simp] theorem State.becomeIdle_marks (h : Hoist) : (s.becomeIdle h).marks = s.marks := by
  unfold State.becomeIdle; (try dsimp only); (repeat' split) <;> simp
@[simp] theorem State.becomeIdle_windows (h : Hoist) : (s.becomeIdle h).windows = s.windows := by
  unfold State.becomeIdle; (try dsimp only); (repeat' split) <;> simp
@[simp] theorem State.becomeIdle_baths (h : Hoist) : (s.becomeIdle h).baths = s.baths := by
  unfold State.becomeIdle; (try dsimp only); (repeat' split) <;> simp
@[simp] theorem State.becomeIdle_recipes (h : Hoist) : (s.becomeIdle h).recipes = s.recipes := by
  unfold State.becomeIdle; (try dsimp only); (repeat' split) <;> simp
@[simp] theorem State.becomeIdle_racks (h : Hoist) : (s.becomeIdle h).racks = s.racks := by
  unfold State.becomeIdle; (try dsimp only); (repeat' split) <;> simp
@[simp] theorem State.becomeIdle_seqCounter (h : Hoist) : (s.becomeIdle h).seqCounter = s.seqCounter := by
  unfold State.becomeIdle; (try dsimp only); (repeat' split) <;> simp
@[simp] theorem State.becomeIdle_queue (h : Hoist) : (s.becomeIdle h).queue = s.queue := by
  unfold State.becomeIdle; (try dsimp only); (repeat' split) <;> simp
@[simp] theorem State.becomeIdle_requests (h : Hoist) : (s.becomeIdle h).requests = s.requests := by
  unfold State.becomeIdle; (try dsimp only); (repeat' split) <;> simp
@[simp] theorem State.becomeIdle_gens (h : Hoist) : (s.becomeIdle h).gens = s.gens := by
  unfold State.becomeIdle; (try dsimp only); (repeat' split) <;> simp
@[simp] theorem State.becomeIdle_line (h : Hoist) : (s.becomeIdle h).line = s.line := by
  unfold State.becomeIdle; (try dsimp only); (repeat' split) <;> simp
@[simp] theorem State.becomeIdle_io (h : Hoist) : (s.becomeIdle h).io = s.io := by
  unfold State.becomeIdle; (try dsimp only); (repeat' split) <;> simp
@[simp] theorem State.becomeIdle_pending (h : Hoist) : (s.becomeIdle h).pending = s.pending := by
  unfold State.becomeIdle; (try dsimp only); (repeat' split) <;> simp

/-! ### releaseLift -/

@[simp] theorem State.releaseLift_resetHeld (h : Hoist) : (s.releaseLift h).resetHeld = s.resetHeld := by
  unfold State.releaseLift; (try dsimp only); (repeat' split) <;> simp
@[simp] theorem State.releaseLift_tick (h : Hoist) : (s.releaseLift h).tick = s.tick := by
  unfold State.releaseLift; (try dsimp only); (repeat' split) <;> simp
@[simp] theorem State.releaseLift_stations (h : Hoist) : (s.releaseLift h).stations = s.stations := by
  unfold State.releaseLift; (try dsimp only); (repeat' split) <;> simp
@[simp] theorem State.releaseLift_baths (h : Hoist) : (s.releaseLift h).baths = s.baths := by
  unfold State.releaseLift; (try dsimp only); (repeat' split) <;> simp
@[simp] theorem State.releaseLift_recipes (h : Hoist) : (s.releaseLift h).recipes = s.recipes := by
  unfold State.releaseLift; (try dsimp only); (repeat' split) <;> simp
@[simp] theorem State.releaseLift_racks (h : Hoist) : (s.releaseLift h).racks = s.racks := by
  unfold State.releaseLift; (try dsimp only); (repeat' split) <;> simp
@[simp] theorem State.releaseLift_seqCounter (h : Hoist) : (s.releaseLift h).seqCounter = s.seqCounter := by
  unfold State.releaseLift; (try dsimp only); (repeat' split) <;> simp
@[simp] theorem State.releaseLift_queue (h : Hoist) : (s.releaseLift h).queue = s.queue := by
  unfold State.releaseLift; (try dsimp only); (repeat' split) <;> simp
@[simp] theorem State.releaseLift_requests (h : Hoist) : (s.releaseLift h).requests = s.requests := by
  unfold State.releaseLift; (try dsimp only); (repeat' split) <;> simp
@[simp] theorem State.releaseLift_dispatcher (h : Hoist) : (s.releaseLift h).dispatcher = s.dispatcher := by
  unfold State.releaseLift; (try dsimp only); (repeat' split) <;> simp
@[simp] theorem State.releaseLift_span (h : Hoist) : (s.releaseLift h).span = s.span := by
  unfold State.releaseLift; (try dsimp only); (repeat' split) <;> simp
@[simp] theorem State.releaseLift_gens (h : Hoist) : (s.releaseLift h).gens = s.gens := by
  unfold State.releaseLift; (try dsimp only); (repeat' split) <;> simp
@[simp] theorem State.releaseLift_line (h : Hoist) : (s.releaseLift h).line = s.line := by
  unfold State.releaseLift; (try dsimp only); (repeat' split) <;> simp
@[simp] theorem State.releaseLift_io (h : Hoist) : (s.releaseLift h).io = s.io := by
  unfold State.releaseLift; (try dsimp only); (repeat' split) <;> simp
@[simp] theorem State.releaseLift_pending (h : Hoist) : (s.releaseLift h).pending = s.pending := by
  unfold State.releaseLift; (try dsimp only); (repeat' split) <;> simp

/-! ### lowerAfterLift -/

@[simp] theorem State.lowerAfterLift_resetHeld (r : Rack) (b : Nat) : (s.lowerAfterLift r b).resetHeld = s.resetHeld := by
  unfold State.lowerAfterLift; simp
@[simp] theorem State.lowerAfterLift_tick (r : Rack) (b : Nat) : (s.lowerAfterLift r b).tick = s.tick := by
  unfold State.lowerAfterLift; simp
@[simp] theorem State.lowerAfterLift_stations (r : Rack) (b : Nat) : (s.lowerAfterLift r b).stations = s.stations := by
  unfold State.lowerAfterLift; simp
@[simp] theorem State.lowerAfterLift_marks (r : Rack) (b : Nat) : (s.lowerAfterLift r b).marks = s.marks := by
  unfold State.lowerAfterLift; simp
@[simp] theorem State.lowerAfterLift_windows (r : Rack) (b : Nat) : (s.lowerAfterLift r b).windows = s.windows := by
  unfold State.lowerAfterLift; simp
@[simp] theorem State.lowerAfterLift_recipes (r : Rack) (b : Nat) : (s.lowerAfterLift r b).recipes = s.recipes := by
  unfold State.lowerAfterLift; simp
@[simp] theorem State.lowerAfterLift_racks (r : Rack) (b : Nat) : (s.lowerAfterLift r b).racks = s.racks := by
  unfold State.lowerAfterLift; simp
@[simp] theorem State.lowerAfterLift_seqCounter (r : Rack) (b : Nat) : (s.lowerAfterLift r b).seqCounter = s.seqCounter := by
  unfold State.lowerAfterLift; simp
@[simp] theorem State.lowerAfterLift_queue (r : Rack) (b : Nat) : (s.lowerAfterLift r b).queue = s.queue := by
  unfold State.lowerAfterLift; simp
@[simp] theorem State.lowerAfterLift_requests (r : Rack) (b : Nat) : (s.lowerAfterLift r b).requests = s.requests := by
  unfold State.lowerAfterLift; simp
@[simp] theorem State.lowerAfterLift_dispatcher (r : Rack) (b : Nat) : (s.lowerAfterLift r b).dispatcher = s.dispatcher := by
  unfold State.lowerAfterLift; simp
@[simp] theorem State.lowerAfterLift_hoistA (r : Rack) (b : Nat) : (s.lowerAfterLift r b).hoistA = s.hoistA := by
  unfold State.lowerAfterLift; simp
@[simp] theorem State.lowerAfterLift_hoistB (r : Rack) (b : Nat) : (s.lowerAfterLift r b).hoistB = s.hoistB := by
  unfold State.lowerAfterLift; simp
@[simp] theorem State.lowerAfterLift_span (r : Rack) (b : Nat) : (s.lowerAfterLift r b).span = s.span := by
  unfold State.lowerAfterLift; simp
@[simp] theorem State.lowerAfterLift_gens (r : Rack) (b : Nat) : (s.lowerAfterLift r b).gens = s.gens := by
  unfold State.lowerAfterLift; simp
@[simp] theorem State.lowerAfterLift_line (r : Rack) (b : Nat) : (s.lowerAfterLift r b).line = s.line := by
  unfold State.lowerAfterLift; simp
@[simp] theorem State.lowerAfterLift_io (r : Rack) (b : Nat) : (s.lowerAfterLift r b).io = s.io := by
  unfold State.lowerAfterLift; simp
@[simp] theorem State.lowerAfterLift_link (r : Rack) (b : Nat) : (s.lowerAfterLift r b).link = s.link := by
  unfold State.lowerAfterLift; simp
@[simp] theorem State.lowerAfterLift_pending (r : Rack) (b : Nat) : (s.lowerAfterLift r b).pending = s.pending := by
  unfold State.lowerAfterLift; simp

/-! ### liftRack -/

@[simp] theorem State.liftRack_resetHeld (k n : Nat) : (s.liftRack k n).resetHeld = s.resetHeld := by
  unfold State.liftRack; (try dsimp only); (repeat' split) <;> simp
@[simp] theorem State.liftRack_tick (k n : Nat) : (s.liftRack k n).tick = s.tick := by
  unfold State.liftRack; (try dsimp only); (repeat' split) <;> simp
@[simp] theorem State.liftRack_recipes (k n : Nat) : (s.liftRack k n).recipes = s.recipes := by
  unfold State.liftRack; (try dsimp only); (repeat' split) <;> simp
@[simp] theorem State.liftRack_hoistA (k n : Nat) : (s.liftRack k n).hoistA = s.hoistA := by
  unfold State.liftRack; (try dsimp only); (repeat' split) <;> simp
@[simp] theorem State.liftRack_hoistB (k n : Nat) : (s.liftRack k n).hoistB = s.hoistB := by
  unfold State.liftRack; (try dsimp only); (repeat' split) <;> simp
@[simp] theorem State.liftRack_span (k n : Nat) : (s.liftRack k n).span = s.span := by
  unfold State.liftRack; (try dsimp only); (repeat' split) <;> simp
@[simp] theorem State.liftRack_gens (k n : Nat) : (s.liftRack k n).gens = s.gens := by
  unfold State.liftRack; (try dsimp only); (repeat' split) <;> simp
@[simp] theorem State.liftRack_line (k n : Nat) : (s.liftRack k n).line = s.line := by
  unfold State.liftRack; (try dsimp only); (repeat' split) <;> simp
@[simp] theorem State.liftRack_io (k n : Nat) : (s.liftRack k n).io = s.io := by
  unfold State.liftRack; (try dsimp only); (repeat' split) <;> simp
@[simp] theorem State.liftRack_pending (k n : Nat) : (s.liftRack k n).pending = s.pending := by
  unfold State.liftRack; (try dsimp only); (repeat' split) <;> simp

/-! ### doLift -/

@[simp] theorem State.doLift_resetHeld (h : Hoist) (early : Bool) : (s.doLift h early).resetHeld = s.resetHeld := by
  unfold State.doLift; (try dsimp only); (repeat' split) <;> simp
@[simp] theorem State.doLift_tick (h : Hoist) (early : Bool) : (s.doLift h early).tick = s.tick := by
  unfold State.doLift; (try dsimp only); (repeat' split) <;> simp
@[simp] theorem State.doLift_recipes (h : Hoist) (early : Bool) : (s.doLift h early).recipes = s.recipes := by
  unfold State.doLift; (try dsimp only); (repeat' split) <;> simp
@[simp] theorem State.doLift_span (h : Hoist) (early : Bool) : (s.doLift h early).span = s.span := by
  unfold State.doLift; (try dsimp only); (repeat' split) <;> simp
@[simp] theorem State.doLift_gens (h : Hoist) (early : Bool) : (s.doLift h early).gens = s.gens := by
  unfold State.doLift; (try dsimp only); (repeat' split) <;> simp
@[simp] theorem State.doLift_line (h : Hoist) (early : Bool) : (s.doLift h early).line = s.line := by
  unfold State.doLift; (try dsimp only); (repeat' split) <;> simp
@[simp] theorem State.doLift_io (h : Hoist) (early : Bool) : (s.doLift h early).io = s.io := by
  unfold State.doLift; (try dsimp only); (repeat' split) <;> simp
@[simp] theorem State.doLift_pending (h : Hoist) (early : Bool) : (s.doLift h early).pending = s.pending := by
  unfold State.doLift; (try dsimp only); (repeat' split) <;> simp

/-! ### cancelOnFreeing -/

@[simp] theorem State.cancelOnFreeing_resetHeld (k : Nat) : (s.cancelOnFreeing k).resetHeld = s.resetHeld := by
  unfold State.cancelOnFreeing; (repeat' split) <;> simp
@[simp] theorem State.cancelOnFreeing_tick (k : Nat) : (s.cancelOnFreeing k).tick = s.tick := by
  unfold State.cancelOnFreeing; (repeat' split) <;> simp
@[simp] theorem State.cancelOnFreeing_stations (k : Nat) : (s.cancelOnFreeing k).stations = s.stations := by
  unfold State.cancelOnFreeing; (repeat' split) <;> simp
@[simp] theorem State.cancelOnFreeing_marks (k : Nat) : (s.cancelOnFreeing k).marks = s.marks := by
  unfold State.cancelOnFreeing; (repeat' split) <;> simp
@[simp] theorem State.cancelOnFreeing_windows (k : Nat) : (s.cancelOnFreeing k).windows = s.windows := by
  unfold State.cancelOnFreeing; (repeat' split) <;> simp
@[simp] theorem State.cancelOnFreeing_baths (k : Nat) : (s.cancelOnFreeing k).baths = s.baths := by
  unfold State.cancelOnFreeing; (repeat' split) <;> simp
@[simp] theorem State.cancelOnFreeing_recipes (k : Nat) : (s.cancelOnFreeing k).recipes = s.recipes := by
  unfold State.cancelOnFreeing; (repeat' split) <;> simp
@[simp] theorem State.cancelOnFreeing_racks (k : Nat) : (s.cancelOnFreeing k).racks = s.racks := by
  unfold State.cancelOnFreeing; (repeat' split) <;> simp
@[simp] theorem State.cancelOnFreeing_seqCounter (k : Nat) : (s.cancelOnFreeing k).seqCounter = s.seqCounter := by
  unfold State.cancelOnFreeing; (repeat' split) <;> simp
@[simp] theorem State.cancelOnFreeing_queue (k : Nat) : (s.cancelOnFreeing k).queue = s.queue := by
  unfold State.cancelOnFreeing; (repeat' split) <;> simp
@[simp] theorem State.cancelOnFreeing_requests (k : Nat) : (s.cancelOnFreeing k).requests = s.requests := by
  unfold State.cancelOnFreeing; (repeat' split) <;> simp
@[simp] theorem State.cancelOnFreeing_gens (k : Nat) : (s.cancelOnFreeing k).gens = s.gens := by
  unfold State.cancelOnFreeing; (repeat' split) <;> simp
@[simp] theorem State.cancelOnFreeing_line (k : Nat) : (s.cancelOnFreeing k).line = s.line := by
  unfold State.cancelOnFreeing; (repeat' split) <;> simp
@[simp] theorem State.cancelOnFreeing_io (k : Nat) : (s.cancelOnFreeing k).io = s.io := by
  unfold State.cancelOnFreeing; (repeat' split) <;> simp
@[simp] theorem State.cancelOnFreeing_pending (k : Nat) : (s.cancelOnFreeing k).pending = s.pending := by
  unfold State.cancelOnFreeing; (repeat' split) <;> simp

/-! ### emptyStation -/

@[simp] theorem State.emptyStation_resetHeld (n : Option Nat) : (s.emptyStation n).resetHeld = s.resetHeld := by
  unfold State.emptyStation; (repeat' split) <;> simp
@[simp] theorem State.emptyStation_tick (n : Option Nat) : (s.emptyStation n).tick = s.tick := by
  unfold State.emptyStation; (repeat' split) <;> simp
@[simp] theorem State.emptyStation_marks (n : Option Nat) : (s.emptyStation n).marks = s.marks := by
  unfold State.emptyStation; (repeat' split) <;> simp
@[simp] theorem State.emptyStation_windows (n : Option Nat) : (s.emptyStation n).windows = s.windows := by
  unfold State.emptyStation; (repeat' split) <;> simp
@[simp] theorem State.emptyStation_baths (n : Option Nat) : (s.emptyStation n).baths = s.baths := by
  unfold State.emptyStation; (repeat' split) <;> simp
@[simp] theorem State.emptyStation_recipes (n : Option Nat) : (s.emptyStation n).recipes = s.recipes := by
  unfold State.emptyStation; (repeat' split) <;> simp
@[simp] theorem State.emptyStation_racks (n : Option Nat) : (s.emptyStation n).racks = s.racks := by
  unfold State.emptyStation; (repeat' split) <;> simp
@[simp] theorem State.emptyStation_seqCounter (n : Option Nat) : (s.emptyStation n).seqCounter = s.seqCounter := by
  unfold State.emptyStation; (repeat' split) <;> simp
@[simp] theorem State.emptyStation_queue (n : Option Nat) : (s.emptyStation n).queue = s.queue := by
  unfold State.emptyStation; (repeat' split) <;> simp
@[simp] theorem State.emptyStation_requests (n : Option Nat) : (s.emptyStation n).requests = s.requests := by
  unfold State.emptyStation; (repeat' split) <;> simp
@[simp] theorem State.emptyStation_dispatcher (n : Option Nat) : (s.emptyStation n).dispatcher = s.dispatcher := by
  unfold State.emptyStation; (repeat' split) <;> simp
@[simp] theorem State.emptyStation_hoistA (n : Option Nat) : (s.emptyStation n).hoistA = s.hoistA := by
  unfold State.emptyStation; (repeat' split) <;> simp
@[simp] theorem State.emptyStation_hoistB (n : Option Nat) : (s.emptyStation n).hoistB = s.hoistB := by
  unfold State.emptyStation; (repeat' split) <;> simp
@[simp] theorem State.emptyStation_span (n : Option Nat) : (s.emptyStation n).span = s.span := by
  unfold State.emptyStation; (repeat' split) <;> simp
@[simp] theorem State.emptyStation_gens (n : Option Nat) : (s.emptyStation n).gens = s.gens := by
  unfold State.emptyStation; (repeat' split) <;> simp
@[simp] theorem State.emptyStation_line (n : Option Nat) : (s.emptyStation n).line = s.line := by
  unfold State.emptyStation; (repeat' split) <;> simp
@[simp] theorem State.emptyStation_io (n : Option Nat) : (s.emptyStation n).io = s.io := by
  unfold State.emptyStation; (repeat' split) <;> simp
@[simp] theorem State.emptyStation_link (n : Option Nat) : (s.emptyStation n).link = s.link := by
  unfold State.emptyStation; (repeat' split) <;> simp
@[simp] theorem State.emptyStation_pending (n : Option Nat) : (s.emptyStation n).pending = s.pending := by
  unfold State.emptyStation; (repeat' split) <;> simp

/-! ### leaveIf -/

@[simp] theorem State.leaveIf_resetHeld (n : Option Nat) : (s.leaveIf n).resetHeld = s.resetHeld := by
  unfold State.leaveIf; (repeat' split) <;> simp
@[simp] theorem State.leaveIf_tick (n : Option Nat) : (s.leaveIf n).tick = s.tick := by
  unfold State.leaveIf; (repeat' split) <;> simp
@[simp] theorem State.leaveIf_stations (n : Option Nat) : (s.leaveIf n).stations = s.stations := by
  unfold State.leaveIf; (repeat' split) <;> simp
@[simp] theorem State.leaveIf_baths (n : Option Nat) : (s.leaveIf n).baths = s.baths := by
  unfold State.leaveIf; (repeat' split) <;> simp
@[simp] theorem State.leaveIf_recipes (n : Option Nat) : (s.leaveIf n).recipes = s.recipes := by
  unfold State.leaveIf; (repeat' split) <;> simp
@[simp] theorem State.leaveIf_racks (n : Option Nat) : (s.leaveIf n).racks = s.racks := by
  unfold State.leaveIf; (repeat' split) <;> simp
@[simp] theorem State.leaveIf_seqCounter (n : Option Nat) : (s.leaveIf n).seqCounter = s.seqCounter := by
  unfold State.leaveIf; (repeat' split) <;> simp
@[simp] theorem State.leaveIf_queue (n : Option Nat) : (s.leaveIf n).queue = s.queue := by
  unfold State.leaveIf; (repeat' split) <;> simp
@[simp] theorem State.leaveIf_requests (n : Option Nat) : (s.leaveIf n).requests = s.requests := by
  unfold State.leaveIf; (repeat' split) <;> simp
@[simp] theorem State.leaveIf_dispatcher (n : Option Nat) : (s.leaveIf n).dispatcher = s.dispatcher := by
  unfold State.leaveIf; (repeat' split) <;> simp
@[simp] theorem State.leaveIf_hoistA (n : Option Nat) : (s.leaveIf n).hoistA = s.hoistA := by
  unfold State.leaveIf; (repeat' split) <;> simp
@[simp] theorem State.leaveIf_hoistB (n : Option Nat) : (s.leaveIf n).hoistB = s.hoistB := by
  unfold State.leaveIf; (repeat' split) <;> simp
@[simp] theorem State.leaveIf_span (n : Option Nat) : (s.leaveIf n).span = s.span := by
  unfold State.leaveIf; (repeat' split) <;> simp
@[simp] theorem State.leaveIf_gens (n : Option Nat) : (s.leaveIf n).gens = s.gens := by
  unfold State.leaveIf; (repeat' split) <;> simp
@[simp] theorem State.leaveIf_line (n : Option Nat) : (s.leaveIf n).line = s.line := by
  unfold State.leaveIf; (repeat' split) <;> simp
@[simp] theorem State.leaveIf_io (n : Option Nat) : (s.leaveIf n).io = s.io := by
  unfold State.leaveIf; (repeat' split) <;> simp
@[simp] theorem State.leaveIf_link (n : Option Nat) : (s.leaveIf n).link = s.link := by
  unfold State.leaveIf; (repeat' split) <;> simp
@[simp] theorem State.leaveIf_pending (n : Option Nat) : (s.leaveIf n).pending = s.pending := by
  unfold State.leaveIf; (repeat' split) <;> simp

/-! ### retryIf -/

@[simp] theorem State.retryIf_resetHeld (n : Option Nat) : (s.retryIf n).resetHeld = s.resetHeld := by
  unfold State.retryIf; (repeat' split) <;> simp
@[simp] theorem State.retryIf_tick (n : Option Nat) : (s.retryIf n).tick = s.tick := by
  unfold State.retryIf; (repeat' split) <;> simp
@[simp] theorem State.retryIf_marks (n : Option Nat) : (s.retryIf n).marks = s.marks := by
  unfold State.retryIf; (repeat' split) <;> simp
@[simp] theorem State.retryIf_windows (n : Option Nat) : (s.retryIf n).windows = s.windows := by
  unfold State.retryIf; (repeat' split) <;> simp
@[simp] theorem State.retryIf_baths (n : Option Nat) : (s.retryIf n).baths = s.baths := by
  unfold State.retryIf; (repeat' split) <;> simp
@[simp] theorem State.retryIf_recipes (n : Option Nat) : (s.retryIf n).recipes = s.recipes := by
  unfold State.retryIf; (repeat' split) <;> simp
@[simp] theorem State.retryIf_seqCounter (n : Option Nat) : (s.retryIf n).seqCounter = s.seqCounter := by
  unfold State.retryIf; (repeat' split) <;> simp
@[simp] theorem State.retryIf_queue (n : Option Nat) : (s.retryIf n).queue = s.queue := by
  unfold State.retryIf; (repeat' split) <;> simp
@[simp] theorem State.retryIf_hoistA (n : Option Nat) : (s.retryIf n).hoistA = s.hoistA := by
  unfold State.retryIf; (repeat' split) <;> simp
@[simp] theorem State.retryIf_hoistB (n : Option Nat) : (s.retryIf n).hoistB = s.hoistB := by
  unfold State.retryIf; (repeat' split) <;> simp
@[simp] theorem State.retryIf_span (n : Option Nat) : (s.retryIf n).span = s.span := by
  unfold State.retryIf; (repeat' split) <;> simp
@[simp] theorem State.retryIf_gens (n : Option Nat) : (s.retryIf n).gens = s.gens := by
  unfold State.retryIf; (repeat' split) <;> simp
@[simp] theorem State.retryIf_line (n : Option Nat) : (s.retryIf n).line = s.line := by
  unfold State.retryIf; (repeat' split) <;> simp
@[simp] theorem State.retryIf_io (n : Option Nat) : (s.retryIf n).io = s.io := by
  unfold State.retryIf; (repeat' split) <;> simp
@[simp] theorem State.retryIf_link (n : Option Nat) : (s.retryIf n).link = s.link := by
  unfold State.retryIf; (repeat' split) <;> simp
@[simp] theorem State.retryIf_pending (n : Option Nat) : (s.retryIf n).pending = s.pending := by
  unfold State.retryIf; (repeat' split) <;> simp

/-! ### noticeIf -/

@[simp] theorem State.noticeIf_resetHeld (ev : Option RackEvent) (k : Nat) (r : Rack) : (s.noticeIf ev k r).resetHeld = s.resetHeld := by
  unfold State.noticeIf; (repeat' split) <;> simp
@[simp] theorem State.noticeIf_tick (ev : Option RackEvent) (k : Nat) (r : Rack) : (s.noticeIf ev k r).tick = s.tick := by
  unfold State.noticeIf; (repeat' split) <;> simp
@[simp] theorem State.noticeIf_stations (ev : Option RackEvent) (k : Nat) (r : Rack) : (s.noticeIf ev k r).stations = s.stations := by
  unfold State.noticeIf; (repeat' split) <;> simp
@[simp] theorem State.noticeIf_marks (ev : Option RackEvent) (k : Nat) (r : Rack) : (s.noticeIf ev k r).marks = s.marks := by
  unfold State.noticeIf; (repeat' split) <;> simp
@[simp] theorem State.noticeIf_windows (ev : Option RackEvent) (k : Nat) (r : Rack) : (s.noticeIf ev k r).windows = s.windows := by
  unfold State.noticeIf; (repeat' split) <;> simp
@[simp] theorem State.noticeIf_baths (ev : Option RackEvent) (k : Nat) (r : Rack) : (s.noticeIf ev k r).baths = s.baths := by
  unfold State.noticeIf; (repeat' split) <;> simp
@[simp] theorem State.noticeIf_recipes (ev : Option RackEvent) (k : Nat) (r : Rack) : (s.noticeIf ev k r).recipes = s.recipes := by
  unfold State.noticeIf; (repeat' split) <;> simp
@[simp] theorem State.noticeIf_racks (ev : Option RackEvent) (k : Nat) (r : Rack) : (s.noticeIf ev k r).racks = s.racks := by
  unfold State.noticeIf; (repeat' split) <;> simp
@[simp] theorem State.noticeIf_seqCounter (ev : Option RackEvent) (k : Nat) (r : Rack) : (s.noticeIf ev k r).seqCounter = s.seqCounter := by
  unfold State.noticeIf; (repeat' split) <;> simp
@[simp] theorem State.noticeIf_queue (ev : Option RackEvent) (k : Nat) (r : Rack) : (s.noticeIf ev k r).queue = s.queue := by
  unfold State.noticeIf; (repeat' split) <;> simp
@[simp] theorem State.noticeIf_requests (ev : Option RackEvent) (k : Nat) (r : Rack) : (s.noticeIf ev k r).requests = s.requests := by
  unfold State.noticeIf; (repeat' split) <;> simp
@[simp] theorem State.noticeIf_dispatcher (ev : Option RackEvent) (k : Nat) (r : Rack) : (s.noticeIf ev k r).dispatcher = s.dispatcher := by
  unfold State.noticeIf; (repeat' split) <;> simp
@[simp] theorem State.noticeIf_hoistA (ev : Option RackEvent) (k : Nat) (r : Rack) : (s.noticeIf ev k r).hoistA = s.hoistA := by
  unfold State.noticeIf; (repeat' split) <;> simp
@[simp] theorem State.noticeIf_hoistB (ev : Option RackEvent) (k : Nat) (r : Rack) : (s.noticeIf ev k r).hoistB = s.hoistB := by
  unfold State.noticeIf; (repeat' split) <;> simp
@[simp] theorem State.noticeIf_span (ev : Option RackEvent) (k : Nat) (r : Rack) : (s.noticeIf ev k r).span = s.span := by
  unfold State.noticeIf; (repeat' split) <;> simp
@[simp] theorem State.noticeIf_gens (ev : Option RackEvent) (k : Nat) (r : Rack) : (s.noticeIf ev k r).gens = s.gens := by
  unfold State.noticeIf; (repeat' split) <;> simp
@[simp] theorem State.noticeIf_line (ev : Option RackEvent) (k : Nat) (r : Rack) : (s.noticeIf ev k r).line = s.line := by
  unfold State.noticeIf; (repeat' split) <;> simp
@[simp] theorem State.noticeIf_io (ev : Option RackEvent) (k : Nat) (r : Rack) : (s.noticeIf ev k r).io = s.io := by
  unfold State.noticeIf; (repeat' split) <;> simp
@[simp] theorem State.noticeIf_pending (ev : Option RackEvent) (k : Nat) (r : Rack) : (s.noticeIf ev k r).pending = s.pending := by
  unfold State.noticeIf; (repeat' split) <;> simp

/-! ### dropRack -/

@[simp] theorem State.dropRack_resetHeld (k : Nat) (r : Rack) (ev : Option RackEvent) : (s.dropRack k r ev).resetHeld = s.resetHeld := by
  unfold State.dropRack; (try dsimp only); simp
@[simp] theorem State.dropRack_tick (k : Nat) (r : Rack) (ev : Option RackEvent) : (s.dropRack k r ev).tick = s.tick := by
  unfold State.dropRack; (try dsimp only); simp
@[simp] theorem State.dropRack_seqCounter (k : Nat) (r : Rack) (ev : Option RackEvent) : (s.dropRack k r ev).seqCounter = s.seqCounter := by
  unfold State.dropRack; (try dsimp only); simp
@[simp] theorem State.dropRack_queue (k : Nat) (r : Rack) (ev : Option RackEvent) : (s.dropRack k r ev).queue = s.queue := by
  unfold State.dropRack; (try dsimp only); simp
@[simp] theorem State.dropRack_gens (k : Nat) (r : Rack) (ev : Option RackEvent) : (s.dropRack k r ev).gens = s.gens := by
  unfold State.dropRack; (try dsimp only); simp
@[simp] theorem State.dropRack_line (k : Nat) (r : Rack) (ev : Option RackEvent) : (s.dropRack k r ev).line = s.line := by
  unfold State.dropRack; (try dsimp only); simp
@[simp] theorem State.dropRack_io (k : Nat) (r : Rack) (ev : Option RackEvent) : (s.dropRack k r ev).io = s.io := by
  unfold State.dropRack; (try dsimp only); simp
@[simp] theorem State.dropRack_pending (k : Nat) (r : Rack) (ev : Option RackEvent) : (s.dropRack k r ev).pending = s.pending := by
  unfold State.dropRack; (try dsimp only); simp

/-! ### freeRack -/

@[simp] theorem State.freeRack_resetHeld (k : Nat) (ev : Option RackEvent) : (s.freeRack k ev).resetHeld = s.resetHeld := by
  unfold State.freeRack; (repeat' split) <;> simp
@[simp] theorem State.freeRack_tick (k : Nat) (ev : Option RackEvent) : (s.freeRack k ev).tick = s.tick := by
  unfold State.freeRack; (repeat' split) <;> simp
@[simp] theorem State.freeRack_gens (k : Nat) (ev : Option RackEvent) : (s.freeRack k ev).gens = s.gens := by
  unfold State.freeRack; (repeat' split) <;> simp
@[simp] theorem State.freeRack_line (k : Nat) (ev : Option RackEvent) : (s.freeRack k ev).line = s.line := by
  unfold State.freeRack; (repeat' split) <;> simp
@[simp] theorem State.freeRack_io (k : Nat) (ev : Option RackEvent) : (s.freeRack k ev).io = s.io := by
  unfold State.freeRack; (repeat' split) <;> simp
@[simp] theorem State.freeRack_pending (k : Nat) (ev : Option RackEvent) : (s.freeRack k ev).pending = s.pending := by
  unfold State.freeRack; (repeat' split) <;> simp

/-! ### beginImmersion -/

@[simp] theorem State.beginImmersion_resetHeld (r k n : Nat) : (s.beginImmersion r k n).resetHeld = s.resetHeld := by
  unfold State.beginImmersion; (try dsimp only); (repeat' split) <;> simp
@[simp] theorem State.beginImmersion_tick (r k n : Nat) : (s.beginImmersion r k n).tick = s.tick := by
  unfold State.beginImmersion; (try dsimp only); (repeat' split) <;> simp
@[simp] theorem State.beginImmersion_stations (r k n : Nat) : (s.beginImmersion r k n).stations = s.stations := by
  unfold State.beginImmersion; (try dsimp only); (repeat' split) <;> simp
@[simp] theorem State.beginImmersion_windows (r k n : Nat) : (s.beginImmersion r k n).windows = s.windows := by
  unfold State.beginImmersion; (try dsimp only); (repeat' split) <;> simp
@[simp] theorem State.beginImmersion_baths (r k n : Nat) : (s.beginImmersion r k n).baths = s.baths := by
  unfold State.beginImmersion; (try dsimp only); (repeat' split) <;> simp
@[simp] theorem State.beginImmersion_recipes (r k n : Nat) : (s.beginImmersion r k n).recipes = s.recipes := by
  unfold State.beginImmersion; (try dsimp only); (repeat' split) <;> simp
@[simp] theorem State.beginImmersion_racks (r k n : Nat) : (s.beginImmersion r k n).racks = s.racks := by
  unfold State.beginImmersion; (try dsimp only); (repeat' split) <;> simp
@[simp] theorem State.beginImmersion_seqCounter (r k n : Nat) : (s.beginImmersion r k n).seqCounter = s.seqCounter := by
  unfold State.beginImmersion; (try dsimp only); (repeat' split) <;> simp
@[simp] theorem State.beginImmersion_queue (r k n : Nat) : (s.beginImmersion r k n).queue = s.queue := by
  unfold State.beginImmersion; (try dsimp only); (repeat' split) <;> simp
@[simp] theorem State.beginImmersion_requests (r k n : Nat) : (s.beginImmersion r k n).requests = s.requests := by
  unfold State.beginImmersion; (try dsimp only); (repeat' split) <;> simp
@[simp] theorem State.beginImmersion_dispatcher (r k n : Nat) : (s.beginImmersion r k n).dispatcher = s.dispatcher := by
  unfold State.beginImmersion; (try dsimp only); (repeat' split) <;> simp
@[simp] theorem State.beginImmersion_gens (r k n : Nat) : (s.beginImmersion r k n).gens = s.gens := by
  unfold State.beginImmersion; (try dsimp only); (repeat' split) <;> simp
@[simp] theorem State.beginImmersion_io (r k n : Nat) : (s.beginImmersion r k n).io = s.io := by
  unfold State.beginImmersion; (try dsimp only); (repeat' split) <;> simp
@[simp] theorem State.beginImmersion_pending (r k n : Nat) : (s.beginImmersion r k n).pending = s.pending := by
  unfold State.beginImmersion; (try dsimp only); (repeat' split) <;> simp

/-! ### arriveUnload -/

@[simp] theorem State.arriveUnload_resetHeld (k : Nat) (r : Rack) (n : Nat) : (s.arriveUnload k r n).resetHeld = s.resetHeld := by
  unfold State.arriveUnload; (repeat' split) <;> simp
@[simp] theorem State.arriveUnload_tick (k : Nat) (r : Rack) (n : Nat) : (s.arriveUnload k r n).tick = s.tick := by
  unfold State.arriveUnload; (repeat' split) <;> simp
@[simp] theorem State.arriveUnload_gens (k : Nat) (r : Rack) (n : Nat) : (s.arriveUnload k r n).gens = s.gens := by
  unfold State.arriveUnload; (repeat' split) <;> simp
@[simp] theorem State.arriveUnload_line (k : Nat) (r : Rack) (n : Nat) : (s.arriveUnload k r n).line = s.line := by
  unfold State.arriveUnload; (repeat' split) <;> simp
@[simp] theorem State.arriveUnload_io (k : Nat) (r : Rack) (n : Nat) : (s.arriveUnload k r n).io = s.io := by
  unfold State.arriveUnload; (repeat' split) <;> simp
@[simp] theorem State.arriveUnload_pending (k : Nat) (r : Rack) (n : Nat) : (s.arriveUnload k r n).pending = s.pending := by
  unfold State.arriveUnload; (repeat' split) <;> simp

/-! ### openWindow -/

@[simp] theorem State.openWindow_resetHeld (n : Nat) : (s.openWindow n).resetHeld = s.resetHeld := by
  unfold State.openWindow; (repeat' split) <;> simp
@[simp] theorem State.openWindow_tick (n : Nat) : (s.openWindow n).tick = s.tick := by
  unfold State.openWindow; (repeat' split) <;> simp
@[simp] theorem State.openWindow_stations (n : Nat) : (s.openWindow n).stations = s.stations := by
  unfold State.openWindow; (repeat' split) <;> simp
@[simp] theorem State.openWindow_marks (n : Nat) : (s.openWindow n).marks = s.marks := by
  unfold State.openWindow; (repeat' split) <;> simp
@[simp] theorem State.openWindow_baths (n : Nat) : (s.openWindow n).baths = s.baths := by
  unfold State.openWindow; (repeat' split) <;> simp
@[simp] theorem State.openWindow_recipes (n : Nat) : (s.openWindow n).recipes = s.recipes := by
  unfold State.openWindow; (repeat' split) <;> simp
@[simp] theorem State.openWindow_racks (n : Nat) : (s.openWindow n).racks = s.racks := by
  unfold State.openWindow; (repeat' split) <;> simp
@[simp] theorem State.openWindow_seqCounter (n : Nat) : (s.openWindow n).seqCounter = s.seqCounter := by
  unfold State.openWindow; (repeat' split) <;> simp
@[simp] theorem State.openWindow_queue (n : Nat) : (s.openWindow n).queue = s.queue := by
  unfold State.openWindow; (repeat' split) <;> simp
@[simp] theorem State.openWindow_requests (n : Nat) : (s.openWindow n).requests = s.requests := by
  unfold State.openWindow; (repeat' split) <;> simp
@[simp] theorem State.openWindow_dispatcher (n : Nat) : (s.openWindow n).dispatcher = s.dispatcher := by
  unfold State.openWindow; (repeat' split) <;> simp
@[simp] theorem State.openWindow_hoistA (n : Nat) : (s.openWindow n).hoistA = s.hoistA := by
  unfold State.openWindow; (repeat' split) <;> simp
@[simp] theorem State.openWindow_hoistB (n : Nat) : (s.openWindow n).hoistB = s.hoistB := by
  unfold State.openWindow; (repeat' split) <;> simp
@[simp] theorem State.openWindow_span (n : Nat) : (s.openWindow n).span = s.span := by
  unfold State.openWindow; (repeat' split) <;> simp
@[simp] theorem State.openWindow_gens (n : Nat) : (s.openWindow n).gens = s.gens := by
  unfold State.openWindow; (repeat' split) <;> simp
@[simp] theorem State.openWindow_line (n : Nat) : (s.openWindow n).line = s.line := by
  unfold State.openWindow; (repeat' split) <;> simp
@[simp] theorem State.openWindow_io (n : Nat) : (s.openWindow n).io = s.io := by
  unfold State.openWindow; (repeat' split) <;> simp
@[simp] theorem State.openWindow_link (n : Nat) : (s.openWindow n).link = s.link := by
  unfold State.openWindow; (repeat' split) <;> simp
@[simp] theorem State.openWindow_pending (n : Nat) : (s.openWindow n).pending = s.pending := by
  unfold State.openWindow; (repeat' split) <;> simp

/-! ### doPlace -/

@[simp] theorem State.doPlace_resetHeld (h : Hoist) : (s.doPlace h).resetHeld = s.resetHeld := by
  unfold State.doPlace; (try dsimp only); (repeat' split) <;> simp
@[simp] theorem State.doPlace_tick (h : Hoist) : (s.doPlace h).tick = s.tick := by
  unfold State.doPlace; (try dsimp only); (repeat' split) <;> simp
@[simp] theorem State.doPlace_gens (h : Hoist) : (s.doPlace h).gens = s.gens := by
  unfold State.doPlace; (try dsimp only); (repeat' split) <;> simp
@[simp] theorem State.doPlace_io (h : Hoist) : (s.doPlace h).io = s.io := by
  unfold State.doPlace; (try dsimp only); (repeat' split) <;> simp
@[simp] theorem State.doPlace_pending (h : Hoist) : (s.doPlace h).pending = s.pending := by
  unfold State.doPlace; (try dsimp only); (repeat' split) <;> simp

/-! ### strand -/

@[simp] theorem State.strand_resetHeld (k : Nat) (b : Bool) : (s.strand k b).resetHeld = s.resetHeld := by
  unfold State.strand; (try dsimp only); (repeat' split) <;> simp
@[simp] theorem State.strand_tick (k : Nat) (b : Bool) : (s.strand k b).tick = s.tick := by
  unfold State.strand; (try dsimp only); (repeat' split) <;> simp
@[simp] theorem State.strand_marks (k : Nat) (b : Bool) : (s.strand k b).marks = s.marks := by
  unfold State.strand; (try dsimp only); (repeat' split) <;> simp
@[simp] theorem State.strand_windows (k : Nat) (b : Bool) : (s.strand k b).windows = s.windows := by
  unfold State.strand; (try dsimp only); (repeat' split) <;> simp
@[simp] theorem State.strand_baths (k : Nat) (b : Bool) : (s.strand k b).baths = s.baths := by
  unfold State.strand; (try dsimp only); (repeat' split) <;> simp
@[simp] theorem State.strand_recipes (k : Nat) (b : Bool) : (s.strand k b).recipes = s.recipes := by
  unfold State.strand; (try dsimp only); (repeat' split) <;> simp
@[simp] theorem State.strand_seqCounter (k : Nat) (b : Bool) : (s.strand k b).seqCounter = s.seqCounter := by
  unfold State.strand; (try dsimp only); (repeat' split) <;> simp
@[simp] theorem State.strand_queue (k : Nat) (b : Bool) : (s.strand k b).queue = s.queue := by
  unfold State.strand; (try dsimp only); (repeat' split) <;> simp
@[simp] theorem State.strand_hoistA (k : Nat) (b : Bool) : (s.strand k b).hoistA = s.hoistA := by
  unfold State.strand; (try dsimp only); (repeat' split) <;> simp
@[simp] theorem State.strand_hoistB (k : Nat) (b : Bool) : (s.strand k b).hoistB = s.hoistB := by
  unfold State.strand; (try dsimp only); (repeat' split) <;> simp
@[simp] theorem State.strand_gens (k : Nat) (b : Bool) : (s.strand k b).gens = s.gens := by
  unfold State.strand; (try dsimp only); (repeat' split) <;> simp
@[simp] theorem State.strand_line (k : Nat) (b : Bool) : (s.strand k b).line = s.line := by
  unfold State.strand; (try dsimp only); (repeat' split) <;> simp
@[simp] theorem State.strand_io (k : Nat) (b : Bool) : (s.strand k b).io = s.io := by
  unfold State.strand; (try dsimp only); (repeat' split) <;> simp
@[simp] theorem State.strand_pending (k : Nat) (b : Bool) : (s.strand k b).pending = s.pending := by
  unfold State.strand; (try dsimp only); (repeat' split) <;> simp

/-! ### faultClose -/

@[simp] theorem State.faultClose_resetHeld (o : Order) : (s.faultClose o).resetHeld = s.resetHeld := by
  unfold State.faultClose; (repeat' split) <;> simp
@[simp] theorem State.faultClose_tick (o : Order) : (s.faultClose o).tick = s.tick := by
  unfold State.faultClose; (repeat' split) <;> simp
@[simp] theorem State.faultClose_marks (o : Order) : (s.faultClose o).marks = s.marks := by
  unfold State.faultClose; (repeat' split) <;> simp
@[simp] theorem State.faultClose_windows (o : Order) : (s.faultClose o).windows = s.windows := by
  unfold State.faultClose; (repeat' split) <;> simp
@[simp] theorem State.faultClose_baths (o : Order) : (s.faultClose o).baths = s.baths := by
  unfold State.faultClose; (repeat' split) <;> simp
@[simp] theorem State.faultClose_recipes (o : Order) : (s.faultClose o).recipes = s.recipes := by
  unfold State.faultClose; (repeat' split) <;> simp
@[simp] theorem State.faultClose_seqCounter (o : Order) : (s.faultClose o).seqCounter = s.seqCounter := by
  unfold State.faultClose; (repeat' split) <;> simp
@[simp] theorem State.faultClose_queue (o : Order) : (s.faultClose o).queue = s.queue := by
  unfold State.faultClose; (repeat' split) <;> simp
@[simp] theorem State.faultClose_hoistA (o : Order) : (s.faultClose o).hoistA = s.hoistA := by
  unfold State.faultClose; (repeat' split) <;> simp
@[simp] theorem State.faultClose_hoistB (o : Order) : (s.faultClose o).hoistB = s.hoistB := by
  unfold State.faultClose; (repeat' split) <;> simp
@[simp] theorem State.faultClose_gens (o : Order) : (s.faultClose o).gens = s.gens := by
  unfold State.faultClose; (repeat' split) <;> simp
@[simp] theorem State.faultClose_line (o : Order) : (s.faultClose o).line = s.line := by
  unfold State.faultClose; (repeat' split) <;> simp
@[simp] theorem State.faultClose_io (o : Order) : (s.faultClose o).io = s.io := by
  unfold State.faultClose; (repeat' split) <;> simp
@[simp] theorem State.faultClose_pending (o : Order) : (s.faultClose o).pending = s.pending := by
  unfold State.faultClose; (repeat' split) <;> simp

/-! ### faultCloseOpen -/

@[simp] theorem State.faultCloseOpen_resetHeld (h : Hoist) : (s.faultCloseOpen h).resetHeld = s.resetHeld := by
  unfold State.faultCloseOpen; (try dsimp only); (repeat' split) <;> simp
@[simp] theorem State.faultCloseOpen_tick (h : Hoist) : (s.faultCloseOpen h).tick = s.tick := by
  unfold State.faultCloseOpen; (try dsimp only); (repeat' split) <;> simp
@[simp] theorem State.faultCloseOpen_marks (h : Hoist) : (s.faultCloseOpen h).marks = s.marks := by
  unfold State.faultCloseOpen; (try dsimp only); (repeat' split) <;> simp
@[simp] theorem State.faultCloseOpen_windows (h : Hoist) : (s.faultCloseOpen h).windows = s.windows := by
  unfold State.faultCloseOpen; (try dsimp only); (repeat' split) <;> simp
@[simp] theorem State.faultCloseOpen_baths (h : Hoist) : (s.faultCloseOpen h).baths = s.baths := by
  unfold State.faultCloseOpen; (try dsimp only); (repeat' split) <;> simp
@[simp] theorem State.faultCloseOpen_recipes (h : Hoist) : (s.faultCloseOpen h).recipes = s.recipes := by
  unfold State.faultCloseOpen; (try dsimp only); (repeat' split) <;> simp
@[simp] theorem State.faultCloseOpen_seqCounter (h : Hoist) : (s.faultCloseOpen h).seqCounter = s.seqCounter := by
  unfold State.faultCloseOpen; (try dsimp only); (repeat' split) <;> simp
@[simp] theorem State.faultCloseOpen_queue (h : Hoist) : (s.faultCloseOpen h).queue = s.queue := by
  unfold State.faultCloseOpen; (try dsimp only); (repeat' split) <;> simp
@[simp] theorem State.faultCloseOpen_gens (h : Hoist) : (s.faultCloseOpen h).gens = s.gens := by
  unfold State.faultCloseOpen; (try dsimp only); (repeat' split) <;> simp
@[simp] theorem State.faultCloseOpen_line (h : Hoist) : (s.faultCloseOpen h).line = s.line := by
  unfold State.faultCloseOpen; (try dsimp only); (repeat' split) <;> simp
@[simp] theorem State.faultCloseOpen_io (h : Hoist) : (s.faultCloseOpen h).io = s.io := by
  unfold State.faultCloseOpen; (try dsimp only); (repeat' split) <;> simp
@[simp] theorem State.faultCloseOpen_pending (h : Hoist) : (s.faultCloseOpen h).pending = s.pending := by
  unfold State.faultCloseOpen; (try dsimp only); (repeat' split) <;> simp

/-! ### enterFault -/

@[simp] theorem State.enterFault_resetHeld (h : Hoist) (r : FaultReason) : (s.enterFault h r).resetHeld = s.resetHeld := by
  unfold State.enterFault; (try dsimp only); simp
@[simp] theorem State.enterFault_tick (h : Hoist) (r : FaultReason) : (s.enterFault h r).tick = s.tick := by
  unfold State.enterFault; (try dsimp only); simp
@[simp] theorem State.enterFault_marks (h : Hoist) (r : FaultReason) : (s.enterFault h r).marks = s.marks := by
  unfold State.enterFault; (try dsimp only); simp
@[simp] theorem State.enterFault_windows (h : Hoist) (r : FaultReason) : (s.enterFault h r).windows = s.windows := by
  unfold State.enterFault; (try dsimp only); simp
@[simp] theorem State.enterFault_baths (h : Hoist) (r : FaultReason) : (s.enterFault h r).baths = s.baths := by
  unfold State.enterFault; (try dsimp only); simp
@[simp] theorem State.enterFault_recipes (h : Hoist) (r : FaultReason) : (s.enterFault h r).recipes = s.recipes := by
  unfold State.enterFault; (try dsimp only); simp
@[simp] theorem State.enterFault_seqCounter (h : Hoist) (r : FaultReason) : (s.enterFault h r).seqCounter = s.seqCounter := by
  unfold State.enterFault; (try dsimp only); simp
@[simp] theorem State.enterFault_queue (h : Hoist) (r : FaultReason) : (s.enterFault h r).queue = s.queue := by
  unfold State.enterFault; (try dsimp only); simp
@[simp] theorem State.enterFault_gens (h : Hoist) (r : FaultReason) : (s.enterFault h r).gens = s.gens := by
  unfold State.enterFault; (try dsimp only); simp
@[simp] theorem State.enterFault_io (h : Hoist) (r : FaultReason) : (s.enterFault h r).io = s.io := by
  unfold State.enterFault; (try dsimp only); simp
@[simp] theorem State.enterFault_pending (h : Hoist) (r : FaultReason) : (s.enterFault h r).pending = s.pending := by
  unfold State.enterFault; (try dsimp only); simp

/-! ### callOff -/

@[simp] theorem State.callOff_resetHeld (h : Hoist) (o : Order) : (s.callOff h o).resetHeld = s.resetHeld := by
  unfold State.callOff; simp
@[simp] theorem State.callOff_tick (h : Hoist) (o : Order) : (s.callOff h o).tick = s.tick := by
  unfold State.callOff; simp
@[simp] theorem State.callOff_stations (h : Hoist) (o : Order) : (s.callOff h o).stations = s.stations := by
  unfold State.callOff; simp
@[simp] theorem State.callOff_marks (h : Hoist) (o : Order) : (s.callOff h o).marks = s.marks := by
  unfold State.callOff; simp
@[simp] theorem State.callOff_windows (h : Hoist) (o : Order) : (s.callOff h o).windows = s.windows := by
  unfold State.callOff; simp
@[simp] theorem State.callOff_baths (h : Hoist) (o : Order) : (s.callOff h o).baths = s.baths := by
  unfold State.callOff; simp
@[simp] theorem State.callOff_recipes (h : Hoist) (o : Order) : (s.callOff h o).recipes = s.recipes := by
  unfold State.callOff; simp
@[simp] theorem State.callOff_racks (h : Hoist) (o : Order) : (s.callOff h o).racks = s.racks := by
  unfold State.callOff; simp
@[simp] theorem State.callOff_seqCounter (h : Hoist) (o : Order) : (s.callOff h o).seqCounter = s.seqCounter := by
  unfold State.callOff; simp
@[simp] theorem State.callOff_queue (h : Hoist) (o : Order) : (s.callOff h o).queue = s.queue := by
  unfold State.callOff; simp
@[simp] theorem State.callOff_gens (h : Hoist) (o : Order) : (s.callOff h o).gens = s.gens := by
  unfold State.callOff; simp
@[simp] theorem State.callOff_line (h : Hoist) (o : Order) : (s.callOff h o).line = s.line := by
  unfold State.callOff; simp
@[simp] theorem State.callOff_io (h : Hoist) (o : Order) : (s.callOff h o).io = s.io := by
  unfold State.callOff; simp
@[simp] theorem State.callOff_pending (h : Hoist) (o : Order) : (s.callOff h o).pending = s.pending := by
  unfold State.callOff; simp

/-! ### markRefused -/

@[simp] theorem State.markRefused_resetHeld (h : Hoist) (k : Nat) : (s.markRefused h k).resetHeld = s.resetHeld := by
  unfold State.markRefused; (repeat' split) <;> simp
@[simp] theorem State.markRefused_tick (h : Hoist) (k : Nat) : (s.markRefused h k).tick = s.tick := by
  unfold State.markRefused; (repeat' split) <;> simp
@[simp] theorem State.markRefused_stations (h : Hoist) (k : Nat) : (s.markRefused h k).stations = s.stations := by
  unfold State.markRefused; (repeat' split) <;> simp
@[simp] theorem State.markRefused_marks (h : Hoist) (k : Nat) : (s.markRefused h k).marks = s.marks := by
  unfold State.markRefused; (repeat' split) <;> simp
@[simp] theorem State.markRefused_windows (h : Hoist) (k : Nat) : (s.markRefused h k).windows = s.windows := by
  unfold State.markRefused; (repeat' split) <;> simp
@[simp] theorem State.markRefused_baths (h : Hoist) (k : Nat) : (s.markRefused h k).baths = s.baths := by
  unfold State.markRefused; (repeat' split) <;> simp
@[simp] theorem State.markRefused_recipes (h : Hoist) (k : Nat) : (s.markRefused h k).recipes = s.recipes := by
  unfold State.markRefused; (repeat' split) <;> simp
@[simp] theorem State.markRefused_racks (h : Hoist) (k : Nat) : (s.markRefused h k).racks = s.racks := by
  unfold State.markRefused; (repeat' split) <;> simp
@[simp] theorem State.markRefused_seqCounter (h : Hoist) (k : Nat) : (s.markRefused h k).seqCounter = s.seqCounter := by
  unfold State.markRefused; (repeat' split) <;> simp
@[simp] theorem State.markRefused_queue (h : Hoist) (k : Nat) : (s.markRefused h k).queue = s.queue := by
  unfold State.markRefused; (repeat' split) <;> simp
@[simp] theorem State.markRefused_dispatcher (h : Hoist) (k : Nat) : (s.markRefused h k).dispatcher = s.dispatcher := by
  unfold State.markRefused; (repeat' split) <;> simp
@[simp] theorem State.markRefused_hoistA (h : Hoist) (k : Nat) : (s.markRefused h k).hoistA = s.hoistA := by
  unfold State.markRefused; (repeat' split) <;> simp
@[simp] theorem State.markRefused_hoistB (h : Hoist) (k : Nat) : (s.markRefused h k).hoistB = s.hoistB := by
  unfold State.markRefused; (repeat' split) <;> simp
@[simp] theorem State.markRefused_span (h : Hoist) (k : Nat) : (s.markRefused h k).span = s.span := by
  unfold State.markRefused; (repeat' split) <;> simp
@[simp] theorem State.markRefused_gens (h : Hoist) (k : Nat) : (s.markRefused h k).gens = s.gens := by
  unfold State.markRefused; (repeat' split) <;> simp
@[simp] theorem State.markRefused_line (h : Hoist) (k : Nat) : (s.markRefused h k).line = s.line := by
  unfold State.markRefused; (repeat' split) <;> simp
@[simp] theorem State.markRefused_io (h : Hoist) (k : Nat) : (s.markRefused h k).io = s.io := by
  unfold State.markRefused; (repeat' split) <;> simp
@[simp] theorem State.markRefused_link (h : Hoist) (k : Nat) : (s.markRefused h k).link = s.link := by
  unfold State.markRefused; (repeat' split) <;> simp
@[simp] theorem State.markRefused_pending (h : Hoist) (k : Nat) : (s.markRefused h k).pending = s.pending := by
  unfold State.markRefused; (repeat' split) <;> simp

/-! ### liftIfPoised -/

@[simp] theorem State.liftIfPoised_resetHeld (k : Nat) : (s.liftIfPoised k).resetHeld = s.resetHeld := by
  unfold State.liftIfPoised; (repeat' split) <;> simp
@[simp] theorem State.liftIfPoised_tick (k : Nat) : (s.liftIfPoised k).tick = s.tick := by
  unfold State.liftIfPoised; (repeat' split) <;> simp
@[simp] theorem State.liftIfPoised_stations (k : Nat) : (s.liftIfPoised k).stations = s.stations := by
  unfold State.liftIfPoised; (repeat' split) <;> simp
@[simp] theorem State.liftIfPoised_baths (k : Nat) : (s.liftIfPoised k).baths = s.baths := by
  unfold State.liftIfPoised; (repeat' split) <;> simp
@[simp] theorem State.liftIfPoised_recipes (k : Nat) : (s.liftIfPoised k).recipes = s.recipes := by
  unfold State.liftIfPoised; (repeat' split) <;> simp
@[simp] theorem State.liftIfPoised_racks (k : Nat) : (s.liftIfPoised k).racks = s.racks := by
  unfold State.liftIfPoised; (repeat' split) <;> simp
@[simp] theorem State.liftIfPoised_seqCounter (k : Nat) : (s.liftIfPoised k).seqCounter = s.seqCounter := by
  unfold State.liftIfPoised; (repeat' split) <;> simp
@[simp] theorem State.liftIfPoised_queue (k : Nat) : (s.liftIfPoised k).queue = s.queue := by
  unfold State.liftIfPoised; (repeat' split) <;> simp
@[simp] theorem State.liftIfPoised_requests (k : Nat) : (s.liftIfPoised k).requests = s.requests := by
  unfold State.liftIfPoised; (repeat' split) <;> simp
@[simp] theorem State.liftIfPoised_dispatcher (k : Nat) : (s.liftIfPoised k).dispatcher = s.dispatcher := by
  unfold State.liftIfPoised; (repeat' split) <;> simp
@[simp] theorem State.liftIfPoised_span (k : Nat) : (s.liftIfPoised k).span = s.span := by
  unfold State.liftIfPoised; (repeat' split) <;> simp
@[simp] theorem State.liftIfPoised_gens (k : Nat) : (s.liftIfPoised k).gens = s.gens := by
  unfold State.liftIfPoised; (repeat' split) <;> simp
@[simp] theorem State.liftIfPoised_line (k : Nat) : (s.liftIfPoised k).line = s.line := by
  unfold State.liftIfPoised; (repeat' split) <;> simp
@[simp] theorem State.liftIfPoised_io (k : Nat) : (s.liftIfPoised k).io = s.io := by
  unfold State.liftIfPoised; (repeat' split) <;> simp
@[simp] theorem State.liftIfPoised_pending (k : Nat) : (s.liftIfPoised k).pending = s.pending := by
  unfold State.liftIfPoised; (repeat' split) <;> simp

/-! ### requestIfNone -/

@[simp] theorem State.requestIfNone_resetHeld (k : Nat) : (s.requestIfNone k).resetHeld = s.resetHeld := by
  unfold State.requestIfNone; (repeat' split) <;> simp
@[simp] theorem State.requestIfNone_tick (k : Nat) : (s.requestIfNone k).tick = s.tick := by
  unfold State.requestIfNone; (repeat' split) <;> simp
@[simp] theorem State.requestIfNone_marks (k : Nat) : (s.requestIfNone k).marks = s.marks := by
  unfold State.requestIfNone; (repeat' split) <;> simp
@[simp] theorem State.requestIfNone_windows (k : Nat) : (s.requestIfNone k).windows = s.windows := by
  unfold State.requestIfNone; (repeat' split) <;> simp
@[simp] theorem State.requestIfNone_baths (k : Nat) : (s.requestIfNone k).baths = s.baths := by
  unfold State.requestIfNone; (repeat' split) <;> simp
@[simp] theorem State.requestIfNone_recipes (k : Nat) : (s.requestIfNone k).recipes = s.recipes := by
  unfold State.requestIfNone; (repeat' split) <;> simp
@[simp] theorem State.requestIfNone_seqCounter (k : Nat) : (s.requestIfNone k).seqCounter = s.seqCounter := by
  unfold State.requestIfNone; (repeat' split) <;> simp
@[simp] theorem State.requestIfNone_queue (k : Nat) : (s.requestIfNone k).queue = s.queue := by
  unfold State.requestIfNone; (repeat' split) <;> simp
@[simp] theorem State.requestIfNone_hoistA (k : Nat) : (s.requestIfNone k).hoistA = s.hoistA := by
  unfold State.requestIfNone; (repeat' split) <;> simp
@[simp] theorem State.requestIfNone_hoistB (k : Nat) : (s.requestIfNone k).hoistB = s.hoistB := by
  unfold State.requestIfNone; (repeat' split) <;> simp
@[simp] theorem State.requestIfNone_span (k : Nat) : (s.requestIfNone k).span = s.span := by
  unfold State.requestIfNone; (repeat' split) <;> simp
@[simp] theorem State.requestIfNone_gens (k : Nat) : (s.requestIfNone k).gens = s.gens := by
  unfold State.requestIfNone; (repeat' split) <;> simp
@[simp] theorem State.requestIfNone_line (k : Nat) : (s.requestIfNone k).line = s.line := by
  unfold State.requestIfNone; (repeat' split) <;> simp
@[simp] theorem State.requestIfNone_io (k : Nat) : (s.requestIfNone k).io = s.io := by
  unfold State.requestIfNone; (repeat' split) <;> simp
@[simp] theorem State.requestIfNone_link (k : Nat) : (s.requestIfNone k).link = s.link := by
  unfold State.requestIfNone; (repeat' split) <;> simp
@[simp] theorem State.requestIfNone_pending (k : Nat) : (s.requestIfNone k).pending = s.pending := by
  unfold State.requestIfNone; (repeat' split) <;> simp

/-! ### makeDue -/

@[simp] theorem State.makeDue_resetHeld (k : Nat) : (s.makeDue k).resetHeld = s.resetHeld := by
  unfold State.makeDue; (repeat' split) <;> simp
@[simp] theorem State.makeDue_tick (k : Nat) : (s.makeDue k).tick = s.tick := by
  unfold State.makeDue; (repeat' split) <;> simp
@[simp] theorem State.makeDue_baths (k : Nat) : (s.makeDue k).baths = s.baths := by
  unfold State.makeDue; (repeat' split) <;> simp
@[simp] theorem State.makeDue_recipes (k : Nat) : (s.makeDue k).recipes = s.recipes := by
  unfold State.makeDue; (repeat' split) <;> simp
@[simp] theorem State.makeDue_seqCounter (k : Nat) : (s.makeDue k).seqCounter = s.seqCounter := by
  unfold State.makeDue; (repeat' split) <;> simp
@[simp] theorem State.makeDue_queue (k : Nat) : (s.makeDue k).queue = s.queue := by
  unfold State.makeDue; (repeat' split) <;> simp
@[simp] theorem State.makeDue_span (k : Nat) : (s.makeDue k).span = s.span := by
  unfold State.makeDue; (repeat' split) <;> simp
@[simp] theorem State.makeDue_gens (k : Nat) : (s.makeDue k).gens = s.gens := by
  unfold State.makeDue; (repeat' split) <;> simp
@[simp] theorem State.makeDue_line (k : Nat) : (s.makeDue k).line = s.line := by
  unfold State.makeDue; (repeat' split) <;> simp
@[simp] theorem State.makeDue_io (k : Nat) : (s.makeDue k).io = s.io := by
  unfold State.makeDue; (repeat' split) <;> simp
@[simp] theorem State.makeDue_pending (k : Nat) : (s.makeDue k).pending = s.pending := by
  unfold State.makeDue; (repeat' split) <;> simp

/-! ### overtimeTest -/

@[simp] theorem State.overtimeTest_resetHeld (k : Nat) : (s.overtimeTest k).resetHeld = s.resetHeld := by
  unfold State.overtimeTest; (try dsimp only); (repeat' split) <;> simp
@[simp] theorem State.overtimeTest_tick (k : Nat) : (s.overtimeTest k).tick = s.tick := by
  unfold State.overtimeTest; (try dsimp only); (repeat' split) <;> simp
@[simp] theorem State.overtimeTest_stations (k : Nat) : (s.overtimeTest k).stations = s.stations := by
  unfold State.overtimeTest; (try dsimp only); (repeat' split) <;> simp
@[simp] theorem State.overtimeTest_marks (k : Nat) : (s.overtimeTest k).marks = s.marks := by
  unfold State.overtimeTest; (try dsimp only); (repeat' split) <;> simp
@[simp] theorem State.overtimeTest_windows (k : Nat) : (s.overtimeTest k).windows = s.windows := by
  unfold State.overtimeTest; (try dsimp only); (repeat' split) <;> simp
@[simp] theorem State.overtimeTest_baths (k : Nat) : (s.overtimeTest k).baths = s.baths := by
  unfold State.overtimeTest; (try dsimp only); (repeat' split) <;> simp
@[simp] theorem State.overtimeTest_recipes (k : Nat) : (s.overtimeTest k).recipes = s.recipes := by
  unfold State.overtimeTest; (try dsimp only); (repeat' split) <;> simp
@[simp] theorem State.overtimeTest_seqCounter (k : Nat) : (s.overtimeTest k).seqCounter = s.seqCounter := by
  unfold State.overtimeTest; (try dsimp only); (repeat' split) <;> simp
@[simp] theorem State.overtimeTest_queue (k : Nat) : (s.overtimeTest k).queue = s.queue := by
  unfold State.overtimeTest; (try dsimp only); (repeat' split) <;> simp
@[simp] theorem State.overtimeTest_requests (k : Nat) : (s.overtimeTest k).requests = s.requests := by
  unfold State.overtimeTest; (try dsimp only); (repeat' split) <;> simp
@[simp] theorem State.overtimeTest_dispatcher (k : Nat) : (s.overtimeTest k).dispatcher = s.dispatcher := by
  unfold State.overtimeTest; (try dsimp only); (repeat' split) <;> simp
@[simp] theorem State.overtimeTest_hoistA (k : Nat) : (s.overtimeTest k).hoistA = s.hoistA := by
  unfold State.overtimeTest; (try dsimp only); (repeat' split) <;> simp
@[simp] theorem State.overtimeTest_hoistB (k : Nat) : (s.overtimeTest k).hoistB = s.hoistB := by
  unfold State.overtimeTest; (try dsimp only); (repeat' split) <;> simp
@[simp] theorem State.overtimeTest_span (k : Nat) : (s.overtimeTest k).span = s.span := by
  unfold State.overtimeTest; (try dsimp only); (repeat' split) <;> simp
@[simp] theorem State.overtimeTest_gens (k : Nat) : (s.overtimeTest k).gens = s.gens := by
  unfold State.overtimeTest; (try dsimp only); (repeat' split) <;> simp
@[simp] theorem State.overtimeTest_line (k : Nat) : (s.overtimeTest k).line = s.line := by
  unfold State.overtimeTest; (try dsimp only); (repeat' split) <;> simp
@[simp] theorem State.overtimeTest_io (k : Nat) : (s.overtimeTest k).io = s.io := by
  unfold State.overtimeTest; (try dsimp only); (repeat' split) <;> simp
@[simp] theorem State.overtimeTest_pending (k : Nat) : (s.overtimeTest k).pending = s.pending := by
  unfold State.overtimeTest; (try dsimp only); (repeat' split) <;> simp

/-! ### overrunOne -/

@[simp] theorem State.overrunOne_resetHeld (k : Nat) : (s.overrunOne k).resetHeld = s.resetHeld := by
  unfold State.overrunOne; (repeat' split) <;> simp
@[simp] theorem State.overrunOne_tick (k : Nat) : (s.overrunOne k).tick = s.tick := by
  unfold State.overrunOne; (repeat' split) <;> simp
@[simp] theorem State.overrunOne_stations (k : Nat) : (s.overrunOne k).stations = s.stations := by
  unfold State.overrunOne; (repeat' split) <;> simp
@[simp] theorem State.overrunOne_marks (k : Nat) : (s.overrunOne k).marks = s.marks := by
  unfold State.overrunOne; (repeat' split) <;> simp
@[simp] theorem State.overrunOne_windows (k : Nat) : (s.overrunOne k).windows = s.windows := by
  unfold State.overrunOne; (repeat' split) <;> simp
@[simp] theorem State.overrunOne_baths (k : Nat) : (s.overrunOne k).baths = s.baths := by
  unfold State.overrunOne; (repeat' split) <;> simp
@[simp] theorem State.overrunOne_recipes (k : Nat) : (s.overrunOne k).recipes = s.recipes := by
  unfold State.overrunOne; (repeat' split) <;> simp
@[simp] theorem State.overrunOne_seqCounter (k : Nat) : (s.overrunOne k).seqCounter = s.seqCounter := by
  unfold State.overrunOne; (repeat' split) <;> simp
@[simp] theorem State.overrunOne_queue (k : Nat) : (s.overrunOne k).queue = s.queue := by
  unfold State.overrunOne; (repeat' split) <;> simp
@[simp] theorem State.overrunOne_requests (k : Nat) : (s.overrunOne k).requests = s.requests := by
  unfold State.overrunOne; (repeat' split) <;> simp
@[simp] theorem State.overrunOne_dispatcher (k : Nat) : (s.overrunOne k).dispatcher = s.dispatcher := by
  unfold State.overrunOne; (repeat' split) <;> simp
@[simp] theorem State.overrunOne_hoistA (k : Nat) : (s.overrunOne k).hoistA = s.hoistA := by
  unfold State.overrunOne; (repeat' split) <;> simp
@[simp] theorem State.overrunOne_hoistB (k : Nat) : (s.overrunOne k).hoistB = s.hoistB := by
  unfold State.overrunOne; (repeat' split) <;> simp
@[simp] theorem State.overrunOne_span (k : Nat) : (s.overrunOne k).span = s.span := by
  unfold State.overrunOne; (repeat' split) <;> simp
@[simp] theorem State.overrunOne_gens (k : Nat) : (s.overrunOne k).gens = s.gens := by
  unfold State.overrunOne; (repeat' split) <;> simp
@[simp] theorem State.overrunOne_line (k : Nat) : (s.overrunOne k).line = s.line := by
  unfold State.overrunOne; (repeat' split) <;> simp
@[simp] theorem State.overrunOne_io (k : Nat) : (s.overrunOne k).io = s.io := by
  unfold State.overrunOne; (repeat' split) <;> simp
@[simp] theorem State.overrunOne_pending (k : Nat) : (s.overrunOne k).pending = s.pending := by
  unfold State.overrunOne; (repeat' split) <;> simp

/-! ### expirePhase -/

@[simp] theorem State.expirePhase_resetHeld (h : Hoist) : (s.expirePhase h).resetHeld = s.resetHeld := by
  unfold State.expirePhase; (try dsimp only); (repeat' split) <;> simp
@[simp] theorem State.expirePhase_tick (h : Hoist) : (s.expirePhase h).tick = s.tick := by
  unfold State.expirePhase; (try dsimp only); (repeat' split) <;> simp
@[simp] theorem State.expirePhase_marks (h : Hoist) : (s.expirePhase h).marks = s.marks := by
  unfold State.expirePhase; (try dsimp only); (repeat' split) <;> simp
@[simp] theorem State.expirePhase_windows (h : Hoist) : (s.expirePhase h).windows = s.windows := by
  unfold State.expirePhase; (try dsimp only); (repeat' split) <;> simp
@[simp] theorem State.expirePhase_baths (h : Hoist) : (s.expirePhase h).baths = s.baths := by
  unfold State.expirePhase; (try dsimp only); (repeat' split) <;> simp
@[simp] theorem State.expirePhase_recipes (h : Hoist) : (s.expirePhase h).recipes = s.recipes := by
  unfold State.expirePhase; (try dsimp only); (repeat' split) <;> simp
@[simp] theorem State.expirePhase_seqCounter (h : Hoist) : (s.expirePhase h).seqCounter = s.seqCounter := by
  unfold State.expirePhase; (try dsimp only); (repeat' split) <;> simp
@[simp] theorem State.expirePhase_queue (h : Hoist) : (s.expirePhase h).queue = s.queue := by
  unfold State.expirePhase; (try dsimp only); (repeat' split) <;> simp
@[simp] theorem State.expirePhase_gens (h : Hoist) : (s.expirePhase h).gens = s.gens := by
  unfold State.expirePhase; (try dsimp only); (repeat' split) <;> simp
@[simp] theorem State.expirePhase_io (h : Hoist) : (s.expirePhase h).io = s.io := by
  unfold State.expirePhase; (try dsimp only); (repeat' split) <;> simp
@[simp] theorem State.expirePhase_pending (h : Hoist) : (s.expirePhase h).pending = s.pending := by
  unfold State.expirePhase; (try dsimp only); (repeat' split) <;> simp

/-! ### expireAck -/

@[simp] theorem State.expireAck_resetHeld : s.expireAck.resetHeld = s.resetHeld := by
  unfold State.expireAck; (try dsimp only); (repeat' split) <;> simp
@[simp] theorem State.expireAck_tick : s.expireAck.tick = s.tick := by
  unfold State.expireAck; (try dsimp only); (repeat' split) <;> simp
@[simp] theorem State.expireAck_marks : s.expireAck.marks = s.marks := by
  unfold State.expireAck; (try dsimp only); (repeat' split) <;> simp
@[simp] theorem State.expireAck_windows : s.expireAck.windows = s.windows := by
  unfold State.expireAck; (try dsimp only); (repeat' split) <;> simp
@[simp] theorem State.expireAck_baths : s.expireAck.baths = s.baths := by
  unfold State.expireAck; (try dsimp only); (repeat' split) <;> simp
@[simp] theorem State.expireAck_recipes : s.expireAck.recipes = s.recipes := by
  unfold State.expireAck; (try dsimp only); (repeat' split) <;> simp
@[simp] theorem State.expireAck_seqCounter : s.expireAck.seqCounter = s.seqCounter := by
  unfold State.expireAck; (try dsimp only); (repeat' split) <;> simp
@[simp] theorem State.expireAck_queue : s.expireAck.queue = s.queue := by
  unfold State.expireAck; (try dsimp only); (repeat' split) <;> simp
@[simp] theorem State.expireAck_gens : s.expireAck.gens = s.gens := by
  unfold State.expireAck; (try dsimp only); (repeat' split) <;> simp
@[simp] theorem State.expireAck_io : s.expireAck.io = s.io := by
  unfold State.expireAck; (try dsimp only); (repeat' split) <;> simp
@[simp] theorem State.expireAck_pending : s.expireAck.pending = s.pending := by
  unfold State.expireAck; (try dsimp only); (repeat' split) <;> simp

/-! ### expireWindow -/

@[simp] theorem State.expireWindow_resetHeld (n : Nat) : (s.expireWindow n).resetHeld = s.resetHeld := by
  unfold State.expireWindow; (repeat' split) <;> simp
@[simp] theorem State.expireWindow_tick (n : Nat) : (s.expireWindow n).tick = s.tick := by
  unfold State.expireWindow; (repeat' split) <;> simp
@[simp] theorem State.expireWindow_stations (n : Nat) : (s.expireWindow n).stations = s.stations := by
  unfold State.expireWindow; (repeat' split) <;> simp
@[simp] theorem State.expireWindow_marks (n : Nat) : (s.expireWindow n).marks = s.marks := by
  unfold State.expireWindow; (repeat' split) <;> simp
@[simp] theorem State.expireWindow_baths (n : Nat) : (s.expireWindow n).baths = s.baths := by
  unfold State.expireWindow; (repeat' split) <;> simp
@[simp] theorem State.expireWindow_recipes (n : Nat) : (s.expireWindow n).recipes = s.recipes := by
  unfold State.expireWindow; (repeat' split) <;> simp
@[simp] theorem State.expireWindow_seqCounter (n : Nat) : (s.expireWindow n).seqCounter = s.seqCounter := by
  unfold State.expireWindow; (repeat' split) <;> simp
@[simp] theorem State.expireWindow_queue (n : Nat) : (s.expireWindow n).queue = s.queue := by
  unfold State.expireWindow; (repeat' split) <;> simp
@[simp] theorem State.expireWindow_requests (n : Nat) : (s.expireWindow n).requests = s.requests := by
  unfold State.expireWindow; (repeat' split) <;> simp
@[simp] theorem State.expireWindow_dispatcher (n : Nat) : (s.expireWindow n).dispatcher = s.dispatcher := by
  unfold State.expireWindow; (repeat' split) <;> simp
@[simp] theorem State.expireWindow_hoistA (n : Nat) : (s.expireWindow n).hoistA = s.hoistA := by
  unfold State.expireWindow; (repeat' split) <;> simp
@[simp] theorem State.expireWindow_hoistB (n : Nat) : (s.expireWindow n).hoistB = s.hoistB := by
  unfold State.expireWindow; (repeat' split) <;> simp
@[simp] theorem State.expireWindow_span (n : Nat) : (s.expireWindow n).span = s.span := by
  unfold State.expireWindow; (repeat' split) <;> simp
@[simp] theorem State.expireWindow_gens (n : Nat) : (s.expireWindow n).gens = s.gens := by
  unfold State.expireWindow; (repeat' split) <;> simp
@[simp] theorem State.expireWindow_line (n : Nat) : (s.expireWindow n).line = s.line := by
  unfold State.expireWindow; (repeat' split) <;> simp
@[simp] theorem State.expireWindow_io (n : Nat) : (s.expireWindow n).io = s.io := by
  unfold State.expireWindow; (repeat' split) <;> simp
@[simp] theorem State.expireWindow_link (n : Nat) : (s.expireWindow n).link = s.link := by
  unfold State.expireWindow; (repeat' split) <;> simp
@[simp] theorem State.expireWindow_pending (n : Nat) : (s.expireWindow n).pending = s.pending := by
  unfold State.expireWindow; (repeat' split) <;> simp

/-! ### giveRequest -/

@[simp] theorem State.giveRequest_resetHeld (h : Hoist) (k : Nat) : (s.giveRequest h k).resetHeld = s.resetHeld := by
  unfold State.giveRequest; (repeat' split) <;> simp
@[simp] theorem State.giveRequest_tick (h : Hoist) (k : Nat) : (s.giveRequest h k).tick = s.tick := by
  unfold State.giveRequest; (repeat' split) <;> simp
@[simp] theorem State.giveRequest_stations (h : Hoist) (k : Nat) : (s.giveRequest h k).stations = s.stations := by
  unfold State.giveRequest; (repeat' split) <;> simp
@[simp] theorem State.giveRequest_marks (h : Hoist) (k : Nat) : (s.giveRequest h k).marks = s.marks := by
  unfold State.giveRequest; (repeat' split) <;> simp
@[simp] theorem State.giveRequest_windows (h : Hoist) (k : Nat) : (s.giveRequest h k).windows = s.windows := by
  unfold State.giveRequest; (repeat' split) <;> simp
@[simp] theorem State.giveRequest_baths (h : Hoist) (k : Nat) : (s.giveRequest h k).baths = s.baths := by
  unfold State.giveRequest; (repeat' split) <;> simp
@[simp] theorem State.giveRequest_recipes (h : Hoist) (k : Nat) : (s.giveRequest h k).recipes = s.recipes := by
  unfold State.giveRequest; (repeat' split) <;> simp
@[simp] theorem State.giveRequest_racks (h : Hoist) (k : Nat) : (s.giveRequest h k).racks = s.racks := by
  unfold State.giveRequest; (repeat' split) <;> simp
@[simp] theorem State.giveRequest_seqCounter (h : Hoist) (k : Nat) : (s.giveRequest h k).seqCounter = s.seqCounter := by
  unfold State.giveRequest; (repeat' split) <;> simp
@[simp] theorem State.giveRequest_queue (h : Hoist) (k : Nat) : (s.giveRequest h k).queue = s.queue := by
  unfold State.giveRequest; (repeat' split) <;> simp
@[simp] theorem State.giveRequest_dispatcher (h : Hoist) (k : Nat) : (s.giveRequest h k).dispatcher = s.dispatcher := by
  unfold State.giveRequest; (repeat' split) <;> simp
@[simp] theorem State.giveRequest_gens (h : Hoist) (k : Nat) : (s.giveRequest h k).gens = s.gens := by
  unfold State.giveRequest; (repeat' split) <;> simp
@[simp] theorem State.giveRequest_line (h : Hoist) (k : Nat) : (s.giveRequest h k).line = s.line := by
  unfold State.giveRequest; (repeat' split) <;> simp
@[simp] theorem State.giveRequest_io (h : Hoist) (k : Nat) : (s.giveRequest h k).io = s.io := by
  unfold State.giveRequest; (repeat' split) <;> simp
@[simp] theorem State.giveRequest_pending (h : Hoist) (k : Nat) : (s.giveRequest h k).pending = s.pending := by
  unfold State.giveRequest; (repeat' split) <;> simp

/-! ### walk -/

@[simp] theorem State.walk_resetHeld (u : List Hoist) (l : List Nat) : (s.walk u l).resetHeld = s.resetHeld := by
  induction l generalizing s u with
  | nil => rfl
  | cons k l ih => unfold State.walk; split <;> simp [ih]
@[simp] theorem State.walk_tick (u : List Hoist) (l : List Nat) : (s.walk u l).tick = s.tick := by
  induction l generalizing s u with
  | nil => rfl
  | cons k l ih => unfold State.walk; split <;> simp [ih]
@[simp] theorem State.walk_stations (u : List Hoist) (l : List Nat) : (s.walk u l).stations = s.stations := by
  induction l generalizing s u with
  | nil => rfl
  | cons k l ih => unfold State.walk; split <;> simp [ih]
@[simp] theorem State.walk_marks (u : List Hoist) (l : List Nat) : (s.walk u l).marks = s.marks := by
  induction l generalizing s u with
  | nil => rfl
  | cons k l ih => unfold State.walk; split <;> simp [ih]
@[simp] theorem State.walk_windows (u : List Hoist) (l : List Nat) : (s.walk u l).windows = s.windows := by
  induction l generalizing s u with
  | nil => rfl
  | cons k l ih => unfold State.walk; split <;> simp [ih]
@[simp] theorem State.walk_baths (u : List Hoist) (l : List Nat) : (s.walk u l).baths = s.baths := by
  induction l generalizing s u with
  | nil => rfl
  | cons k l ih => unfold State.walk; split <;> simp [ih]
@[simp] theorem State.walk_recipes (u : List Hoist) (l : List Nat) : (s.walk u l).recipes = s.recipes := by
  induction l generalizing s u with
  | nil => rfl
  | cons k l ih => unfold State.walk; split <;> simp [ih]
@[simp] theorem State.walk_racks (u : List Hoist) (l : List Nat) : (s.walk u l).racks = s.racks := by
  induction l generalizing s u with
  | nil => rfl
  | cons k l ih => unfold State.walk; split <;> simp [ih]
@[simp] theorem State.walk_seqCounter (u : List Hoist) (l : List Nat) : (s.walk u l).seqCounter = s.seqCounter := by
  induction l generalizing s u with
  | nil => rfl
  | cons k l ih => unfold State.walk; split <;> simp [ih]
@[simp] theorem State.walk_queue (u : List Hoist) (l : List Nat) : (s.walk u l).queue = s.queue := by
  induction l generalizing s u with
  | nil => rfl
  | cons k l ih => unfold State.walk; split <;> simp [ih]
@[simp] theorem State.walk_dispatcher (u : List Hoist) (l : List Nat) : (s.walk u l).dispatcher = s.dispatcher := by
  induction l generalizing s u with
  | nil => rfl
  | cons k l ih => unfold State.walk; split <;> simp [ih]
@[simp] theorem State.walk_gens (u : List Hoist) (l : List Nat) : (s.walk u l).gens = s.gens := by
  induction l generalizing s u with
  | nil => rfl
  | cons k l ih => unfold State.walk; split <;> simp [ih]
@[simp] theorem State.walk_line (u : List Hoist) (l : List Nat) : (s.walk u l).line = s.line := by
  induction l generalizing s u with
  | nil => rfl
  | cons k l ih => unfold State.walk; split <;> simp [ih]
@[simp] theorem State.walk_io (u : List Hoist) (l : List Nat) : (s.walk u l).io = s.io := by
  induction l generalizing s u with
  | nil => rfl
  | cons k l ih => unfold State.walk; split <;> simp [ih]
@[simp] theorem State.walk_pending (u : List Hoist) (l : List Nat) : (s.walk u l).pending = s.pending := by
  induction l generalizing s u with
  | nil => rfl
  | cons k l ih => unfold State.walk; split <;> simp [ih]

/-! ### crossNotice -/

@[simp] theorem State.crossNotice_resetHeld (m : Option (Int × Nat)) : (s.crossNotice m).resetHeld = s.resetHeld := by
  unfold State.crossNotice; (try dsimp only); (repeat' split) <;> simp
@[simp] theorem State.crossNotice_tick (m : Option (Int × Nat)) : (s.crossNotice m).tick = s.tick := by
  unfold State.crossNotice; (try dsimp only); (repeat' split) <;> simp
@[simp] theorem State.crossNotice_stations (m : Option (Int × Nat)) : (s.crossNotice m).stations = s.stations := by
  unfold State.crossNotice; (try dsimp only); (repeat' split) <;> simp
@[simp] theorem State.crossNotice_marks (m : Option (Int × Nat)) : (s.crossNotice m).marks = s.marks := by
  unfold State.crossNotice; (try dsimp only); (repeat' split) <;> simp
@[simp] theorem State.crossNotice_windows (m : Option (Int × Nat)) : (s.crossNotice m).windows = s.windows := by
  unfold State.crossNotice; (try dsimp only); (repeat' split) <;> simp
@[simp] theorem State.crossNotice_baths (m : Option (Int × Nat)) : (s.crossNotice m).baths = s.baths := by
  unfold State.crossNotice; (try dsimp only); (repeat' split) <;> simp
@[simp] theorem State.crossNotice_recipes (m : Option (Int × Nat)) : (s.crossNotice m).recipes = s.recipes := by
  unfold State.crossNotice; (try dsimp only); (repeat' split) <;> simp
@[simp] theorem State.crossNotice_racks (m : Option (Int × Nat)) : (s.crossNotice m).racks = s.racks := by
  unfold State.crossNotice; (try dsimp only); (repeat' split) <;> simp
@[simp] theorem State.crossNotice_seqCounter (m : Option (Int × Nat)) : (s.crossNotice m).seqCounter = s.seqCounter := by
  unfold State.crossNotice; (try dsimp only); (repeat' split) <;> simp
@[simp] theorem State.crossNotice_queue (m : Option (Int × Nat)) : (s.crossNotice m).queue = s.queue := by
  unfold State.crossNotice; (try dsimp only); (repeat' split) <;> simp
@[simp] theorem State.crossNotice_requests (m : Option (Int × Nat)) : (s.crossNotice m).requests = s.requests := by
  unfold State.crossNotice; (try dsimp only); (repeat' split) <;> simp
@[simp] theorem State.crossNotice_hoistA (m : Option (Int × Nat)) : (s.crossNotice m).hoistA = s.hoistA := by
  unfold State.crossNotice; (try dsimp only); (repeat' split) <;> simp
@[simp] theorem State.crossNotice_hoistB (m : Option (Int × Nat)) : (s.crossNotice m).hoistB = s.hoistB := by
  unfold State.crossNotice; (try dsimp only); (repeat' split) <;> simp
@[simp] theorem State.crossNotice_span (m : Option (Int × Nat)) : (s.crossNotice m).span = s.span := by
  unfold State.crossNotice; (try dsimp only); (repeat' split) <;> simp
@[simp] theorem State.crossNotice_gens (m : Option (Int × Nat)) : (s.crossNotice m).gens = s.gens := by
  unfold State.crossNotice; (try dsimp only); (repeat' split) <;> simp
@[simp] theorem State.crossNotice_line (m : Option (Int × Nat)) : (s.crossNotice m).line = s.line := by
  unfold State.crossNotice; (try dsimp only); (repeat' split) <;> simp
@[simp] theorem State.crossNotice_io (m : Option (Int × Nat)) : (s.crossNotice m).io = s.io := by
  unfold State.crossNotice; (try dsimp only); (repeat' split) <;> simp
@[simp] theorem State.crossNotice_pending (m : Option (Int × Nat)) : (s.crossNotice m).pending = s.pending := by
  unfold State.crossNotice; (try dsimp only); (repeat' split) <;> simp

/-! ### crossAdmit -/

@[simp] theorem State.crossAdmit_resetHeld (m : Option (Int × Nat)) : (s.crossAdmit m).resetHeld = s.resetHeld := by
  unfold State.crossAdmit; (try dsimp only); (repeat' split) <;> simp
@[simp] theorem State.crossAdmit_tick (m : Option (Int × Nat)) : (s.crossAdmit m).tick = s.tick := by
  unfold State.crossAdmit; (try dsimp only); (repeat' split) <;> simp
@[simp] theorem State.crossAdmit_marks (m : Option (Int × Nat)) : (s.crossAdmit m).marks = s.marks := by
  unfold State.crossAdmit; (try dsimp only); (repeat' split) <;> simp
@[simp] theorem State.crossAdmit_windows (m : Option (Int × Nat)) : (s.crossAdmit m).windows = s.windows := by
  unfold State.crossAdmit; (try dsimp only); (repeat' split) <;> simp
@[simp] theorem State.crossAdmit_recipes (m : Option (Int × Nat)) : (s.crossAdmit m).recipes = s.recipes := by
  unfold State.crossAdmit; (try dsimp only); (repeat' split) <;> simp
@[simp] theorem State.crossAdmit_hoistA (m : Option (Int × Nat)) : (s.crossAdmit m).hoistA = s.hoistA := by
  unfold State.crossAdmit; (try dsimp only); (repeat' split) <;> simp
@[simp] theorem State.crossAdmit_hoistB (m : Option (Int × Nat)) : (s.crossAdmit m).hoistB = s.hoistB := by
  unfold State.crossAdmit; (try dsimp only); (repeat' split) <;> simp
@[simp] theorem State.crossAdmit_span (m : Option (Int × Nat)) : (s.crossAdmit m).span = s.span := by
  unfold State.crossAdmit; (try dsimp only); (repeat' split) <;> simp
@[simp] theorem State.crossAdmit_gens (m : Option (Int × Nat)) : (s.crossAdmit m).gens = s.gens := by
  unfold State.crossAdmit; (try dsimp only); (repeat' split) <;> simp
@[simp] theorem State.crossAdmit_line (m : Option (Int × Nat)) : (s.crossAdmit m).line = s.line := by
  unfold State.crossAdmit; (try dsimp only); (repeat' split) <;> simp
@[simp] theorem State.crossAdmit_io (m : Option (Int × Nat)) : (s.crossAdmit m).io = s.io := by
  unfold State.crossAdmit; (try dsimp only); (repeat' split) <;> simp
@[simp] theorem State.crossAdmit_pending (m : Option (Int × Nat)) : (s.crossAdmit m).pending = s.pending := by
  unfold State.crossAdmit; (try dsimp only); (repeat' split) <;> simp

/-! ### crossMargins -/

@[simp] theorem State.crossMargins_resetHeld : s.crossMargins.resetHeld = s.resetHeld := by
  unfold State.crossMargins; (try dsimp only); simp
@[simp] theorem State.crossMargins_tick : s.crossMargins.tick = s.tick := by
  unfold State.crossMargins; (try dsimp only); simp
@[simp] theorem State.crossMargins_marks : s.crossMargins.marks = s.marks := by
  unfold State.crossMargins; (try dsimp only); simp
@[simp] theorem State.crossMargins_windows : s.crossMargins.windows = s.windows := by
  unfold State.crossMargins; (try dsimp only); simp
@[simp] theorem State.crossMargins_recipes : s.crossMargins.recipes = s.recipes := by
  unfold State.crossMargins; (try dsimp only); simp
@[simp] theorem State.crossMargins_hoistA : s.crossMargins.hoistA = s.hoistA := by
  unfold State.crossMargins; (try dsimp only); simp
@[simp] theorem State.crossMargins_hoistB : s.crossMargins.hoistB = s.hoistB := by
  unfold State.crossMargins; (try dsimp only); simp
@[simp] theorem State.crossMargins_span : s.crossMargins.span = s.span := by
  unfold State.crossMargins; (try dsimp only); simp
@[simp] theorem State.crossMargins_gens : s.crossMargins.gens = s.gens := by
  unfold State.crossMargins; (try dsimp only); simp
@[simp] theorem State.crossMargins_line : s.crossMargins.line = s.line := by
  unfold State.crossMargins; (try dsimp only); simp
@[simp] theorem State.crossMargins_io : s.crossMargins.io = s.io := by
  unfold State.crossMargins; (try dsimp only); simp
@[simp] theorem State.crossMargins_pending : s.crossMargins.pending = s.pending := by
  unfold State.crossMargins; (try dsimp only); simp

/-! ### clearMarks -/

@[simp] theorem State.clearMarks_resetHeld : s.clearMarks.resetHeld = s.resetHeld := rfl
@[simp] theorem State.clearMarks_tick : s.clearMarks.tick = s.tick := rfl
@[simp] theorem State.clearMarks_stations : s.clearMarks.stations = s.stations := rfl
@[simp] theorem State.clearMarks_marks : s.clearMarks.marks = s.marks := rfl
@[simp] theorem State.clearMarks_windows : s.clearMarks.windows = s.windows := rfl
@[simp] theorem State.clearMarks_baths : s.clearMarks.baths = s.baths := rfl
@[simp] theorem State.clearMarks_recipes : s.clearMarks.recipes = s.recipes := rfl
@[simp] theorem State.clearMarks_racks : s.clearMarks.racks = s.racks := rfl
@[simp] theorem State.clearMarks_seqCounter : s.clearMarks.seqCounter = s.seqCounter := rfl
@[simp] theorem State.clearMarks_queue : s.clearMarks.queue = s.queue := rfl
@[simp] theorem State.clearMarks_dispatcher : s.clearMarks.dispatcher = s.dispatcher := rfl
@[simp] theorem State.clearMarks_hoistA : s.clearMarks.hoistA = s.hoistA := rfl
@[simp] theorem State.clearMarks_hoistB : s.clearMarks.hoistB = s.hoistB := rfl
@[simp] theorem State.clearMarks_span : s.clearMarks.span = s.span := rfl
@[simp] theorem State.clearMarks_gens : s.clearMarks.gens = s.gens := rfl
@[simp] theorem State.clearMarks_line : s.clearMarks.line = s.line := rfl
@[simp] theorem State.clearMarks_io : s.clearMarks.io = s.io := rfl
@[simp] theorem State.clearMarks_link : s.clearMarks.link = s.link := rfl
@[simp] theorem State.clearMarks_pending : s.clearMarks.pending = s.pending := rfl

/-! ### lookahead -/

@[simp] theorem State.lookahead_resetHeld : s.lookahead.resetHeld = s.resetHeld := by
  simp [State.lookahead, State.foldl_same State.resetHeld]
@[simp] theorem State.lookahead_tick : s.lookahead.tick = s.tick := by
  simp [State.lookahead, State.foldl_same State.tick]
@[simp] theorem State.lookahead_marks : s.lookahead.marks = s.marks := by
  simp [State.lookahead, State.foldl_same State.marks]
@[simp] theorem State.lookahead_windows : s.lookahead.windows = s.windows := by
  simp [State.lookahead, State.foldl_same State.windows]
@[simp] theorem State.lookahead_baths : s.lookahead.baths = s.baths := by
  simp [State.lookahead, State.foldl_same State.baths]
@[simp] theorem State.lookahead_recipes : s.lookahead.recipes = s.recipes := by
  simp [State.lookahead, State.foldl_same State.recipes]
@[simp] theorem State.lookahead_seqCounter : s.lookahead.seqCounter = s.seqCounter := by
  simp [State.lookahead, State.foldl_same State.seqCounter]
@[simp] theorem State.lookahead_queue : s.lookahead.queue = s.queue := by
  simp [State.lookahead, State.foldl_same State.queue]
@[simp] theorem State.lookahead_dispatcher : s.lookahead.dispatcher = s.dispatcher := by
  simp [State.lookahead, State.foldl_same State.dispatcher]
@[simp] theorem State.lookahead_hoistA : s.lookahead.hoistA = s.hoistA := by
  simp [State.lookahead, State.foldl_same State.hoistA]
@[simp] theorem State.lookahead_hoistB : s.lookahead.hoistB = s.hoistB := by
  simp [State.lookahead, State.foldl_same State.hoistB]
@[simp] theorem State.lookahead_span : s.lookahead.span = s.span := by
  simp [State.lookahead, State.foldl_same State.span]
@[simp] theorem State.lookahead_gens : s.lookahead.gens = s.gens := by
  simp [State.lookahead, State.foldl_same State.gens]
@[simp] theorem State.lookahead_line : s.lookahead.line = s.line := by
  simp [State.lookahead, State.foldl_same State.line]
@[simp] theorem State.lookahead_io : s.lookahead.io = s.io := by
  simp [State.lookahead, State.foldl_same State.io]
@[simp] theorem State.lookahead_link : s.lookahead.link = s.link := by
  simp [State.lookahead, State.foldl_same State.link]
@[simp] theorem State.lookahead_pending : s.lookahead.pending = s.pending := by
  simp [State.lookahead, State.foldl_same State.pending]

/-! ### pass -/

@[simp] theorem State.pass_resetHeld : s.pass.resetHeld = s.resetHeld := by
  unfold State.pass; (try dsimp only); simp
@[simp] theorem State.pass_tick : s.pass.tick = s.tick := by
  unfold State.pass; (try dsimp only); simp
@[simp] theorem State.pass_marks : s.pass.marks = s.marks := by
  unfold State.pass; (try dsimp only); simp
@[simp] theorem State.pass_windows : s.pass.windows = s.windows := by
  unfold State.pass; (try dsimp only); simp
@[simp] theorem State.pass_recipes : s.pass.recipes = s.recipes := by
  unfold State.pass; (try dsimp only); simp
@[simp] theorem State.pass_gens : s.pass.gens = s.gens := by
  unfold State.pass; (try dsimp only); simp
@[simp] theorem State.pass_line : s.pass.line = s.line := by
  unfold State.pass; (try dsimp only); simp
@[simp] theorem State.pass_io : s.pass.io = s.io := by
  unfold State.pass; (try dsimp only); simp
@[simp] theorem State.pass_pending : s.pass.pending = s.pending := by
  unfold State.pass; (try dsimp only); simp

/-! ### addIfHolds -/

@[simp] theorem State.addIfHolds_resetHeld (c : Cause) : (s.addIfHolds c).resetHeld = s.resetHeld := by
  unfold State.addIfHolds; (repeat' split) <;> simp
@[simp] theorem State.addIfHolds_tick (c : Cause) : (s.addIfHolds c).tick = s.tick := by
  unfold State.addIfHolds; (repeat' split) <;> simp
@[simp] theorem State.addIfHolds_stations (c : Cause) : (s.addIfHolds c).stations = s.stations := by
  unfold State.addIfHolds; (repeat' split) <;> simp
@[simp] theorem State.addIfHolds_marks (c : Cause) : (s.addIfHolds c).marks = s.marks := by
  unfold State.addIfHolds; (repeat' split) <;> simp
@[simp] theorem State.addIfHolds_windows (c : Cause) : (s.addIfHolds c).windows = s.windows := by
  unfold State.addIfHolds; (repeat' split) <;> simp
@[simp] theorem State.addIfHolds_baths (c : Cause) : (s.addIfHolds c).baths = s.baths := by
  unfold State.addIfHolds; (repeat' split) <;> simp
@[simp] theorem State.addIfHolds_recipes (c : Cause) : (s.addIfHolds c).recipes = s.recipes := by
  unfold State.addIfHolds; (repeat' split) <;> simp
@[simp] theorem State.addIfHolds_racks (c : Cause) : (s.addIfHolds c).racks = s.racks := by
  unfold State.addIfHolds; (repeat' split) <;> simp
@[simp] theorem State.addIfHolds_seqCounter (c : Cause) : (s.addIfHolds c).seqCounter = s.seqCounter := by
  unfold State.addIfHolds; (repeat' split) <;> simp
@[simp] theorem State.addIfHolds_queue (c : Cause) : (s.addIfHolds c).queue = s.queue := by
  unfold State.addIfHolds; (repeat' split) <;> simp
@[simp] theorem State.addIfHolds_requests (c : Cause) : (s.addIfHolds c).requests = s.requests := by
  unfold State.addIfHolds; (repeat' split) <;> simp
@[simp] theorem State.addIfHolds_dispatcher (c : Cause) : (s.addIfHolds c).dispatcher = s.dispatcher := by
  unfold State.addIfHolds; (repeat' split) <;> simp
@[simp] theorem State.addIfHolds_gens (c : Cause) : (s.addIfHolds c).gens = s.gens := by
  unfold State.addIfHolds; (repeat' split) <;> simp
@[simp] theorem State.addIfHolds_io (c : Cause) : (s.addIfHolds c).io = s.io := by
  unfold State.addIfHolds; (repeat' split) <;> simp
@[simp] theorem State.addIfHolds_pending (c : Cause) : (s.addIfHolds c).pending = s.pending := by
  unfold State.addIfHolds; (repeat' split) <;> simp

/-! ### evaluateBound -/

@[simp] theorem State.evaluateBound_resetHeld : s.evaluateBound.resetHeld = s.resetHeld := by
  simp [State.evaluateBound, State.foldl_same State.resetHeld]
@[simp] theorem State.evaluateBound_tick : s.evaluateBound.tick = s.tick := by
  simp [State.evaluateBound, State.foldl_same State.tick]
@[simp] theorem State.evaluateBound_stations : s.evaluateBound.stations = s.stations := by
  simp [State.evaluateBound, State.foldl_same State.stations]
@[simp] theorem State.evaluateBound_marks : s.evaluateBound.marks = s.marks := by
  simp [State.evaluateBound, State.foldl_same State.marks]
@[simp] theorem State.evaluateBound_windows : s.evaluateBound.windows = s.windows := by
  simp [State.evaluateBound, State.foldl_same State.windows]
@[simp] theorem State.evaluateBound_baths : s.evaluateBound.baths = s.baths := by
  simp [State.evaluateBound, State.foldl_same State.baths]
@[simp] theorem State.evaluateBound_recipes : s.evaluateBound.recipes = s.recipes := by
  simp [State.evaluateBound, State.foldl_same State.recipes]
@[simp] theorem State.evaluateBound_racks : s.evaluateBound.racks = s.racks := by
  simp [State.evaluateBound, State.foldl_same State.racks]
@[simp] theorem State.evaluateBound_seqCounter : s.evaluateBound.seqCounter = s.seqCounter := by
  simp [State.evaluateBound, State.foldl_same State.seqCounter]
@[simp] theorem State.evaluateBound_queue : s.evaluateBound.queue = s.queue := by
  simp [State.evaluateBound, State.foldl_same State.queue]
@[simp] theorem State.evaluateBound_requests : s.evaluateBound.requests = s.requests := by
  simp [State.evaluateBound, State.foldl_same State.requests]
@[simp] theorem State.evaluateBound_dispatcher : s.evaluateBound.dispatcher = s.dispatcher := by
  simp [State.evaluateBound, State.foldl_same State.dispatcher]
@[simp] theorem State.evaluateBound_gens : s.evaluateBound.gens = s.gens := by
  simp [State.evaluateBound, State.foldl_same State.gens]
@[simp] theorem State.evaluateBound_io : s.evaluateBound.io = s.io := by
  simp [State.evaluateBound, State.foldl_same State.io]
@[simp] theorem State.evaluateBound_pending : s.evaluateBound.pending = s.pending := by
  simp [State.evaluateBound, State.foldl_same State.pending]

/-! ### becomeStale -/

@[simp] theorem State.becomeStale_resetHeld (b : Nat) : (s.becomeStale b).resetHeld = s.resetHeld := by
  unfold State.becomeStale; (try dsimp only); (repeat' split) <;> simp
@[simp] theorem State.becomeStale_tick (b : Nat) : (s.becomeStale b).tick = s.tick := by
  unfold State.becomeStale; (try dsimp only); (repeat' split) <;> simp
@[simp] theorem State.becomeStale_stations (b : Nat) : (s.becomeStale b).stations = s.stations := by
  unfold State.becomeStale; (try dsimp only); (repeat' split) <;> simp
@[simp] theorem State.becomeStale_marks (b : Nat) : (s.becomeStale b).marks = s.marks := by
  unfold State.becomeStale; (try dsimp only); (repeat' split) <;> simp
@[simp] theorem State.becomeStale_windows (b : Nat) : (s.becomeStale b).windows = s.windows := by
  unfold State.becomeStale; (try dsimp only); (repeat' split) <;> simp
@[simp] theorem State.becomeStale_recipes (b : Nat) : (s.becomeStale b).recipes = s.recipes := by
  unfold State.becomeStale; (try dsimp only); (repeat' split) <;> simp
@[simp] theorem State.becomeStale_racks (b : Nat) : (s.becomeStale b).racks = s.racks := by
  unfold State.becomeStale; (try dsimp only); (repeat' split) <;> simp
@[simp] theorem State.becomeStale_seqCounter (b : Nat) : (s.becomeStale b).seqCounter = s.seqCounter := by
  unfold State.becomeStale; (try dsimp only); (repeat' split) <;> simp
@[simp] theorem State.becomeStale_queue (b : Nat) : (s.becomeStale b).queue = s.queue := by
  unfold State.becomeStale; (try dsimp only); (repeat' split) <;> simp
@[simp] theorem State.becomeStale_requests (b : Nat) : (s.becomeStale b).requests = s.requests := by
  unfold State.becomeStale; (try dsimp only); (repeat' split) <;> simp
@[simp] theorem State.becomeStale_dispatcher (b : Nat) : (s.becomeStale b).dispatcher = s.dispatcher := by
  unfold State.becomeStale; (try dsimp only); (repeat' split) <;> simp
@[simp] theorem State.becomeStale_hoistA (b : Nat) : (s.becomeStale b).hoistA = s.hoistA := by
  unfold State.becomeStale; (try dsimp only); (repeat' split) <;> simp
@[simp] theorem State.becomeStale_hoistB (b : Nat) : (s.becomeStale b).hoistB = s.hoistB := by
  unfold State.becomeStale; (try dsimp only); (repeat' split) <;> simp
@[simp] theorem State.becomeStale_span (b : Nat) : (s.becomeStale b).span = s.span := by
  unfold State.becomeStale; (try dsimp only); (repeat' split) <;> simp
@[simp] theorem State.becomeStale_gens (b : Nat) : (s.becomeStale b).gens = s.gens := by
  unfold State.becomeStale; (try dsimp only); (repeat' split) <;> simp
@[simp] theorem State.becomeStale_line (b : Nat) : (s.becomeStale b).line = s.line := by
  unfold State.becomeStale; (try dsimp only); (repeat' split) <;> simp
@[simp] theorem State.becomeStale_io (b : Nat) : (s.becomeStale b).io = s.io := by
  unfold State.becomeStale; (try dsimp only); (repeat' split) <;> simp
@[simp] theorem State.becomeStale_pending (b : Nat) : (s.becomeStale b).pending = s.pending := by
  unfold State.becomeStale; (try dsimp only); (repeat' split) <;> simp

/-! ### becomeLapsed -/

@[simp] theorem State.becomeLapsed_resetHeld (b : Nat) : (s.becomeLapsed b).resetHeld = s.resetHeld := by
  unfold State.becomeLapsed; (try dsimp only); (repeat' split) <;> simp
@[simp] theorem State.becomeLapsed_tick (b : Nat) : (s.becomeLapsed b).tick = s.tick := by
  unfold State.becomeLapsed; (try dsimp only); (repeat' split) <;> simp
@[simp] theorem State.becomeLapsed_stations (b : Nat) : (s.becomeLapsed b).stations = s.stations := by
  unfold State.becomeLapsed; (try dsimp only); (repeat' split) <;> simp
@[simp] theorem State.becomeLapsed_marks (b : Nat) : (s.becomeLapsed b).marks = s.marks := by
  unfold State.becomeLapsed; (try dsimp only); (repeat' split) <;> simp
@[simp] theorem State.becomeLapsed_windows (b : Nat) : (s.becomeLapsed b).windows = s.windows := by
  unfold State.becomeLapsed; (try dsimp only); (repeat' split) <;> simp
@[simp] theorem State.becomeLapsed_recipes (b : Nat) : (s.becomeLapsed b).recipes = s.recipes := by
  unfold State.becomeLapsed; (try dsimp only); (repeat' split) <;> simp
@[simp] theorem State.becomeLapsed_racks (b : Nat) : (s.becomeLapsed b).racks = s.racks := by
  unfold State.becomeLapsed; (try dsimp only); (repeat' split) <;> simp
@[simp] theorem State.becomeLapsed_seqCounter (b : Nat) : (s.becomeLapsed b).seqCounter = s.seqCounter := by
  unfold State.becomeLapsed; (try dsimp only); (repeat' split) <;> simp
@[simp] theorem State.becomeLapsed_queue (b : Nat) : (s.becomeLapsed b).queue = s.queue := by
  unfold State.becomeLapsed; (try dsimp only); (repeat' split) <;> simp
@[simp] theorem State.becomeLapsed_requests (b : Nat) : (s.becomeLapsed b).requests = s.requests := by
  unfold State.becomeLapsed; (try dsimp only); (repeat' split) <;> simp
@[simp] theorem State.becomeLapsed_dispatcher (b : Nat) : (s.becomeLapsed b).dispatcher = s.dispatcher := by
  unfold State.becomeLapsed; (try dsimp only); (repeat' split) <;> simp
@[simp] theorem State.becomeLapsed_gens (b : Nat) : (s.becomeLapsed b).gens = s.gens := by
  unfold State.becomeLapsed; (try dsimp only); (repeat' split) <;> simp
@[simp] theorem State.becomeLapsed_io (b : Nat) : (s.becomeLapsed b).io = s.io := by
  unfold State.becomeLapsed; (try dsimp only); (repeat' split) <;> simp
@[simp] theorem State.becomeLapsed_pending (b : Nat) : (s.becomeLapsed b).pending = s.pending := by
  unfold State.becomeLapsed; (try dsimp only); (repeat' split) <;> simp

end Sys2Proof.Machine
end

