-- ==== Sys2Proof/Laws/Run.lean ====
section
/-! SUPPORT. How a command runs, what joining a flag or a cause to its set does, the retest and the retry that change
nothing, and the reading of the fields of a frame: the small lemmas that proofs about exec cite first. -/

namespace Sys2Proof.Machine

/-! ### Running a command -/

/-- Out of RESET a command that drives no output runs its meaning. -/
theorem live_next {s : State} (h : s.resetHeld = false) (f : State → State) : live s f = .next (f s) := by
  simp [live, h]

/-- Out of RESET a command runs its meaning and then drives the outputs. -/
theorem liveDriven_next {s : State} (h : s.resetHeld = false) (f : State → State) :
    liveDriven s f = .next (f s).driveOutputs := by
  simp [liveDriven, live, h]

/-- While RESET is held low a command changes nothing. -/
theorem live_held {s : State} (h : s.resetHeld = true) (f : State → State) : live s f = .next s := by simp [live, h]

/-- While RESET is held low a command changes nothing. -/
theorem liveDriven_held {s : State} (h : s.resetHeld = true) (f : State → State) : liveDriven s f = .next s := by
  simp [liveDriven, live, h]

/-- A request that is taken runs its handler with the slot empty before and after it. -/
theorem liveDriven_taken {s : State} (h : s.TakesRequests) (i : Instr) (handler : State → State) :
    liveDriven s (fun s => s.takeRequest i handler) =
      .next ((handler (s.setRequestSlot (some (.good i)))).setRequestSlot none).driveOutputs := by
  rw [liveDriven_next h.1, State.takeRequest_taken h]

/-! ### Sets kept in the order of their table -/

/-- Every flag is in the list of flags. -/
theorem StepFlag.mem_all (f : StepFlag) : f ∈ StepFlag.all := by cases f <;> decide

/-- A flag joined to a set: itself and what was there. -/
@[simp] theorem StepFlag.mem_addTo (f g : StepFlag) (l : List StepFlag) : g ∈ f.addTo l ↔ g = f ∨ g ∈ l := by
  unfold StepFlag.addTo
  by_cases h : f ∈ l
  · rw [if_pos h]; exact ⟨.inr, fun e => e.elim (fun e => e ▸ h) id⟩
  · rw [if_neg h]; simp [StepFlag.mem_all]

/-- Every cause is in the table of causes. -/
theorem Cause.mem_all (c : Cause) : c ∈ Cause.all := by cases c <;> decide

/-- A cause joined to a set: itself and what was there. -/
@[simp] theorem Cause.mem_addTo (c d : Cause) (l : List Cause) : d ∈ c.addTo l ↔ d = c ∨ d ∈ l := by
  unfold Cause.addTo
  by_cases h : c ∈ l
  · rw [if_pos h]; exact ⟨.inr, fun e => e.elim (fun e => e ▸ h) id⟩
  · rw [if_neg h]; simp [Cause.mem_all]

/-! ### Counts -/

/-- A count that stops at its limit never passes it. -/
theorem saturate_le (limit n : Nat) : saturate limit n ≤ limit := by
  unfold saturate; split <;> omega

/-- Order numbers and span sequences are never 0. -/
theorem nextNumber_pos (n : Nat) : 1 ≤ nextNumber n := by unfold nextNumber; split <;> omega

/-- Order numbers and span sequences stay within one character. -/
theorem nextNumber_le (n : Nat) : nextNumber n ≤ 255 := by unfold nextNumber; split <;> omega

/-! ### Fields of a frame -/

/-- A one-character field reads back. -/
theorem byte_toNat {n : Nat} (h : n < 256) : (BitVec.ofNat 8 n).toNat = n := by
  rw [BitVec.toNat_ofNat]; exact Nat.mod_eq_of_lt h

/-- A two-character field reads back, least significant first. -/
theorem read16_u16 {n : Nat} (h : n < 65536) : read16 (BitVec.ofNat 8 n) (BitVec.ofNat 8 (n / 256)) = n := by
  simp only [read16, BitVec.toNat_ofNat]; omega

/-- A signed one-character field reads back. -/
theorem byte_toInt {x : Int} (h1 : -128 ≤ x) (h2 : x ≤ 127) : (BitVec.ofNat 8 (BitVec.ofInt 8 x).toNat).toInt = x := by
  rw [BitVec.ofNat_toNat, BitVec.setWidth_eq, BitVec.toInt_ofInt]
  exact Int.bmod_eq_of_le (by omega) (by omega)

/-! ### Sends that end (11 R194) -/

/-- The send in progress ends: its frame leaves with the counts f raises, and what follows the leaving is done. -/
theorem State.endSend_sending {s : State} {c : Nat} (h : s.link.engine = .sending c) (f : Counts → Counts) :
    s.endSend f = State.afterLeave { s with link := s.link.leave c f } c := by
  unfold State.endSend; rw [h]

/-- With no send in progress the ending of one changes nothing. -/
theorem State.endSend_idle {s : State} (h : ∀ c, s.link.engine ≠ .sending c) (f : Counts → Counts) : s.endSend f = s := by
  unfold State.endSend; split
  · exact absurd ‹_› (h _)
  · rfl

/-- A dropped frame leaves as a sent one does, a hoist message with the lost sends raised (06 R110; log 40). -/
theorem State.dropSend_sending {s : State} {c : Nat} (h : s.link.engine = .sending c) (f : Counts → Counts) :
    s.dropSend f = State.afterLeave { s with link := s.link.leave c (fun k =>
      { f k with lost := if s.link.sendsHoistMessage then raise k.lost else k.lost }) } c :=
  State.endSend_sending h _

/-- With no send in progress the dropping of one changes nothing. -/
theorem State.dropSend_idle {s : State} (h : ∀ c, s.link.engine ≠ .sending c) (f : Counts → Counts) : s.dropSend f = s :=
  State.endSend_idle h _

/-! ### Timing tables, retests and retries -/

/-- HOIST TIMING's check is the ranges of R109. -/
theorem timingOk_iff (t : Timing) : timingOk t = true ↔ Timing.InRange t := by
  simp [timingOk, Timing.InRange, and_assoc]

/-- An empty queue is retested to no effect. -/
theorem State.retestHead_nil {s : State} (h : s.queue = []) : s.retestHead = s := by
  simp [State.retestHead, State.retestFrom, h]

/-- A head that fails its test leaves everything as it was. -/
theorem State.retestHead_fails {s : State} {e : QueueEntry} {rest : List QueueEntry} (h : s.queue = e :: rest)
    (f : s.admissionTest e = false) : s.retestHead = s := by
  simp [State.retestHead, State.retestFrom, h, f]

/-- A station that is not EMPTY and in service gives no BLOCKED request a retry. -/
theorem State.retryBlocked_of_not_free {s : State} {n : Nat} (h : (s.stations.get n).isFree = false) :
    s.retryBlocked n = s := by
  simp [State.retryBlocked, h]

/-! ### RACK notices told -/

/-- A RACK notice tells its event and the record it carries. -/
@[simp] theorem OutMsg.tells_rack (event : RackEvent) (slot : Nat) (r : Rack) (place : Option Nat) :
    (OutMsg.rack event r.id slot r.st r.stepIdx place).tells event slot r = true := by
  simp [OutMsg.tells]

/-- A RACK notice queued or dropped is told, whatever its station character. -/
theorem State.told_rackNotice (s : State) (event : RackEvent) (slot : Nat) (r : Rack) (place : Option Nat) :
    (s.rackNotice event slot r place).Told event slot r := by
  unfold State.Told State.rackNotice State.notify Link.notify
  split
  · exact .inl ⟨⟨.rack event r.id slot r.st r.stepIdx place, s.link.stamp⟩,
      by simp [Link.push, Table.modify, Table.get_set_self _ (show 3 < 4 by decide)], by simp⟩
  · next h =>
    refine .inr ⟨rfl, ?_⟩
    have e : ({ s.link.lose 3 with dropped := true } : Link).held 3 = s.link.held 3 := s.link.held_lose 3 3
    simp only [Config.replyPlaces, Config.orderPlaces] at h
    rw [e]; omega

end Sys2Proof.Machine
end

