-- ==== Sys2Proof/Laws/Spans.lean ====
section
/-! SUPPORT. What the closing of a hoist's order does to span control, to the hoist and to its outbound queue: the
lemmas that proofs about the ends of an order cite in place of unfolding becomeIdle. -/

namespace Sys2Proof.Machine

variable {s : State}

/-- The victim is the hoist other than the taker (07 R135). -/
theorem State.waitsFor_iff (h : Hoist) :
    s.WaitsFor h ↔ s.span.handover.stage = .waiting ∧ h = s.span.handover.taker.other := by
  unfold State.WaitsFor
  cases h <;> cases s.span.handover.taker <;> simp [Hoist.other]

/-- A SPAN with the ends of a span is the message that carries it (07 R132). -/
theorem Span.ends_message (sp : Span) (sequence : Nat) : OutMsg.span sp.ends.1 sp.ends.2 sequence = sp.message sequence := by
  cases sp <;> rfl

/-- What closing an order without a fault can do: the hoist is IDLE without order and timer, a pass is triggered, and
SHRINKING begins where a handover was WAITING for the order (06 R108, 07 R138). -/
theorem State.becomeIdle_cases (s : State) (h : Hoist) :
    (¬s.WaitsFor h ∧
      s.becomeIdle h = (s.setHoist h { s.hoist h with st := .idle, order := none, timer := none }).triggerPass) ∨
    (s.WaitsFor h ∧ s.becomeIdle h =
      ((s.setHoist h { s.hoist h with st := .idle, order := none, timer := none }).triggerPass).beginShrinking) := by
  have hs : ((s.setHoist h { s.hoist h with st := .idle, order := none, timer := none }).triggerPass).span = s.span := by
    cases h <;> rfl
  unfold State.becomeIdle
  by_cases hw : s.WaitsFor h
  · exact .inr ⟨hw, by simp only [hs]; rw [if_pos ((State.waitsFor_iff h).mp hw)]⟩
  · exact .inl ⟨hw, by simp only [hs]; rw [if_neg (fun c => hw ((State.waitsFor_iff h).mpr c))]⟩

/-- The closing of an order keeps R138 and R139, with the bound request as it was (07 R138, R139). -/
theorem State.becomeIdle_orderClosed (s : State) (h : Hoist) :
    s.OrderClosed (s.becomeIdle h) h s.span.handover.bound := by
  obtain ⟨hw, e⟩ | ⟨hw, e⟩ := s.becomeIdle_cases h
  · exact ⟨fun c => absurd c hw, fun _ => by rw [e]; cases h <;> rfl⟩
  · refine ⟨fun _ => ?_, fun c => absurd hw c⟩
    obtain ⟨hst, rfl⟩ := (State.waitsFor_iff h).mp hw
    rw [e]
    obtain ht | ht : s.span.handover.taker = .a ∨ s.span.handover.taker = .b := by
      cases s.span.handover.taker <;> simp
    all_goals
      constructor <;>
        simp only [State.beginShrinking, State.sendSpan, State.awaitAck, State.setHandover, State.setSpan, State.setSeq,
          State.sendHoist, State.triggerPass, State.setHoist, State.hoist, State.spanOf, State.seqOf, Hoist.other, ht,
          nextNumber] <;>
        (repeat' split) <;> simp_all

/-- A message to a hoist joins its queue where there is room, and no other queue changes (06 R110). -/
theorem State.sendHoist_queued (s : State) (h : Hoist) (m : OutMsg) (c : Nat) : (s.sendHoist h m).queued c =
    s.queued c ++ (if c = h.channel ∧ s.link.held c < 4 then [m] else []) := by
  have hl : h.channel < 4 := by cases h <;> decide
  simp only [State.queued, State.sendHoist, Link.send, Config.hoistPlaces]
  by_cases hc : c = h.channel
  · subst hc
    split
    · rename_i hr
      simp only [Link.push, Table.modify, Table.get_set_self _ hl, hr]; simp
    · rename_i hr
      simp only [Link.lose, Link.count, Table.modify, Table.get_set_self _ hl, hr]; simp
  · have hn : h.channel ≠ c := fun e => hc e.symm
    split <;> simp [Link.push, Link.lose, Link.count, Table.modify, hn, hc]

/-- SPAN queued to a hoist carries its recorded span under its next sequence (07 R132). -/
theorem State.sendSpan_queued (s : State) (h : Hoist) (c : Nat) : (s.sendSpan h).queued c =
    s.queued c ++ (if c = h.channel ∧ s.link.held c < 4 then [(s.spanOf h).message (nextNumber (s.seqOf h))] else []) := by
  have e : (s.sendSpan h).queued c =
      ((s.setSeq h (nextNumber (s.seqOf h))).sendHoist h ((s.spanOf h).message (nextNumber (s.seqOf h)))).queued c := by
    rw [← Span.ends_message]
    unfold State.sendSpan
    cases h <;> dsimp only <;> (repeat' split) <;> rfl
  rw [e, State.sendHoist_queued]
  cases h <;> rfl

/-- The closing of an order queues the SPAN of SHRINKING where a handover was WAITING for it and there is room, and
nothing else (06 R108, R110, 07 R138, R139). -/
theorem State.becomeIdle_queued (s : State) (h : Hoist) (c : Nat) :
    (¬s.WaitsFor h → (s.becomeIdle h).queued c = s.queued c) ∧
    (s.WaitsFor h → (s.becomeIdle h).queued c = s.queued c ++
      (if c = h.channel ∧ s.link.held c < 4 then [s.span.handover.narrowed.message (nextNumber (s.seqOf h))] else [])) := by
  obtain ⟨hw, e⟩ | ⟨hw, e⟩ := s.becomeIdle_cases h
  · exact ⟨fun _ => by rw [e]; cases h <;> rfl, fun c => absurd c hw⟩
  · refine ⟨fun c => absurd hw c, fun _ => ?_⟩
    obtain ⟨hst, rfl⟩ := (State.waitsFor_iff h).mp hw
    obtain ht | ht : s.span.handover.taker = .a ∨ s.span.handover.taker = .b := by
      cases s.span.handover.taker <;> simp
    all_goals
      rw [e, State.beginShrinking]
      simp only [ht, Hoist.other, State.triggerPass, State.setHoist, State.setHandover, State.setSpan, State.awaitAck]
      refine (State.sendSpan_queued _ _ c).trans ?_
      simp [State.queued, State.spanOf, State.seqOf]

end Sys2Proof.Machine
end

