-- ==== Sys2Proof/Tests/Slice0.lean ====
section
/-! SUPPORT. The model's own tests: well-formedness refusals, frames written out from the layout tables of chapter 11,
the data sheet's worked examples one step at a time, and for each statement with hypotheses a state that meets them.
Expected values are the data sheet's own. -/

namespace Sys2Proof.Tests

set_option Elab.async false
open Sys2Proof Sys2Proof.Machine

/-! ### Well-formedness refuses ill-formed commands -/

theorem test_wellFormed_slots :
    (Instr.due 24).wellFormed = false ∧ (Instr.due 23).wellFormed = true ∧ (Instr.overtime 24).wellFormed = false := by
  decide

theorem test_wellFormed_baths :
    (Instr.stale 8).wellFormed = false ∧ (Instr.lapsed 8).wellFormed = false ∧ (Instr.cycleStart 8).wellFormed = false ∧
      (Instr.burstEnd 8).wellFormed = false ∧ (Instr.burstEnd 7).wellFormed = true := by decide

theorem test_wellFormed_stations_and_lines :
    (Instr.seated 32).wellFormed = false ∧ (Instr.released 32).wellFormed = false ∧
      (Instr.seatWindowExpiry 32).wellFormed = false ∧ (Instr.outputFaultMarkSet 35).wellFormed = false ∧
      (Instr.outputFaultMarkClear 35).wellFormed = false ∧ (Instr.outputFaultMarkSet 34).wellFormed = true := by decide

theorem test_wellFormed_rack_requests :
    (Instr.admitRack 65536 3 0 620 25).wellFormed = false ∧ (Instr.admitRack 101 256 0 620 25).wellFormed = false ∧
      (Instr.admitRack 101 3 256 620 25).wellFormed = false ∧ (Instr.admitRack 101 3 0 65536 25).wellFormed = false ∧
      (Instr.admitRack 101 3 0 620 128).wellFormed = false ∧ (Instr.admitRack 101 3 0 620 (-129)).wellFormed = false ∧
      (Instr.admitRack 101 3 0 620 25).wellFormed = true ∧ (Instr.withdraw 65536).wellFormed = false ∧
      (Instr.rackRemove 65536).wellFormed = false ∧ (Instr.rackPlace 1 256 0).wellFormed = false ∧
      (Instr.rackQuery 1 256).wellFormed = false := by decide

theorem test_wellFormed_configuration :
    (Instr.stationSet 256 none 0 none none).wellFormed = false ∧ (Instr.stationQuery 256).wellFormed = false ∧
      (Instr.bathSet 0 65536 0 0 0).wellFormed = false ∧ (Instr.bathSet 0 0 0 256 0).wellFormed = false ∧
      (Instr.bathTableSet 0 (List.replicate 8 1024)).wellFormed = false ∧
      (Instr.bathTableSet 0 (List.replicate 9 65536)).wellFormed = false ∧
      (Instr.bathTableSet 0 (List.replicate 9 1024)).wellFormed = true ∧
      (Instr.bathOwedClear 256).wellFormed = false ∧ (Instr.bathQuery 256).wellFormed = false ∧
      (Instr.recipeOpen 256).wellFormed = false ∧ (Instr.recipeClose 256).wellFormed = false ∧
      (Instr.recipeQuery 0 256).wellFormed = false ∧
      (Instr.stepSet 0 1 { bath := 0, nominal := 65536, comp := none, adjustable := none, cls := none, tolerance := 0,
                           drain := 0, agitate := none }).wellFormed = false := by decide

theorem test_wellFormed_other_requests :
    (Instr.dispatchConfig { lookahead := 65536, orderMargin := 0, admitMargin := 0, lowMark := 0, hysteresis := 0,
                            mode := none }).wellFormed = false ∧
      (Instr.queueQuery 256).wellFormed = false ∧
      (Instr.hoistTiming none { Timing.reset with lift := 65536 }).wellFormed = false ∧
      (Instr.spanConfig 256 0).wellFormed = false ∧
      (Instr.agitationSet 0 { prescale := 0, cycle := 0, width := 256, extra := 0 }).wellFormed = false ∧
      (Instr.agitationQuery 256 0).wellFormed = false ∧ (Instr.causeClear (List.replicate 12 0)).wellFormed = false ∧
      (Instr.causeClear [256]).wellFormed = false ∧ (Instr.inputSet 0 256 none none).wellFormed = false ∧
      (Instr.outputMode (.permit .a) none).wellFormed = false ∧ (Instr.outputMode (.pair 16) none).wellFormed = false ∧
      (Instr.outputLatch 256 none).wellFormed = false ∧ (Instr.ioQuery none 256).wellFormed = false ∧
      (Instr.linkQuery 256).wellFormed = false := by decide

theorem test_wellFormed_reports :
    (Instr.hello .a (some (-128))).wellFormed = false ∧ (Instr.hello .a none).wellFormed = true ∧
      (Instr.accept .a 256 none).wellFormed = false ∧ (Instr.refuse .a 1 256).wellFormed = false ∧
      (Instr.poised .a 1 (some 128)).wellFormed = false ∧ (Instr.lifted .b 256 none).wellFormed = false ∧
      (Instr.placed .b 256 none).wellFormed = false ∧ (Instr.cancelled .b 256).wellFormed = false ∧
      (Instr.position .b (some 128)).wellFormed = false ∧ (Instr.spanAck .b 256 none).wellFormed = false ∧
      (Instr.fault .b 256).wellFormed = false ∧ (Instr.temp 0 32768).wellFormed = false ∧
      (Instr.pumped 0 65536).wellFormed = false := by decide

theorem test_wellFormed_link_events :
    (Instr.frameReceived 0x20 (List.replicate 256 0)).wellFormed = false ∧ (Instr.lengthError 30).wellFormed = false ∧
      (Instr.lengthError 31).wellFormed = true := by decide +kernel

/-! ### Frames, written out from the layout tables and R188, R189 -/

theorem test_frame_hello_unknown : decodeFrame 0 0x20 [0x80] = some (.hello .a none) := by decide
theorem test_frame_hello_park_a : decodeFrame 0 0x20 [0xFF] = some (.hello .a (some (-1))) := by decide
theorem test_frame_accept : decodeFrame 1 0x21 [17, 1] = some (.accept .b 17 (some 1)) := by decide
theorem test_frame_refuse : decodeFrame 1 0x22 [31, 2] = some (.refuse .b 31 2) := by decide
theorem test_frame_temp_negative : decodeFrame 2 0x30 [0, 0xFE, 0xFF] = some (.temp 0 (-2)) := by decide
theorem test_frame_pumped : decodeFrame 2 0x31 [3, 0x2C, 0x01] = some (.pumped 3 300) := by decide
theorem test_frame_admit :
    decodeFrame 3 0x40 [101, 0, 3, 0, 0x60, 0x09, 0xE2] = some (.admitRack 101 3 0 2400 (-30)) := by decide
theorem test_frame_station_set :
    decodeFrame 3 0x45 [2, 2, 0, 0, 1] = some (.stationSet 2 (some .bath) 0 (some true) (some true)) := by decide
theorem test_frame_step_set :
    decodeFrame 3 0x4C [3, 1, 0, 0x94, 0x11, 2, 1, 0, 30, 0, 40, 1] =
      some (.stepSet 3 1 { bath := 0, nominal := 4500, comp := some .tempActivity, adjustable := some true,
                           cls := some .critical, tolerance := 30, drain := 40, agitate := some true }) := by decide
theorem test_frame_step_set_bad_enumeration :
    decodeFrame 3 0x4C [3, 1, 0, 0x94, 0x11, 3, 1, 0, 30, 0, 40, 1] =
      some (.stepSet 3 1 { bath := 0, nominal := 4500, comp := none, adjustable := some true,
                           cls := some .critical, tolerance := 30, drain := 40, agitate := some true }) := by decide
theorem test_frame_agitation_set :
    decodeFrame 3 0x57 [0, 24, 2, 7, 8] =
      some (.agitationSet 0 { prescale := 24, cycle := 2, width := 7, extra := 8 }) := by decide
theorem test_frame_span_config : decodeFrame 3 0x55 [1, 8] = some (.spanConfig 1 8) := by decide
theorem test_frame_cause_clear : decodeFrame 3 0x5E [9, 1] = some (.causeClear [9, 1]) := by decide
theorem test_frame_hoist_cancel : decodeFrame 3 0x52 [1] = some (.hoistCancel (some .b)) := by decide
theorem test_frame_input_set :
    decodeFrame 3 0x60 [32, 3, 1, 0] = some (.inputSet 32 3 (some .activeLow) (some true)) := by decide
theorem test_frame_output_latch : decodeFrame 3 0x62 [34, 0] = some (.outputLatch 34 (some true)) := by decide
theorem test_frame_io_query : decodeFrame 3 0x63 [1, 2] = some (.ioQuery (some .output) 2) := by decide
theorem test_frame_line_run : decodeFrame 3 0x59 [] = some .lineRun := by decide
theorem test_frame_dispatch_config :
    decodeFrame 3 0x4F [0x2C, 1, 30, 0, 0x2C, 1, 100, 0, 50, 0, 1] =
      some (.dispatchConfig { lookahead := 300, orderMargin := 30, admitMargin := 300, lowMark := 100,
                              hysteresis := 50, mode := some .byClass }) := by decide
theorem test_frame_wrong_length_refused :
    decodeFrame 0 0x21 [17] = none ∧ decodeFrame 3 0x59 [0] = none ∧ decodeFrame 3 0x48 (List.replicate 18 0) = none ∧
      decodeFrame 3 0x5E (List.replicate 12 0) = none := by decide
theorem test_frame_kind_not_of_the_channel :
    decodeFrame 0 0x30 [0, 0, 0] = none ∧ decodeFrame 2 0x20 [0] = none ∧ decodeFrame 3 0x20 [0] = none ∧
      decodeFrame 0 0x10 [1, 2, 3, 4] = none ∧ decodeFrame 3 0x65 [] = none := by decide
/-- An unknown position is 80h in a hoist report, and 7Fh in a reply, which no layout table covers (R189). -/
theorem test_unknown_position : oPosition none = [0x80] ∧ replyPosition none = [0x7F] := by decide
theorem test_no_table_word : decodeTableWord 8 0x59 = none := by decide

/-- The MOVE of order 17 from station 2 with drain 40 to station 5 (06, A Move; MOVE layout). -/
theorem test_frame_move : (OutMsg.move 17 2 40 5).frame = [0x10, 4, 17, 2, 40, 5] := by decide
/-- A RACK notice OVERTIME with overrun 31 and L 30 (03, Overrun and OVERTIME; RACK notice layout). -/
theorem test_frame_rack_overtime :
    (OutMsg.rack (.overtime 31 30) 101 0 .due 1 (some 2)).frame =
      [0x78, 13, 2, 101, 0, 0, 2, 1, 2, 31, 0, 0, 0, 30, 0] := by decide
/-- A character: data 01h has one set bit, so the parity bit is 0 for an odd total; a second set bit is an error. -/
theorem test_character_parity :
    Character.ofByte 1 = 0b10000000010#11 ∧ Character.hasError 0b10000000010#11 = false ∧
      Character.hasError 0b10000000110#11 = true ∧ Character.hasError 0b00000000010#11 = true := by decide

/-! ### A small line: that of the worked examples (01, Configuring a Small Line) -/

/-- A table with the listed records replaced. -/
def put {α : Type} {n : Nat} (t : Table α n) (l : List (Nat × α)) : Table α n :=
  l.foldl (fun t p => t.set p.1 p.2) t

/-- A station in service with seat sensing on. -/
def post (k : StationKind) (bath : Nat) : Station :=
  { kind := k, bath := bath, sensing := true, inService := true, occ := .empty }

/-- The five steps of recipe 3 (01, Writing and Closing a Recipe). -/
def filmSteps : List RecipeStep :=
  [{ bath := 0, nominal := 4500, comp := .tempActivity, adjustable := true, cls := .critical, tolerance := 30,
     drain := 40, agitate := true },
   { bath := 1, nominal := 300, comp := .none, adjustable := false, cls := .firm, tolerance := 100, drain := 30,
     agitate := true },
   { bath := 2, nominal := 3000, comp := .none, adjustable := false, cls := .loose, tolerance := 600, drain := 30,
     agitate := true },
   { bath := 4, nominal := 6000, comp := .none, adjustable := false, cls := .openEnded, tolerance := 65535, drain := 50,
     agitate := false },
   { bath := 5, nominal := 600, comp := .none, adjustable := false, cls := .loose, tolerance := 1200, drain := 100,
     agitate := false }]

/-- The developer of the worked examples. -/
def developer : Bath :=
  { Bath.reset with tRef := 200, points := [479, 579, 700, 847, 1024, 1240, 1497, 1811, 2190], rho := 400, slope := 8,
                    threshold := 6000 }

/-- The configured line in STANDBY, both hoists at park and GAS-OK active. -/
def standby : State :=
  { State.reset with
    stations := put State.reset.stations
      [(0, post .load 0), (1, post .load 0), (2, post .bath 0), (3, post .bath 0), (4, post .bath 0), (5, post .bath 1),
       (6, post .bath 2), (7, post .bath 2), (8, post .bath 3), (9, post .bath 4), (10, post .bath 4),
       (11, post .bath 4), (12, post .bath 5), (14, post .unload 0), (15, post .unload 0)]
    baths := State.reset.baths.set 0 developer
    recipes := State.reset.recipes.set 3 { st := .ready, steps := filmSteps, refs := 0 }
    hoistA := { HoistRec.reset with st := .idle, position := some (-1) }
    hoistB := { HoistRec.reset with st := .idle, position := some 32 }
    span := { State.reset.span with split := 8 }
    io := { State.reset.io with
      inputs := State.reset.io.inputs.set 33 { Input.reset with raw := true, level := true }, seeded := true } }

/-- The line in RUN with the spans of the worked examples, hoist A at station 1 and hoist B at station 12. -/
def running : State :=
  State.driveOutputs { standby with
    line := { st := .run, causes := [] }
    hoistA := { standby.hoistA with position := some 1 }
    hoistB := { standby.hoistB with position := some 12 }
    span := { standby.span with spanA := .range 0 7, spanB := .range 9 31, seqA := 1, seqB := 1 } }

/-- A seat input that reads seated. -/
def seatedInput (s : State) (n : Nat) : State := s.setInput n { s.io.inputs.get n with raw := true, level := true }

/-- The line in another state with some causes, its permit lines driven. -/
def inState (s : State) (st : LineState) (causes : List Cause) : State :=
  State.driveOutputs { s with
    line := { st := st, causes := causes }
    hoistA := { s.hoistA with suspended := decide (st = .halt) }
    hoistB := { s.hoistB with suspended := decide (st = .halt) } }

/-- Frames waiting on a channel. -/
def holding (s : State) (c : Nat) (frames : List OutMsg) : State :=
  { s with link := { s.link with
    channels := s.link.channels.set c { s.link.channels.get c with queue := frames.map (fun m => ⟨m, 0⟩) } } }

/-- The channel receives. -/
def receiving (s : State) (c : Nat) : State := { s with link := { s.link with engine := .receiving c } }

/-- Rack 101 of recipe 3, area 620 and adjust +25. -/
def rack101 (st : RackState) (step : Nat) (station dest : Option Nat) : Rack :=
  { id := 101, recipe := 3, load := 0, area := 620, adjust := 25, seq := 41, st := st, stepIdx := step,
    station := station, dest := dest, acc := 0, target := 360000, dueTick := none, overrun := 0, flags := [],
    history := [], lifted := decide (st = .carried) }

/-- A move request of rack 101. -/
def asking (source : Nat) (dest : Option Nat) (st : RequestState) : Request :=
  { source := source, dest := dest, cls := .critical, created := 0, st := st, markA := none, markB := none }

/-- A rack in slot 0 with its request, its station OCCUPIED and its destination RESERVED. -/
def withRack (s : State) (r : Rack) (q : Option Request) : State :=
  { s with
    racks := s.racks.set 0 (some r)
    requests := s.requests.set 0 q
    recipes := s.recipes.modify 3 (fun x => { x with refs := 1 })
    stations := put s.stations
      ((r.station.toList.map (fun n => (n, { s.stations.get n with occ := .occupied 0 }))) ++
       (r.dest.toList.map (fun n => (n, { s.stations.get n with occ := .reservedRack 0 })))) }

/-- An order of rack 101 from station 2 to station 5. -/
def order17 (phase : Phase) : Order :=
  { number := 17, slot := 0, source := 2, drain := 40, dest := 5, phase := phase, cancelOut := false,
    cancelCrossed := false }

/-- Rack 101 in station 2, bound for station 5, with order 17 open on hoist A (06, A Move). -/
def ordered (st : RackState) (o : Order) (timer : Option Nat) : State :=
  let s := withRack running (rack101 st 1 (if st = .carried then none else some 2) (some 5))
    (some (asking 2 (some 5) (.ordered .a)))
  { s with hoistA := { s.hoistA with st := .busy, order := some o, timer := timer, lastOrder := 17 } }

/-- The state a step leaves, if it leaves one. -/
def next? : Host.Outcome State Fault Refusal → Option State
  | .next t => some t
  | _ => none

/-- What a command leaves. -/
def after (c : Instr) (s : State) : State := (next? (exec c s)).getD State.reset

/-- The messages waiting on a channel. -/
def messages (s : State) (c : Nat) : List OutMsg := (s.link.channels.get c).queue.map (·.msg)

/-! ### The time base and the chemistry: worked cases of 03 and 04 -/

/-- Cases a to f of the table of factors at the limits (03). -/
theorem test_factors_at_the_limits :
    { developer with status := .fresh, temp := some 213, owed := 600 }.computeFactors =
        { fT := 1164, g := 1006, fTA := 1144, tempClamp := false, actClamp := false } ∧
      { developer with status := .fresh, temp := some 150 }.computeFactors =
        { fT := 640, g := 1024, fTA := 640, tempClamp := false, actClamp := false } ∧
      { developer with status := .fresh, temp := some 280 }.computeFactors =
        { fT := 2190, g := 1024, fTA := 2190, tempClamp := false, actClamp := false } ∧
      { developer with status := .fresh, temp := some 295 }.computeFactors =
        { fT := 2190, g := 1024, fTA := 2190, tempClamp := true, actClamp := false } ∧
      { developer with status := .fresh, temp := some 110, owed := 65535, slope := 255 }.computeFactors =
        { fT := 479, g := 512, fTA := 256, tempClamp := true, actClamp := true } ∧
      { developer with owed := 3200 }.computeFactors =
        { fT := 1024, g := 924, fTA := 924, tempClamp := false, actClamp := false } := by decide +kernel

/-- A table falling across an interval rounds −60.5 to −61 (03, case b). -/
theorem test_factor_rounds_away_from_zero :
    { developer with status := .fresh, temp := some 150,
                     points := [479, 700, 579, 847, 1024, 1240, 1497, 1811, 2190] }.computeFactors.fT = 639 := by
  decide +kernel

/-- A Pushed Developer Step (03): the target, and the phases of 1144 that gain 72 units. -/
theorem test_target_and_increments :
    (filmSteps[0]?.map (fun st => st.target 25)) = some 360000 ∧
      (List.range 16).filter (fun p => decide (increment 1144 p = 72)) = [1, 2, 4, 6, 8, 10, 12, 14] ∧
      (List.range 16).filter (fun p => decide (increment 1144 p = 71)) = [0, 3, 5, 7, 9, 11, 13, 15] := by decide +kernel

/-- The line of A Factor Change Within a Step (03): rack 101 in station 2 with an accumulator, at a tick count. -/
def developing (acc : Nat) (tick : TickCount) (fTA : Nat) : State :=
  let s := withRack running { rack101 .immersed 1 (some 2) none with acc := acc } none
  { s with tick := tick, baths := s.baths.modify 0 (fun b => { b with active := { b.active with fTA := fTA } }) }

/-- Tick 10,010 has phase 10, which gains 72 units of 1144 (03, A Factor Change Within a Step). -/
theorem test_lineTick_gains :
    ((after .lineTick (developing 300000 10009 1144)).racks.get 0).map (·.acc) = some 300072 := by decide +kernel

/-- At tick 10,971, of phase 11, the rack gains 62 units of 998, reaches its target and becomes DUE (03). -/
theorem test_lineTick_due :
    ((after .lineTick (developing 359998 10970 998)).racks.get 0).map (fun r => (r.acc, r.st, r.dueTick)) =
      some (360060, .due, some 10971) := by decide +kernel

theorem test_due_makes_due :
    ((after (.due 0) (developing 360000 5035 1144)).racks.get 0).map (·.dueTick) = some (some 5035) := by decide +kernel

/-- At tick 11,002 the overrun is 31 and exceeds L = 30; at 30 it does not (03, Overrun and OVERTIME). -/
theorem test_overtime_over_the_tolerance :
    let at_ := fun (n : Nat) => withRack running { rack101 .due 1 (some 2) none with overrun := n } none
    ((after (.overtime 0) (at_ 31)).racks.get 0).map (·.flags) = some [.overtime] ∧
      after (.overtime 0) (at_ 30) = at_ 30 := by decide +kernel

/-- A bath with a status and a stale count. -/
def stalling (status : TempStatus) (count : Nat) : State :=
  let s := withRack running (rack101 .immersed 1 (some 2) none) none
  { s with baths := s.baths.modify 0 (fun b => { b with temp := some 213, status := status, staleCount := count }) }

/-- At a count of 300 FRESH becomes STALE (04, A Probe Goes Quiet). -/
theorem test_stale_at_300 : ((after (.stale 0) (stalling .fresh 300)).baths.get 0).status = .stale := by decide +kernel

/-- At 1200 the bath becomes LAPSED, and with a rack in a compensated step the line moves to HOLD (04). -/
theorem test_lapsed_holds_the_line :
    (after (.lapsed 0) (stalling .stale 1200)).line = { st := .hold, causes := [.tempStale] } := by decide +kernel

/-- A report of 212 after LAPSED restores the bath and leaves the cause in the set (04). -/
theorem test_temp_restores :
    let t := after (.temp 0 212) (inState (stalling .lapsed 1450) .hold [.tempStale])
    (t.baths.get 0).status = .fresh ∧ (t.baths.get 0).staleCount = 0 ∧ t.line.causes = [.tempStale] := by decide +kernel

/-- A report of 905 only sets the probe fault (04). -/
theorem test_temp_out_of_range :
    ((after (.temp 0 905) (stalling .fresh 120)).baths.get 0) =
      { (stalling .fresh 120).baths.get 0 with probeFault := true } := by decide +kernel

/-- PUMPED 300 of 848 leaves 548 with G 1007, and 600 of 548 leaves 0 (04, Credits and a Full Cabinet Queue). -/
theorem test_pumped_credits :
    let owing := fun (n : Nat) => { running with baths := running.baths.modify 0 (fun b => { b with owed := n }) }
    let b := (after (.pumped 0 300) (owing 848)).baths.get 0
    b.owed = 548 ∧ b.pendingF.map (·.g) = some 1007 ∧ ((after (.pumped 0 600) (owing 548)).baths.get 0).owed = 0 := by
  decide +kernel

/-- Three racks of area 155 lifted from a bath of rho 325 owe 50, 100 and 151 mL (04, Charging Two Racks). -/
theorem test_charges_carry_the_remainder :
    let charge := fun (x : Nat × Nat) => ((x.1 + (155 * 325 + x.2) / 1000), (155 * 325 + x.2) % 1000)
    let s := { ordered .due (order17 .released) (some 50) with
      baths := running.baths.set 0 { Bath.reset with rho := 325, owed := 50, remainder := 375 }
      racks := running.racks.set 0 (some { rack101 .due 1 (some 2) (some 5) with area := 155 }) }
    let b := (after (.lifted .a 17 (some 2)) s).baths.get 0
    charge (0, 0) = (50, 375) ∧ (b.owed, b.remainder) = (100, 750) ∧ charge (100, 750) = (151, 125) := by decide +kernel

/-- With four OWED waiting and baths 4 and 5 marked, the place that a sent frame frees goes to bath 4 (04). -/
theorem test_frameSent_serves_the_lower_mark :
    let s := holding running 2 [.owed 0 1, .owed 1 1, .owed 2 1, .owed 3 1]
    let marked := { s with
      link := { s.link with engine := .sending 2 }
      baths := put s.baths [(4, { Bath.reset with owed := 7, owedUnsent := true }),
                            (5, { Bath.reset with owed := 8, owedUnsent := true })] }
    messages (after .frameSent marked) 2 = [.owed 1 1, .owed 2 1, .owed 3 1, .owed 4 7] := by decide +kernel

theorem test_bathOwedClear_sends_owed :
    let s := { running with baths := running.baths.modify 0 (fun b => { b with owed := 9, remainder := 3 }) }
    messages (after (.bathOwedClear 0) s) 2 = [.owed 0 0] := by decide +kernel

/-! ### Configuration (01) -/

/-- STATION SET turns sensing on at a station whose seat is seated: FOREIGN (01, station 9's rack bar). -/
theorem test_stationSet_foreign :
    ((after (.stationSet 9 (some .bath) 4 (some true) (some true)) (seatedInput State.reset 9)).stations.get 9).occ =
      .foreign := by decide +kernel

theorem test_bathSet_writes :
    ((after (.bathSet 0 200 400 8 6000) State.reset).baths.get 0).rho = 400 := by decide +kernel

theorem test_bathTableSet_writes :
    ((after (.bathTableSet 0 developer.points) State.reset).baths.get 0).points = developer.points ∧
      (after (.bathTableSet 0 [255, 579, 700, 847, 1024, 1240, 1497, 1811, 2190]) State.reset).baths =
        State.reset.baths := by decide +kernel

/-- RECIPE OPEN of a READY recipe in use is refused with IN_USE (01). -/
theorem test_recipeOpen :
    ((after (.recipeOpen 3) State.reset).recipes.get 3).st = .writing ∧
      messages (after (.recipeOpen 3) (withRack running (rack101 .immersed 1 (some 2) none) none)) 3 =
        [.reply 0x4B .inUse 1 1 []] := by decide +kernel

/-- A first STEP SET at index 2 is refused, and at index 1 it is taken (01, Writing and Closing a Recipe). -/
theorem test_stepSet_index :
    let s := after (.recipeOpen 3) State.reset
    let f : StepFields := { bath := 0, nominal := 4500, comp := some .tempActivity, adjustable := some true,
                            cls := some .critical, tolerance := 30, drain := 40, agitate := some true }
    (after (.stepSet 3 2 f) s).recipes = s.recipes ∧
      ((after (.stepSet 3 1 f) s).recipes.get 3).steps = filmSteps.take 1 := by decide +kernel

/-- RECIPE CLOSE of the steps with step 4 in bath 2 names step 4, REPEATED_BATH; as tabled it is READY (01). -/
theorem test_recipeClose :
    let writing := fun (steps : List RecipeStep) =>
      { standby with recipes := standby.recipes.set 3 { st := .writing, steps := steps, refs := 0 } }
    messages (after (.recipeClose 3) (writing (filmSteps.modify 3 (fun st => { st with bath := 2 })))) 3 =
        [.reply 0x4D .badValue 1 1 [4, 2]] ∧
      ((after (.recipeClose 3) (writing filmSteps)).recipes.get 3).st = .ready := by decide +kernel

theorem test_settings :
    (after (.spanConfig 3 29) standby).span = standby.span ∧ (after (.spanConfig 3 28) standby).span.split = 28 ∧
      (after (.hoistTiming (some .b) { Timing.reset with fixed := 600 }) standby).hoistB.timing.fixed = 600 ∧
      (after (.dispatchConfig { lookahead := 50, orderMargin := 0, admitMargin := 0, lowMark := 0, hysteresis := 0,
                                mode := some .byClass }) standby).dispatcher.lookahead = 50 := by decide +kernel

/-! ### Admission (02, Head-of-Line Admission Against a Threshold) -/

/-- The line of the example with the bars of the new racks hung at the load stations. -/
def loading (inFlight : Nat) : State :=
  let s := seatedInput (seatedInput running 0) 1
  { s with stations := put s.stations [(0, { post .load 0 with occ := .foreign }), (1, { post .load 0 with occ := .foreign })]
           seqCounter := 40
           baths := s.baths.modify 0 (fun b => { b with areaInFlight := inFlight }) }

/-- Rack 101 of area 2400 takes slot 0 with sequence 41, and each of its baths rises to 2400. -/
theorem test_admit_at_once :
    let t := after (.admitRack 101 3 0 2400 25) (loading 0)
    ((t.racks.get 0).map (fun r => (r.seq, r.st)) = some (41, .atLoad)) ∧ (t.stations.get 0).occ = .occupied 0 ∧
      [0, 1, 2, 3, 4, 5].map (fun b => (t.baths.get b).areaInFlight) = [2400, 2400, 2400, 0, 2400, 2400] := by
  decide +kernel

/-- With 4800 in flight a rack of area 1500 is over the threshold of 6000 and is QUEUED. -/
theorem test_admit_queued :
    let t := after (.admitRack 103 3 0 1500 25) (loading 4800)
    t.queue.map (·.id) = [103] ∧ (t.stations.get 0).occ = .reservedEntry 103 ∧
      messages t 3 = [.reply 0x40 .queued 1 1 []] := by decide +kernel

theorem test_withdraw_entry :
    let s := after (.admitRack 103 3 0 1500 25) (loading 4800)
    (after (.withdraw 103) s).queue = [] ∧ ((after (.withdraw 103) s).stations.get 0).occ = .foreign := by decide +kernel

theorem test_rackRemove_carried_in_flight :
    messages (after (.rackRemove 101) (ordered .carried (order17 .lifted) (some 245))) 3 =
      [.reply 0x42 .inFlight 1 1 []] := by decide +kernel

theorem test_rackRemove_frees :
    let t := after (.rackRemove 101) (ordered .immersed (order17 .poised) none)
    t.racks.get 0 = none ∧ t.hoistA.st = .idle ∧ messages t 0 = [.cancel 17] := by decide +kernel

/-- A STRANDED rack 102 put back where it was lifted from is DUE at once, with the flags and ticks its history
recorded; put into step 2 it starts afresh (02, Placing a Stranded Rack). -/
theorem test_rackPlace :
    let r := { rack101 .stranded 1 none none with
      acc := 360003, overrun := 4, lifted := true, dueTick := some 5
      history := [{ step := 1, station := 2, acc := 360003, overrun := 4, flags := [] }] }
    let s := { withRack running r none with tick := 77 }
    ((after (.rackPlace 101 1 4) s).racks.get 0).map (fun r => (r.st, r.acc, r.overrun, r.dueTick, r.history.length)) =
        some (.due, 360003, 4, some 77, 0) ∧
      ((after (.rackPlace 101 2 5) s).racks.get 0).map (fun r => (r.st, r.acc, r.target, r.history.length)) =
        some (.immersed, 0, 19200, 1) := by decide +kernel

/-! ### Moves (06, A Move; A Lost Lift; A Cancel That Crosses a Lift) -/

theorem test_accept_timer :
    let s := ordered .immersed (order17 .sent) (some 20)
    (after (.accept .a 17 (some 1)) s).hoistA.timer = some 135 := by decide +kernel

theorem test_poised_waits_or_lifts :
    (after (.poised .a 17 (some 2)) (ordered .immersed (order17 .accepted) (some 9))).hoistA.timer = none ∧
      messages (after (.poised .a 17 (some 2)) (ordered .due (order17 .accepted) (some 9))) 0 = [.lift 17] := by
  decide +kernel

theorem test_lifted_timer_and_rack :
    let t := after (.lifted .a 17 (some 2)) (ordered .due (order17 .released) (some 46))
    t.hoistA.timer = some 245 ∧ (t.racks.get 0).map (·.st) = some .carried ∧ (t.stations.get 2).occ = .empty ∧
      (t.baths.get 0).owed = 248 := by decide +kernel

theorem test_placed_begins_step_two :
    let s := ordered .carried (order17 .lifted) (some 170)
    let t := after (.placed .a 17 (some 5)) s
    t.hoistA.st = .idle ∧ (t.racks.get 0).map (fun r => (r.st, r.stepIdx, r.target)) = some (.immersed, 2, 19200) ∧
      (t.stations.get 5).occ = .occupied 0 ∧ t.windows.get 5 = some 20 := by decide +kernel

theorem test_refuse_marks :
    let t := after (.refuse .a 17 2) (ordered .immersed (order17 .sent) (some 9))
    (t.requests.get 0).map (fun q => (q.st, q.dest, q.markA)) = some (.ready, some 5, some 100) ∧
      t.hoistA.lastRefusal = some 2 := by decide +kernel

theorem test_cancelled_crossed_is_stray :
    let o := { order17 .lifted with cancelCrossed := true }
    let t := after (.cancelled .a 17) (ordered .carried o (some 200))
    t.hoistA.stray = 1 ∧ t.hoistA.st = .busy ∧ t.hoistA.order.map (·.cancelCrossed) = some false := by decide +kernel

theorem test_hoistCancel :
    let t := after (.hoistCancel (some .a)) (ordered .immersed (order17 .poised) none)
    messages t 0 = [.cancel 17] ∧ t.hoistA.timer = some 20 ∧ t.hoistA.order.map (·.cancelOut) = some true := by
  decide +kernel

/-- The lift timeout with the seat released strands the rack, and with the seat seated leaves it DUE (A Lost Lift). -/
theorem test_phaseTimerExpiry_lost_lift :
    let s := ordered .due (order17 .released) (some 0)
    let t := after (.phaseTimerExpiry .a) s
    let u := after (.phaseTimerExpiry .a) (seatedInput s 2)
    t.line = { st := .hold, causes := [.hoistAFault] } ∧ (t.racks.get 0).map (·.st) = some .stranded ∧
      (t.stations.get 5).occ = .empty ∧ (u.racks.get 0).map (·.st) = some .due ∧
      (u.requests.get 0).map (·.st) = some .ready := by decide +kernel

theorem test_fault_reported :
    (after (.fault .b 7) running).hoistB.reason = .reported 7 ∧ (after (.fault .b 7) running).line.st = .hold := by
  decide +kernel

theorem test_hello_at_park :
    let s := { standby with hoistA := { HoistRec.reset with st := .offline } }
    (after (.hello .a (some (-1))) s).hoistA.st = .idle ∧ (after (.hello .a (some 3)) s).hoistA.st = .offline := by
  decide +kernel

theorem test_hoistRelease :
    (after (.hoistRelease (some .b)) standby).hoistB.released = true ∧
      (after (.hoistRelease (some .b)) standby).hoistB.position = some 32 := by decide +kernel

/-! ### Spans (07) -/

/-- The handover of request 103 (source 7, destination 9) to B: widened 7 to 31, narrowed 0 to 5. -/
theorem test_handover_spans :
    widenedSpan .b 7 9 = .range 7 31 ∧ narrowedSpan .b 1 7 9 (.range 0 7) = .range 0 5 ∧
      widenedSpan .a 7 8 = .range 0 8 ∧ narrowedSpan .a 1 7 8 (.range 9 31) = .range 10 31 := by decide

/-- B, the victim, settles to 10 to 31 while A waits to widen to 0 to 8 (Waiting Behind the Victim's Order). -/
def settling : State :=
  { running with
    hoistA := { running.hoistA with position := some 4 }
    span := { running.span with
      spanB := .range 10 31, seqA := 2, seqB := 4
      handover := { stage := .shrinking, taker := .a, bound := none, widened := .range 0 8, narrowed := .range 10 31,
                    old := .range 9 31, awaited := some (.b, 4), timer := some 149, suspended := false,
                    withdrawn := false } } }

theorem test_spanAck_widens :
    let t := after (.spanAck .b 4 (some 12)) settling
    t.span.handover.stage = .widening ∧ t.span.spanA = .range 0 8 ∧ messages t 0 = [.span 0 8 3] := by decide +kernel

theorem test_spanAck_outside_violates :
    let t := after (.spanAck .b 4 (some 9)) settling
    t.line = { st := .halt, causes := [.spanViolation] } ∧ t.span.handover.stage = .none ∧ t.span.spanA = .range 0 7 := by
  decide +kernel

theorem test_acknowledgementTimerExpiry :
    let t := after .acknowledgementTimerExpiry
      { settling with span := { settling.span with handover := { settling.span.handover with timer := some 0 } } }
    t.hoistB.st = .fault ∧ t.line = { st := .hold, causes := [.hoistBFault, .handoverTimeout] } := by decide +kernel

theorem test_position_violation :
    (after (.position .a (some 8)) running).line.causes = [.spanViolation] ∧
      (after (.position .a (some 7)) running).line.causes = [] := by decide +kernel

/-! ### The line (09, Pause, Stop and Recovery; Clearing with the Stop Still Pressed) -/

theorem test_pauseActive : (after .pauseActive running).line = { st := .hold, causes := [.pauseInput] } := by decide +kernel
theorem test_eStopActive :
    let t := after .eStopActive (inState running .hold [.pauseInput])
    t.line = { st := .halt, causes := [.pauseInput, .estop] } ∧ messages t 0 = [.halt] ∧ messages t 1 = [.halt] ∧
      (t.io.outputs.get 32).commanded = false ∧ (t.io.outputs.get 34).commanded = true := by decide +kernel
theorem test_gasOkInactive_adds_gas_low :
    (after .gasOkInactive running).line = { st := .hold, causes := [.gasLow] } := by decide +kernel
theorem test_lineResume_refused_then_taken :
    messages (after .lineResume (inState running .halt [.pauseInput, .estop])) 3 =
        [.reply 0x5C .stillPresent 1 1 [0, 2]] ∧
      (after .lineResume (inState running .halt [])).line = { st := .hold, causes := [] } ∧
      messages (after .lineResume (inState running .halt [])) 0 = [.resume] := by decide +kernel
theorem test_causeClear_keeps_held_estop :
    let s := seatedInput (inState running .halt [.pauseInput, .estop]) 32
    (after (.causeClear [9, 1]) s).line.causes = [.estop] ∧
      (after (.causeClear [9, 1]) (inState running .halt [.pauseInput, .estop])).line = { st := .halt, causes := [] } := by
  decide +kernel
theorem test_lineRun_grants_spans :
    let t := after .lineRun standby
    t.line.st = .run ∧ t.span.spanA = .range 0 7 ∧ t.span.spanB = .range 9 31 ∧ messages t 1 = [.span 9 31 1] := by
  decide +kernel
theorem test_lineRun_with_the_stop_pressed :
    let t := after .lineRun (seatedInput standby 32)
    t.line = { st := .standby, causes := [.estop] } ∧
      messages t 3 = [.line .estop .standby [.estop], .reply 0x59 .stillPresent 1 1 [0, 2]] := by decide +kernel
theorem test_lineClear :
    let t := after .lineClear (inState (ordered .due (order17 .released) (some 3)) .halt [.estop])
    t.line = { st := .standby, causes := [] } ∧ t.racks.get 0 = none ∧ messages t 0 = [.cancel 17, .resume] := by
  decide +kernel
theorem test_lineHold_and_halt :
    (after .lineHold running).line.st = .hold ∧ (after .lineHalt running).line.st = .halt := by decide +kernel

/-! ### Inputs, outputs and agitation (08, 10) -/

/-- The third sample that differs from the level makes station 4 FOREIGN (10, A Placement, an Intrusion and a Sticking
Valve), and the second does not. -/
theorem test_sampleEvent_debounces :
    let counting := fun (n : Nat) => running.setInput 4 { running.io.inputs.get 4 with run := n, raw := true }
    ((after (.sampleEvent 16 (3#35 <<< 32)) (counting 2)).stations.get 4).occ = .foreign ∧
      ((after (.sampleEvent 16 (3#35 <<< 32)) (counting 1)).stations.get 4).occ = .empty := by decide +kernel

/-- The monitor of valve 3 disagrees for the third sample: OUTPUT_FAULT and HOLD (10). -/
theorem test_sampleEvent_marks_a_fault :
    let s := running.setOutput 32 { running.io.outputs.get 32 with run := 2 }
    (after (.sampleEvent 0 (2#35 <<< 32)) s).line = { st := .hold, causes := [.outputFault] } := by decide +kernel

theorem test_seated_and_released :
    ((after (.seated 4) running).stations.get 4).occ = .foreign ∧
      ((after (.released 4) (after (.seated 4) running)).stations.get 4).occ = .empty := by decide +kernel

theorem test_seatWindowExpiry :
    let s := { withRack running (rack101 .immersed 1 (some 2) none) none with windows := running.windows.set 2 (some 0) }
    ((after (.seatWindowExpiry 2) s).racks.get 0).map (·.flags) = some [.seatUnconfirmed] := by decide +kernel

theorem test_outputMode_busy_outside_halt :
    let s := withRack running (rack101 .immersed 1 (some 3) none) none
    messages (after (.outputMode (.pair 1) (some .manual)) s) 3 = [.reply 0x61 .busy 1 1 []] ∧
      ((after (.outputMode (.pair 1) (some .manual)) (inState s .halt [.estop])).io.outputs.get 3).mode = .manual := by
  decide +kernel

theorem test_outputLatch_manual :
    let s := after (.outputMode .sounder (some .manual)) running
    ((after (.outputLatch 34 (some true)) s).io.outputs.get 34).commanded = true := by decide +kernel

theorem test_inputSet_polarity :
    ((after (.inputSet 4 3 (some .activeLow) (some true)) running).io.inputs.get 4).level = true ∧
      (after (.inputSet 32 3 (some .activeLow) (some false)) running).io.inputs = running.io.inputs := by decide +kernel

/-- The developer's program of 08. -/
def rhythm : Program := { prescale := 24, cycle := 2, width := 7, extra := 8 }

/-- A generator running the program in a cycle and unit. -/
def bubbling (cycle unit sample : Nat) (burst : Bool) : State :=
  let g : Generator := { active := rhythm, pendingP := none, running := true, sample := sample, unit := unit,
                         cycle := cycle, burstLen := 8, burst := burst }
  { running with gens := running.gens.set 0 g }

theorem test_agitationSet_starts :
    let g := (after (.agitationSet 0 rhythm) standby).gens.get 0
    g.running = true ∧ g.cycle = 0 ∧ g.burstLen = 7 ∧ g.burst = true := by decide +kernel

/-- The cycles with a burst of 8 units (08, A Developer Rhythm); cycle 4 is one, and a WAITING station joins at it. -/
theorem test_cycleStart_of_cycle_four :
    let s := { bubbling 3 48 0 false with marks := running.marks.set 3 .waiting }
    let t := after (.cycleStart 0) s
    (t.gens.get 0).cycle = 4 ∧ (t.gens.get 0).burstLen = 8 ∧ t.marks.get 3 = .joined ∧
      ((after (.cycleStart 0) (bubbling 4 48 0 false)).gens.get 0).burstLen = 7 := by decide +kernel

/-- The end of unit 8 of cycle 4 at sample 200 ends the burst (08). -/
theorem test_sample_ends_the_burst :
    let g := (after (.sampleEvent 0 (3#35 <<< 32)) (bubbling 4 7 24 true)).gens.get 0
    g.unit = 8 ∧ g.sample = 0 ∧ g.burst = false := by decide +kernel

/-! ### Dispatch (05, Two Hoists, a Critical Hold and a Handover) -/

/-- Rack 101 alone, IMMERSED with its request READY, at a tick from which it needs the ticks up to 40,100 at F = 1024. -/
def waiting (tick : Nat) : State :=
  let r := { rack101 .immersed 1 (some 2) (some 5) with acc := 360000 - 64 * (40100 - tick) }
  let s := withRack running r (some (asking 2 (some 5) .ready))
  { s with tick := BitVec.ofNat 32 tick }

/-- At tick 40,034 the order time 40,035 has not come; at 40,035 hoist A is given the move (05). -/
theorem test_dispatchPass_order_time :
    messages (after .dispatchPass (waiting 40034)) 0 = [] ∧
      messages (after .dispatchPass (waiting 40035)) 0 = [.move 1 2 40 5] := by decide +kernel

/-- The margin at tick 40,031 is 99, under the low mark of 100 (05). -/
theorem test_dispatchPass_margin_low :
    messages (after .dispatchPass (waiting 40031)) 3 = [.marginLow 99 101 0] ∧
      messages (after .dispatchPass (waiting 40030)) 3 = [] := by decide +kernel

/-- A CARRIED rack has no predicted due tick; one at its load station takes the tick of the request's creation
(03 R64, 05 R90). -/
theorem test_predictedDue :
    running.predictedDue (rack101 .carried 1 none (some 5)) (asking 2 (some 5) (.ordered .a)) = none ∧
      running.predictedDue (rack101 .atLoad 0 (some 0) none) { asking 0 none .blocked with created := 7 } = some 7 := by
  decide +kernel

/-- Rack 102, DUE in station 7 with its move to station 9 READY, in slot 1. -/
def straddling (s : State) : State :=
  let r : Rack := { rack101 .due 3 (some 7) (some 9) with id := 102, seq := 42, dueTick := some 40000 }
  { s with
    racks := s.racks.set 1 (some r)
    requests := s.requests.set 1 (some { asking 7 (some 9) .ready with cls := .loose })
    stations := put s.stations
      [(7, { post .bath 2 with occ := .occupied 1 }), (9, { post .bath 4 with occ := .reservedRack 1 })] }

/-- The move from 7 to 9 goes to A by the split, and A's handover squeezes B to 11 to 31; beside a CRITICAL rack that A
must fetch, A is held back and B is the taker (05 R96, R98, 07 R136). -/
theorem test_dispatchPass_critical_hold :
    let t := after .dispatchPass (straddling running)
    let u := after .dispatchPass (straddling (waiting 40030))
    (t.span.handover.taker = .a ∧ t.span.handover.narrowed = .range 11 31) ∧
      (u.span.handover.taker = .b ∧ u.span.handover.bound = some 1 ∧ u.hoistA.st = .idle) := by decide +kernel

/-! ### The link (11) -/

/-- Start bits on channels 0 and 1 together, A being the last received: B is taken, and A is cut off (11). -/
theorem test_startBit_other_hoist_first :
    let s := { running with link := { running.link with lastHoist := 0 } }
    let t := after (.startBit 3) s
    t.link.engine = .receiving 1 ∧ (t.link.channels.get 0).counts.cutOff = 1 := by decide +kernel

theorem test_sendBegin_oldest_hoist_frame :
    let s := holding (holding (holding running 1 [.halt]) 2 [.owed 0 1]) 3 [.marginClear none]
    (after (.sendBegin 0) s).link.engine = .sending 1 := by decide +kernel

theorem test_frameReceived_runs_the_request :
    let t := after (.frameReceived 0x5A []) (receiving running 3)
    t.line.causes = [.operatorHold] ∧ (t.link.channels.get 3).counts.good = 1 ∧ t.link.engine = .listen := by
  decide +kernel

theorem test_refusedFrame_answers :
    messages (after (.refusedFrame 0x55) (receiving running 2)) 2 = [.frameRefused 0x55] := by decide +kernel

theorem test_lengthError_waits_for_the_gap :
    let t := after (.lengthError 31) (receiving running 0)
    t.link.discardWait = some 0 ∧ (after .discardWaitEnd t).link.engine = .listen := by decide +kernel

theorem test_characterError_counts :
    ((after (.characterError 0b10000000110#11) (receiving running 0)).link.channels.get 0).counts.charError = 1 := by
  decide +kernel

theorem test_frameTruncated_counts :
    ((after .frameTruncated (receiving running 1)).link.channels.get 1).counts.truncated = 1 := by decide +kernel

theorem test_send_ends :
    let s := holding running 0 [.halt, .resume]
    let sending := { s with link := { s.link with engine := .sending 0 } }
    messages (after .missingAcknowledge sending) 0 = [.resume] ∧
      ((after .noClocking sending).link.channels.get 0).counts.noClocking = 1 ∧
      (∀ c ∈ [Instr.missingAcknowledge, .noClocking], ((after c sending).link.channels.get 0).counts.lost = 1) ∧
      ((after .frameSent sending).link.channels.get 0).counts.lost = 0 := by decide +kernel

theorem test_stationQuery_replies :
    (messages (after (.stationQuery 2) running) 3).map OutMsg.kind = [0x70] := by decide +kernel

theorem test_linkQuery_out_of_range :
    messages (after (.linkQuery 4) running) 3 = [.reply 0x64 .badValue 1 1 []] := by decide +kernel

theorem test_reset_held_takes_nothing :
    let s := after .resetAsserted running
    s.resetHeld = true ∧ after .lineHold s = s ∧ (after .powerOn s).resetHeld = false := by decide +kernel

/-! ### States that meet the statements' hypotheses

Each theorem names its statement; a statement with several clauses has a state or value for each. -/

/-- The outbound queue of the order station filled to n frames. -/
def full (s : State) (n : Nat) : State := holding s 3 (List.replicate n (.marginClear none))

/-- A request waits in channel 3's slot. -/
def slotted (s : State) (i : Instr) : State := { s with link := s.link.setSlot 3 (some (.good i)) }

/-- The one hypothesis of QueriesOnlyReply (second and third part), BathSetWritesAndComputes,
SettingsWritten, AgitationPrograms (first part), HoldHaltAndRunRefused, CauseClearKeepsWhatHolds, InputSetSettlesLevel
and RecipeWriting (first part), with the outbound queue empty and at its bound. -/
theorem test_hypothesis_takes_requests : running.TakesRequests ∧ (full running 5).TakesRequests := by
  unfold State.TakesRequests; decide +kernel

/-- The one hypothesis of TempReports, HelloByState, StrayReportsOnlyCounted, AuxiliaryAndFaultMarks,
DueAndOvertime and their like. -/
theorem test_hypothesis_reset_not_held : running.resetHeld = false := by decide +kernel

theorem test_hypotheses_StepRunsFrontCommand :
    ({ running with pending := [.lineHold, .lineRun] } : State).pending = [.lineHold, .lineRun] ∧ running.pending = [] := by
  decide +kernel

theorem test_hypotheses_ResetHeldAndTickCount :
    let s := after .resetAsserted running
    s.resetHeld = true ∧ Instr.lineHold ≠ .powerOn ∧ Instr.lineHold ≠ .resetAsserted ∧ exec .lineHold s = .next s ∧
      exec .lineTick running = .next (after .lineTick running) := by
  refine ⟨by decide +kernel, by decide, by decide, rfl, rfl⟩

/-- A line with an open order, a settling handover, charges and causes, and a halt request in front. -/
def busy : State :=
  let s := ordered .due (order17 .released) (some 50)
  State.driveOutputs { s with
    span := settling.span
    baths := s.baths.set 0 { developer with owed := 600, remainder := 999, status := .fresh, temp := some 213 }
    pending := [.lineHalt, .lineTick] }

theorem test_hypotheses_OutputsFollowKept : busy.OutputsFollow ∧ ∃ t, step busy = .next t :=
  ⟨by unfold State.OutputsFollow; decide +kernel, _, rfl⟩

theorem test_hypotheses_CauseLawKept : (busy.line.CausesFit ∧ busy.line.Ordered) ∧ ∃ t, step busy = .next t :=
  ⟨by unfold Line.CausesFit Line.Ordered; decide +kernel, _, rfl⟩

theorem test_hypotheses_SuspensionKept : busy.SuspendedInHalt ∧ ∃ t, step busy = .next t :=
  ⟨by unfold State.SuspendedInHalt; decide +kernel, _, rfl⟩

theorem test_busy_baths_lawful : ∀ n < 8,
    let b := busy.baths.get n
    (150 ≤ b.tRef ∧ b.tRef ≤ 300 ∧ b.rho ≤ 2000 ∧ b.slope ≤ 255 ∧ b.threshold ≤ 65535) ∧ b.points.length = 9 ∧
      (∀ p ∈ b.points, 256 ≤ p ∧ p ≤ 4095) ∧ (∀ t ∈ b.temp, 100 ≤ t ∧ t ≤ 400) ∧ b.active = Bath.reset.active ∧
      b.pendingF = none ∧ b.owed ≤ 65535 ∧ b.remainder ≤ 999 ∧ b.staleCount ≤ 65535 ∧
      (b.status = .none → b.staleCount = 0) ∧ b.areaInFlight ≤ 65535 := by decide +kernel

theorem test_hypotheses_BathLawsKept : busy.BathsLawful ∧ ∃ t, step busy = .next t := by
  refine ⟨fun n h => ?_, _, rfl⟩
  obtain ⟨⟨h1, h2, h3, h4, h5⟩, h6, h7, h8, h9, h10, h11, h12, h13, h14, h15⟩ := test_busy_baths_lawful n h
  exact ⟨⟨h1, h2⟩, h6, h7, h3, h4, h5, h8, by rw [h9]; unfold Factors.InRange; decide, by simp [h10], h11, h12, h13, h14, h15⟩

theorem test_hypotheses_QueuesStayBounded : busy.QueuesBounded ∧ ∃ t, step busy = .next t :=
  ⟨by unfold State.QueuesBounded; decide +kernel, _, rfl⟩

theorem test_hypotheses_OrdersFitKept : busy.OrdersFit ∧ busy.TimingsInRange ∧ ∃ t, step busy = .next t :=
  ⟨by unfold State.OrdersFit HoistRec.OrderFits; decide +kernel,
    by unfold State.TimingsInRange Timing.InRange; decide +kernel, _, rfl⟩

theorem test_hypotheses_SpansNeverMeet : busy.SpansLawful ∧ busy.span.handover.stage = .shrinking ∧
    ∃ t, step busy = .next t := by
  have stage : busy.span.handover.stage = .shrinking := by decide +kernel
  exact ⟨⟨(by decide : 7 + 1 + 1 ≤ 10), by decide +kernel, by decide +kernel, by decide +kernel,
    fun h => absurd (stage.symm.trans h) (by decide), fun _ => (by decide : 8 + 1 + 1 ≤ 10)⟩, stage, _, rfl⟩

theorem test_hypotheses_RequestWaits :
    Instr.lineHold.isRequest = true ∧
      ((full running 6).resetHeld = false ∧ (full running 6).OutputsFollow ∧ (full running 6).link.slot 3 = none ∧
        8 < (full running 6).link.held 3 + 3) ∧
      ((slotted running .lineRun).OutputsFollow ∧ (slotted running .lineRun).link.slot 3 ≠ none) := by
  unfold State.OutputsFollow; decide +kernel

/-- A line with an entry for rack 65534 waiting behind another and rack 101 in slot 0. -/
def queuing : State :=
  { withRack running (rack101 .immersed 1 (some 2) none) none with
    queue := [{ id := 103, recipe := 3, load := 0, area := 1500, adjust := 0 },
              { id := 65534, recipe := 3, load := 1, area := 500, adjust := 0 }]
    stations := put (withRack running (rack101 .immersed 1 (some 2) none) none).stations
      [(0, { post .load 0 with occ := .reservedEntry 103 }), (1, { post .load 0 with occ := .reservedEntry 65534 })] }

theorem test_hypotheses_QueriesOnlyReply :
    queuing.TakesRequests ∧ ¬(1 ≤ 0 ∧ 0 ≤ 65534 ∧ 12 ≤ 12) ∧ ¬(1 ≤ 65535 ∧ 65535 ≤ 65534 ∧ 12 ≤ 12) ∧
      queuing.slotOf 101 = some 0 ∧ queuing.racks.get 0 = some (rack101 .immersed 1 (some 2) none) ∧
      (queuing.slotOf 65534 = none ∧ queuing.queue[1]?.map (·.id) = some 65534 ∧
        ∀ j < 1, queuing.queue[j]?.map (·.id) ≠ some 65534) ∧
      (queuing.slotOf 1 = none ∧ ∀ x ∈ queuing.queue, x.id ≠ 1) ∧ (List.replicate 81 (0 : Byte)).length ≤ 81 ∧
      3 < 4 := by
  unfold State.TakesRequests; decide +kernel

theorem test_hypotheses_StationSetByLineState :
    standby.TakesRequests ∧ standby.line.st = .standby ∧ running.TakesRequests ∧ running.line.st ≠ .standby ∧
      31 ≤ 31 ∧ 7 ≤ 7 ∧ ¬(StationKind.bath = .unused ∧ true = true) ∧ 31 < 32 ∧ 7 < 8 := by
  unfold State.TakesRequests; decide +kernel

theorem test_hypotheses_BathTableSetReplacesAll :
    running.TakesRequests ∧ developer.points.length = 9 ∧ ¬∀ p ∈ (255 :: developer.points.drop 1), 256 ≤ p ∧ p ≤ 4095 := by
  unfold State.TakesRequests; decide +kernel

/-- Four OWED frames wait, that of bath 0 already being sent; the fourth place is bath 3's. -/
def sendingOwed : State :=
  let s := holding running 2 [.owed 0 1, .owed 1 1, .owed 2 1, .owed 3 1]
  { s with link := { s.link with engine := .sending 2 } }

theorem test_hypotheses_OwedClearedAndSent :
    running.TakesRequests ∧ 7 ≤ 7 ∧ 7 < 8 ∧ sendingOwed.resetHeld = false ∧
      (∃ f ∈ (sendingOwed.link.channels.get 2).queue.drop 1, match f.msg with | .owed c _ => c = 3 | _ => False) ∧
      (running.link.channels.get 2).queue.length < 4 ∧ 4 ≤ (sendingOwed.link.channels.get 2).queue.length ∧
      ¬(∃ f ∈ (sendingOwed.link.channels.get 2).queue.drop 1, match f.msg with | .owed c _ => c = 0 | _ => False) := by
  refine ⟨by unfold State.TakesRequests; decide +kernel, by decide, by decide, by decide +kernel,
    ⟨⟨.owed 3 1, 0⟩, by decide +kernel, rfl⟩, by decide +kernel, by decide +kernel, ?_⟩
  rintro ⟨f, hf, h⟩
  have e : (sendingOwed.link.channels.get 2).queue.drop 1 = [⟨.owed 1 1, 0⟩, ⟨.owed 2 1, 0⟩, ⟨.owed 3 1, 0⟩] := by
    decide +kernel
  rw [e] at hf
  simp only [List.mem_cons, List.not_mem_nil, or_false] at hf
  rcases hf with rfl | rfl | rfl <;> simp at h

/-- Recipe 3 being written with some steps. -/
def writing (steps : List RecipeStep) : State :=
  { standby with recipes := standby.recipes.set 3 { st := .writing, steps := steps, refs := 0 } }

theorem test_hypotheses_RecipeWriting :
    (writing filmSteps).TakesRequests ∧ ((writing filmSteps).recipes.get 3).st = .writing ∧
      (standby.recipes.get 3).st ≠ .writing ∧ 15 < 16 ∧ 3 ≤ 15 ∧
      (12 < 13 ∧ 5 + 1 < 7 ∧ ((writing filmSteps).recipes.get 3).steps.length = 5) ∧
      (7 ≤ 7 ∧ 1 ≤ 36000 ∧ 36000 ≤ 36000 ∧ 65535 ≤ 65535 ∧ 255 ≤ 255 ∧ 1 ≤ 6 ∧ 6 ≤ 12 ∧ 6 ≤ 5 + 1) ∧
      ((writing []).recipes.get 3).steps = [] := by
  unfold State.TakesRequests; decide +kernel

/-- A step is served by a station in service, and names the bath of the step before. -/
def served (s : State) (j : Nat) : Bool :=
  (List.range 32).any (fun m => decide ((s.stations.get m).kind = .bath) &&
    decide (some (s.stations.get m).bath = (s.recipes.get 3).steps[j]?.map (·.bath)) && (s.stations.get m).inService)
/-- The step repeats the bath of the one before it. -/
def repeated (s : State) (j : Nat) : Bool :=
  decide (0 < j) && decide ((s.recipes.get 3).steps[j - 1]?.map (·.bath) = (s.recipes.get 3).steps[j]?.map (·.bath))

theorem test_hypotheses_RecipeWriting_close :
    (let s := writing (filmSteps.modify 3 (fun st => { st with bath := 2 }))
     (∀ j < 3, served s j = true ∧ repeated s j = false) ∧ served s 3 = true ∧ repeated s 3 = true) ∧
    (let s := { writing filmSteps with stations := (writing filmSteps).stations.set 12 { post .bath 5 with inService := false } }
     (∀ j < 4, served s j = true ∧ repeated s j = false) ∧ served s 4 = false) ∧
    (∀ j < 5, served (writing filmSteps) j = true ∧ repeated (writing filmSteps) j = false) := by decide +kernel

theorem test_hypotheses_RateFactors :
    developer.status = .none ∧ ({ developer with status := .fresh, temp := some 280 } : Bath).status ≠ .none ∧
      ({ developer with status := .fresh, temp := some 280 } : Bath).temp = some 280 ∧
      developer.points.length = 9 ∧ ∀ p ∈ developer.points, 256 ≤ p ∧ p ≤ 4095 := by decide

theorem test_hypotheses_TargetsAndIncrements :
    filmSteps[1]?.map (·.adjustable) = some false ∧ filmSteps[0]?.map (·.adjustable) = some true ∧
      (-30 : Int) ≤ -30 ∧ (100 : Int) ≤ 100 ∧ 1 ≤ 1 ∧ 36000 ≤ 36000 := by decide

theorem test_hypotheses_AgitationPrograms :
    standby.TakesRequests ∧ (bubbling 3 48 0 false).resetHeld = false ∧
      ((bubbling 3 48 0 false).gens.get 0).running = true ∧
      (((bubbling 3 48 0 false).gens.get 0).active.cycle + 1) * 16 ≤ ((bubbling 3 48 0 false).gens.get 0).unit ∧
      ((bubbling 4 8 0 true).gens.get 0).burstLen ≤ ((bubbling 4 8 0 true).gens.get 0).unit := by
  unfold State.TakesRequests; decide +kernel

theorem test_hypotheses_CauseAddition :
    Cause.estop ∈ (inState running .halt [.estop]).line.causes ∧
      (Cause.estop ∉ running.line.causes ∧ Cause.estop.isHalt = true ∧ running.line.st = .run) ∧
      (Cause.gasLow ∉ running.line.causes ∧ Cause.gasLow.isHalt = false) ∧
      (Cause.estop ∉ (inState running .hold [.gasLow]).line.causes ∧ (inState running .hold [.gasLow]).line.st = .hold) ∧
      (Cause.estop ∉ standby.line.causes ∧ standby.line.st = .standby) ∧
      (Cause.pauseInput ∉ (inState running .hold [.gasLow]).line.causes ∧ Cause.pauseInput.isHalt = false) ∧
      Cause.gasLow ∉ (inState running .halt [.estop]).line.causes := by decide +kernel

theorem test_hypotheses_HoldHaltAndRunRefused :
    running.TakesRequests ∧ running.evaluateBound.line.st = .run ∧
      ((seatedInput standby 32).TakesRequests ∧ (seatedInput standby 32).evaluateBound.line.st = .standby ∧
        (seatedInput standby 32).evaluateBound.line.causes = [.estop]) ∧
      (let s := { standby with hoistB := HoistRec.reset }
       s.TakesRequests ∧ s.evaluateBound.line = { st := .standby, causes := [] } ∧
         ¬(s.hoistB.st = .idle ∨ s.hoistB.st = .busy ∨ (s.hoistB.st = .offline ∧ s.hoistB.released = true))) ∧
      (let s := { standby with stations := put standby.stations [(14, default), (15, default)] }
       s.evaluateBound.line = { st := .standby, causes := [] } ∧
         ∀ n < 32, ¬((s.stations.get n).kind = .unload ∧ (s.stations.get n).inService = true)) := by
  unfold State.TakesRequests; decide +kernel

/-- No bound condition holds in RUN; GAS_LOW alone does, and ESTOP does beside it, in RUN and in HOLD. -/
theorem test_evaluateBound_moves_the_line :
    let low := running.setInput 33 { running.io.inputs.get 33 with level := false }
    running.evaluateBound = running ∧ low.evaluateBound.line = { st := .hold, causes := [.gasLow] } ∧
      (seatedInput low 32).evaluateBound.line = { st := .halt, causes := [.gasLow, .estop] } ∧
      (inState (seatedInput running 32) .hold [.gasLow]).evaluateBound.line = { st := .halt, causes := [.gasLow, .estop] } ∧
      (inState low .hold [.gasLow]).evaluateBound = inState low .hold [.gasLow] := by decide +kernel

theorem test_hypotheses_LineRunTaken :
    ∀ s ∈ [standby, inState running .hold [.operatorHold]],
      s.TakesRequests ∧ (∀ c ∈ s.line.causes, c = .operatorHold) ∧ (∀ c ∈ Cause.all, s.boundCondition c ≠ some true) ∧
      (s.line.st = .standby ∨ s.line.st = .hold) ∧
      (∀ x ∈ [s.hoistA, s.hoistB], x.st = .idle ∨ x.st = .busy ∨ (x.st = .offline ∧ x.released = true)) ∧
      (s.line.st = .standby → ∀ k ∈ [StationKind.load, StationKind.unload],
        ∃ n : Nat, n < 32 ∧ (s.stations.get n).kind = k ∧ (s.stations.get n).inService = true) ∧
      (s.hoistA.st = .idle ∧ s.link.held 0 < 4) ∧
      (holding s 0 [.halt, .halt, .halt]).link.held 0 < 4 ∧ ¬(holding s 0 [.halt, .halt, .halt, .halt]).link.held 0 < 4 := by
  unfold State.TakesRequests; decide +kernel

theorem test_hypotheses_LineResumeRestarts :
    running.evaluateBound.line.st ≠ .halt ∧
      (let s := inState running .halt [.estop]
       s.TakesRequests ∧ s.evaluateBound.line.st = .halt ∧ s.evaluateBound.line.causes.filter Cause.isHalt ≠ []) ∧
      (let s := inState busy .halt [.pauseInput]
       s.TakesRequests ∧ s.evaluateBound.line.st = .halt ∧ s.evaluateBound.line.causes.filter Cause.isHalt = [] ∧
         s.span.handover.awaited = some (.b, 4) ∧ s.span.handover.timer ≠ none ∧
         s.evaluateBound.link.held 0 < 4 ∧ ¬(holding s 0 [.halt, .halt, .halt, .halt]).evaluateBound.link.held 0 < 4) ∧
      (∀ p ∈ [Phase.sent, .accepted, .poised, .released, .lifted],
        (order17 p).cancelOut = false ∧ running.hoistA.position = some 1) := by
  unfold State.TakesRequests; decide +kernel

theorem test_hypotheses_LineClearEmptiesTheLine :
    (running.TakesRequests ∧ running.OrdersFit ∧ running.line.st = .run) ∧
      (let s := inState busy .halt [.estop]
       s.TakesRequests ∧ s.OrdersFit ∧ s.line.st = .halt) ∧
      (let s := inState (holding (ordered .due (order17 .released) (some 3)) 0 [.halt, .halt]) .halt [.estop]
       s.OrdersFit ∧ s.link.held 0 + 2 ≤ 4 ∧ s.hoistA.order = some (order17 .released) ∧ s.hoistB.order = none ∧
         (s.racks.get 0).map (·.recipe) = some 3) ∧
      (queuing.queue.filter (fun e => decide (e.recipe = 3))).length = 2 := by
  unfold State.TakesRequests State.OrdersFit HoistRec.OrderFits; decide +kernel

theorem test_hypotheses_OutputModeSwitches :
    let s := withRack running (rack101 .immersed 1 (some 3) none) none
    s.TakesRequests ∧ 15 < 16 ∧ 1 ≤ 15 ∧
      ((s.io.outputs.get 2).mode = .function ∧ (s.io.outputs.get 3).mode = .function) ∧
      (s.stations.get 3).occ = .occupied 0 ∧ s.line.st ≠ .halt ∧
      (s.racks.get 0).bind s.currentStep = filmSteps[0]? ∧ filmSteps[0]?.map (·.agitate) = some true ∧
      (∀ n ∈ [4, 5], ∀ k < 24, (s.stations.get n).occ ≠ .occupied k) ∧
      (inState s .halt [.estop]).line.st = .halt := by
  unfold State.TakesRequests; decide +kernel

theorem test_hypotheses_OutputLatchWrites :
    running.TakesRequests ∧ 34 < 35 ∧ 34 ≤ 34 ∧ 34 ≠ 32 ∧ 34 ≠ 33 ∧ (running.io.outputs.get 34).mode = .function ∧
      ((after (.outputMode .sounder (some .manual)) running).io.outputs.get 34).mode = .manual := by
  unfold State.TakesRequests; decide +kernel

theorem test_hypotheses_OutputsDriven : 34 < 35 ∧ 31 < 32 := by decide

/-- An entry for rack 101 at station 0. -/
def entry101 (area : Nat) : QueueEntry := { id := 101, recipe := 3, load := 0, area := area, adjust := 25 }

/-- The refusal codes of AdmissionTestAndRefusals at boundary values, the entry that is QUEUED by the test, the one
behind a queue, and the one that finds the queue full; a margin of 99 ticks, which three racks give alike, and an
unbounded one (05, Two Hoists, a Critical Hold and a Handover). -/
theorem test_hypotheses_AdmissionTestAndRefusals :
    (loading 0).TakesRequests ∧ (standby.line.st = .standby) ∧ ¬(1 ≤ 65535 ∧ 65535 ≤ 65534) ∧
      (∃ k : Nat, k < 24 ∧ ∃ r ∈ queuing.racks.get k, r.id = 101) ∧ (∃ e ∈ queuing.queue, e.id = 103) ∧
      ((loading 0).recipes.get 15).st ≠ .ready ∧ ((loading 0).stations.get 2).kind ≠ .load ∧
      ((running.stations.get 0).sensing = true ∧ running.level 0 = false ∧ (running.stations.get 0).occ = .empty) ∧
      ((loading 4800).admitRefusal (entry101 1201) = none ∧ (loading 4800).admissionTest (entry101 1201) = false ∧
        (loading 4800).admissionTest (entry101 1200) = true) ∧
      (let s := { loading 0 with queue := List.replicate 8 (entry101 1) }
       s.admitRefusal { entry101 1 with id := 104 } = none ∧ s.queue ≠ [] ∧ 8 ≤ s.queue.length) ∧
      running.lineMargin = none ∧
      (let s := waiting 40031
       { s with racks := put s.racks [(1, s.racks.get 0), (23, s.racks.get 0)] }.lineMargin = some (99, 0)) := by
  unfold State.TakesRequests; decide +kernel

/-- ADMIT into the lowest and the highest slot; a retest whose head passes before an entry that fails, one that admits
the whole queue, and one whose head fails. -/
theorem test_hypotheses_AdmitAdmitted :
    (loading 0).TakesRequests ∧ (loading 0).admitRefusal (entry101 2400) = none ∧ (loading 0).queue = [] ∧
      (loading 0).admissionTest (entry101 2400) = true ∧ (loading 0).racks.get 0 = none ∧
      (let others := (List.range 23).map (fun k => (k, some { rack101 .stranded 1 none none with id := k + 200 }))
       let s := { loading 0 with racks := put State.reset.racks others }
       s.racks.get 23 = none ∧ (∀ j < 23, s.racks.get j ≠ none) ∧ s.admitRefusal (entry101 2400) = none ∧
         s.admissionTest (entry101 2400) = true) ∧
      (let e : QueueEntry := { id := 103, recipe := 3, load := 0, area := 1500, adjust := 0 }
       let s := seatedInput queuing 0
       s.queue.head? = some e ∧ s.admissionTest e = true ∧ s.racks.get 1 = none ∧ (∀ j < 1, s.racks.get j ≠ none) ∧
         s.retestHead.queue.length + 1 = s.queue.length ∧ (seatedInput s 1).retestHead.queue = [] ∧
         queuing.queue.head?.map queuing.admissionTest ≠ some true) := by
  unfold State.TakesRequests
  refine ⟨?_, ?_, ?_, ?_, ?_, ?_, ?_⟩ <;> decide +kernel

/-- Station 4 is as near to station 3 as station 2 is: the lower number wins; without a free developer station the
request is BLOCKED. Of two BLOCKED requests for the one developer station that becomes free, the rack admitted first
takes it and the other stays BLOCKED; a station that is occupied, and one of another bath, wake neither. -/
theorem test_hypotheses_DestinationChoice :
    let s := withRack running (rack101 .atLoad 0 (some 3) none) (some (asking 3 none .blocked))
    let fits := fun (s : State) (n : Nat) => (s.stations.get n).occ = .empty ∧ (s.stations.get n).inService = true ∧
      (s.stations.get n).kind = .bath ∧ (s.stations.get n).bath = 0
    let dist := fun (n : Nat) => ((3 : Int) - n).natAbs
    s.requests.get 0 = some (asking 3 none .blocked) ∧ s.racks.get 0 = some (rack101 .atLoad 0 (some 3) none) ∧
      fits s 2 ∧ (∀ n < 32, fits s n → dist 2 < dist n ∨ (dist 2 = dist n ∧ 2 ≤ n)) ∧
      (let u := { s with stations := put s.stations [(2, default), (4, default)] }
       ∀ n < 32, ¬fits u n) ∧
      (let r2 : Rack := { rack101 .atLoad 0 (some 1) none with id := 102, seq := 42 }
       let u := { s with
         stations := put s.stations [(1, { post .load 0 with occ := .occupied 1 }), (4, default)]
         racks := s.racks.set 1 (some r2), requests := s.requests.set 1 (some (asking 1 none .blocked)) }
       let free := fun (n : Nat) => (u.stations.get n).occ = .empty ∧ (u.stations.get n).inService = true
       free 2 ∧ ¬free 1 ∧ u.urgencyOrder.idxOf 0 < u.urgencyOrder.idxOf 1 ∧
         (u.stations.get 2).kind = .bath ∧ (u.stations.get 2).bath = 0 ∧ (u.stations.get 5).bath ≠ 0 ∧
         filmSteps[0]?.map (·.bath) = some 0 ∧
         ((u.retryBlocked 2).requests.get 1).map (·.st) = some .blocked) := by decide +kernel

theorem test_hypotheses_WithdrawResults :
    queuing.TakesRequests ∧ 65534 < 65535 ∧
      (queuing.queue[1]?.map (·.id) = some 65534 ∧ (∀ i < 1, queuing.queue[i]?.map (·.id) ≠ some 65534) ∧
        (queuing.stations.get 1).kind = .load) ∧
      ((∀ x ∈ queuing.queue, x.id ≠ 1) ∧ queuing.slotOf 1 = none) ∧
      ((∀ x ∈ queuing.queue, x.id ≠ 101) ∧ queuing.slotOf 101 = some 0 ∧
        queuing.racks.get 0 = some (rack101 .immersed 1 (some 2) none)) ∧
      (let s := withRack running (rack101 .atLoad 0 (some 0) (some 2)) (some (asking 0 (some 2) .ready))
       s.TakesRequests ∧ s.queue = [] ∧ s.slotOf 101 = some 0 ∧ s.orderFor 0 = none) := by
  unfold State.TakesRequests; decide +kernel

theorem test_hypotheses_RackRemoveResults :
    (let s := ordered .carried (order17 .lifted) (some 245)
     s.TakesRequests ∧ s.slotOf 101 = some 0 ∧ (s.racks.get 0).map (·.st) = some .carried) ∧
    (let s := ordered .due (order17 .released) (some 50)
     s.slotOf 101 = some 0 ∧ (s.orderFor 0).map (fun p => p.2.phase) = some .released) ∧
    (let s := ordered .immersed (order17 .poised) none
     s.TakesRequests ∧ s.slotOf 101 = some 0 ∧ s.orderFor 0 = some (.a, order17 .poised) ∧
       s.queue = [] ∧ s.link.held 0 < 4) ∧
    (queuing.TakesRequests ∧ queuing.slotOf 101 = some 0 ∧ queuing.orderFor 0 = none ∧ queuing.queue ≠ []) ∧
    (let s := withRack running (rack101 .immersed 1 (some 2) none) none
     s.orderFor 0 = none ∧ s.slotOf 1 = none) := by
  unfold State.TakesRequests
  refine ⟨?_, ?_, ?_, ?_, ?_⟩ <;> decide +kernel

/-- B waits to widen for the request in slot 1 until A, the victim, has ended its order; A will keep 0 and 1
(07 R137, R138). -/
def awaiting (s : State) : State :=
  s.setHandover { stage := .waiting, taker := .b, bound := some 1, widened := .range 3 31, narrowed := .range 0 1,
                  old := .range 0 7, awaited := none, timer := none, suspended := false, withdrawn := false }

/-- Rack 101 at its load station with an order of hoist A open for it in a phase. -/
def fetching (phase : Phase) : State :=
  let s := seatedInput (withRack running (rack101 .atLoad 0 (some 0) (some 2)) (some (asking 0 (some 2) (.ordered .a)))) 0
  { s with hoistA := { s.hoistA with st := .busy, order := some { order17 phase with source := 0, dest := 2 } } }

/-- REFUSE, RACK REMOVE and PLACED of the victim's order begin SHRINKING; CANCEL stands before the SPAN (06 R108,
R121, 07 R138). -/
theorem test_victims_order_ends :
    (let t := after (.refuse .a 17 2) (awaiting (ordered .due (order17 .sent) none))
     t.span.handover.stage = .shrinking ∧ t.span.spanA = .range 0 1 ∧ messages t 0 = [.span 0 1 2] ∧
       t.span.handover.awaited = some (.a, 2) ∧ t.span.handover.timer = some 150) ∧
    messages (after (.rackRemove 101) (awaiting (ordered .immersed (order17 .poised) none))) 0 =
      [.cancel 17, .span 0 1 2] ∧
    messages (after (.placed .a 17 (some 5)) (awaiting (ordered .carried (order17 .lifted) none))) 0 = [.span 0 1 2] ∧
    messages (after (.released 0) (awaiting (fetching .accepted))) 0 = [.cancel 17, .span 0 1 2] := by
  decide +kernel

/-- A handover that WAITS for the order a command closes, in OrdersCalledOff, RackRemoveResults, WithdrawResults and
SeatsByOccupancy, with room for CANCEL and SPAN, for CANCEL alone, and for neither; and one that does not wait. -/
theorem test_hypotheses_waiting_victim :
    (∀ s ∈ [ordered .due (order17 .sent) none, ordered .due (order17 .accepted) none,
        ordered .immersed (order17 .poised) none, fetching .sent, fetching .accepted],
      (awaiting s).WaitsFor .a ∧ (awaiting s).orderFor 0 = s.hoistA.order.map (fun o => (.a, o)) ∧
        s.hoistA.order.isSome = true ∧ ¬s.WaitsFor .a ∧ ¬(awaiting s).WaitsFor .b ∧ (awaiting s).TakesRequests ∧
        (awaiting s).link.held 0 < 3 ∧
        (holding (awaiting s) 0 [.halt, .halt, .halt]).link.held 0 = 3 ∧
        4 ≤ (holding (awaiting s) 0 [.halt, .halt, .halt, .halt]).link.held 0) ∧
    (∀ p ∈ [Phase.sent, .accepted],
      let s := fetching p
      s.resetHeld = false ∧ s.slotOf 101 = some 0 ∧ (∀ x ∈ s.queue, x.id ≠ 101) ∧ s.queue = [] ∧
        (s.racks.get 0).map (·.st) = some .atLoad ∧ (s.stations.get 0).sensing = true ∧
        (s.stations.get 0).occ = .occupied 0 ∧ (s.io.inputs.get 0).enabled = true ∧ s.level 0 = true) := by
  unfold State.WaitsFor State.TakesRequests; decide +kernel

/-- Rack 101 STRANDED after a lift from step 1, or on its way to an UNLOAD station. -/
def strandedAt (step : Nat) : State :=
  withRack running { rack101 .stranded step none none with
    lifted := true, history := [{ step := 1, station := 2, acc := 0, overrun := 0, flags := [.overtime] }] } none

theorem test_hypotheses_RackPlaceResults :
    (strandedAt 1).TakesRequests ∧ ¬(1 ≤ 101 ∧ 101 ≤ 65534 ∧ 14 ≤ 13 ∧ 31 ≤ 31) ∧ (strandedAt 1).slotOf 1 = none ∧
      (strandedAt 1).slotOf 101 = some 0 ∧
      ((withRack running (rack101 .immersed 1 (some 2) none) none).racks.get 0).map (·.st) ≠ some .stranded ∧
      ((strandedAt 1).racks.get 0).map (fun r => ((strandedAt 1).placeRefusal r 0 0, (strandedAt 1).placeRefusal r 1 4,
          (strandedAt 1).placeRefusal r 5 12, (strandedAt 1).placeRefusal r 7 14, (strandedAt 1).placeRefusal r 2 4)) =
        some (none, none, none, some .badValue, some .badValue) ∧
      ((strandedAt 5).racks.get 0).map (fun r => (strandedAt 5).placeRefusal r 6 15) = some none ∧
      ((strandedAt 5).recipes.get 3).steps.length + 1 = 6 ∧ (strandedAt 5).requests.get 0 = none ∧
      (strandedAt 5).orderFor 0 = none ∧ ((strandedAt 5).stations.get 15).sensing = true ∧
      (let s := { strandedAt 5 with stations := (strandedAt 5).stations.set 15 { post .unload 0 with sensing := false } }
       (s.racks.get 0).map (fun r => s.placeRefusal r 6 15) = some none ∧ s.queue = []) ∧
      (let s := { strandedAt 1 with baths := running.baths.set 0 { developer with status := .lapsed } }
       (s.racks.get 0).map (fun r => s.placeRefusal r 1 4) = some none ∧
         (s.baths.get (s.stations.get 4).bath).status = .lapsed ∧ filmSteps[0]?.map (·.comp) = some .tempActivity ∧
         filmSteps[0]?.map (·.agitate) = some true ∧ filmSteps[4]?.map (·.agitate) = some false) ∧
      ((strandedAt 1).racks.get 0).map (fun r => ((strandedAt 1).unfinishedIn r 1, (strandedAt 1).unfinishedIn r 7)) =
        some (true, false) := by
  unfold State.TakesRequests
  refine ⟨?_, ?_, ?_, ?_, ?_, ?_, ?_, ?_, ?_, ?_, ?_, ?_, ?_, ?_⟩ <;> decide +kernel

/-- A record in each state keeps the premises of R39's clause of RackPlaceResults. -/
theorem test_hypotheses_RackPlaceResults_unfinished :
    ∀ r ∈ [rack101 .atLoad 0 (some 0) none, rack101 .immersed 1 (some 2) none, rack101 .due 5 (some 12) none,
        rack101 .carried 5 none (some 15), rack101 .atUnload 6 (some 15) none, rack101 .stranded 0 none none],
      (r.st = .atLoad → r.stepIdx = 0) ∧ (r.st = .immersed ∨ r.st = .due → r.stepIdx ≠ 0) ∧
        (r.st ≠ .stranded → (r.lifted = true ↔ r.st = .carried)) := by decide

theorem test_hypotheses_StrayReportsOnlyCounted :
    (∀ y ∈ running.hoistA.order, y.number ≠ 17) ∧ (∀ v ∈ (none : Option Int), v < -1 ∨ 32 < v) ∧
      (∀ v ∈ some (33 : Int), v < -1 ∨ 32 < v) ∧ (∀ v ∈ some (-2 : Int), v < -1 ∨ 32 < v) ∧ 2 ≠ running.seqOf .a ∧
      (∀ p ∈ [Phase.accepted, .poised, .released, .lifted],
        (ordered .due (order17 p) none).hoistA.order = some (order17 p)) := by decide +kernel

theorem test_hypotheses_PositionRecordedAndChecked :
    running.resetHeld = false ∧ (-1 : Int) ≤ -1 ∧ (32 : Int) ≤ 32 := by decide +kernel

/-- The clauses of SPAN ACK: nothing awaited; the victim at the end of its narrowed span, at its park, and outside;
the taker of a WIDENING handover, with no BOUND request, with one in RUN and in HOLD, with a CRITICAL one in HOLD and with
one in HALT; and the withdrawn taker. -/
theorem test_hypotheses_SpanMessages :
    settling.resetHeld = false ∧ settling.seqOf .b = 4 ∧ running.span.handover.awaited ≠ some (.b, 1) ∧
      (settling.span.handover.awaited = some (.b, 4) ∧ settling.span.handover.stage = .shrinking ∧
        Hoist.b ≠ settling.span.handover.taker ∧ settling.span.handover.narrowed = .range 10 31 ∧
        settling.hoistB.st ≠ .offline ∧ settling.line.st ≠ .standby ∧ settling.span.handover.withdrawn = false) ∧
      (let t := after (.spanAck .b 4 (some 12)) settling
       t.span.handover.awaited = some (.a, 3) ∧ t.span.handover.stage = .widening ∧ t.seqOf .a = 3 ∧
         t.span.handover.taker = .a) ∧
      (after (.fault .a 1) settling).span.handover.withdrawn = true ∧ (4 : Nat) ≠ 0 ∧
      (settling.span.handover.taker.channel = 0 ∧ settling.link.held 0 < 4 ∧
        ¬(holding settling 0 [.halt, .halt, .halt, .halt]).link.held 0 < 4) ∧
      (let w := asking 2 (some 5) (.bound .a)
       let r := rack101 .due 1 (some 2) (some 5)
       let s := (withRack settling r (some w)).setHandover { settling.span.handover with
         stage := .widening, taker := .a, awaited := some (.a, settling.seqOf .a), bound := some 0 }
       s.seqOf .a ≠ 0 ∧ s.span.handover.awaited = some (.a, s.seqOf .a) ∧ s.requests.get 0 = some w ∧
         s.racks.get 0 = some r ∧ filmSteps[1]?.map (·.cls) = some .firm ∧ filmSteps[0]?.map (·.cls) = some .critical ∧
         (s.recordPosition .a 2).line.st = .run ∧ ((inState s .hold []).recordPosition .a 2).line.st = .hold ∧
         ((inState s .halt []).recordPosition .a 2).line.st = .halt ∧
         (s.setHandover { s.span.handover with bound := none }).span.handover.bound = none) := by decide +kernel

/-- The victim outside its narrowed span: with the triggered request BOUND, with the taker withdrawn, and with the victim
OFFLINE or the line in STANDBY, where no cause is added. -/
theorem test_hypotheses_SpanMessages_violation :
    let w := asking 2 (some 5) (.bound .a)
    let s := (withRack settling (rack101 .due 1 (some 2) (some 5)) (some w)).setHandover
      { settling.span.handover with bound := some 0 }
    let u := after (.fault .a 1) s
    (s.span.handover.awaited = some (.b, 4) ∧ s.span.handover.bound = some 0 ∧ s.span.handover.withdrawn = false ∧
      s.requests.get 0 = some w) ∧
    (u.span.handover.awaited = some (.b, 4) ∧ u.span.handover.stage = .shrinking ∧ u.span.handover.withdrawn = true) ∧
    (settling.span.handover.bound = none ∧ HoistRec.reset.st = .offline ∧
      (inState settling .standby []).line.st = .standby) := by decide +kernel

theorem test_hypotheses_AcceptAndPoised :
    (let s := ordered .immersed (order17 .sent) (some 20)
     s.resetHeld = false ∧ (s.hoist .a).order = some (order17 .sent) ∧ (order17 .sent).cancelOut = false ∧
       s.racks.get 0 = some (rack101 .immersed 1 (some 2) (some 5))) ∧
    (let s := ordered .due (order17 .accepted) (some 3)
     (s.hoist .a).order = some (order17 .accepted) ∧ s.racks.get 0 = some (rack101 .due 1 (some 2) (some 5))) := by
  decide +kernel

/-- LIFTED in each phase before LIFTED, from a bath with no ADMIT waiting and with the cabinet's queue empty or full,
and from a load station. -/
theorem test_hypotheses_LiftedTakesTheRack :
    (∀ p ∈ [Phase.sent, .accepted, .poised, .released],
      let s := ordered .due (order17 p) none
      s.resetHeld = false ∧ (s.hoist .a).order = some (order17 p) ∧ p ≠ .lifted ∧
        s.racks.get 0 = some (rack101 .due 1 (some 2) (some 5)) ∧ (s.stations.get 2).bath < 8 ∧ s.queue = [] ∧
        s.link.held 2 = 0 ∧ 4 ≤ (holding s 2 (List.replicate 4 (.owed 0 0))).link.held 2) ∧
    (let s := ordered .atLoad (order17 .released) (some 9)
     (s.racks.get 0).map (·.st) = some .atLoad ∧ (s.hoist .a).order = some (order17 .released)) := by decide +kernel

/-- Order 17 in LIFTED with rack 101 past its last step, bound for the UNLOAD station 15. -/
def unloading (sensing : Bool) : State :=
  let s := withRack running (rack101 .carried 5 none (some 15)) (some (asking 12 (some 15) (.ordered .a)))
  { s with
    stations := s.stations.set 15 { s.stations.get 15 with sensing := sensing }
    hoistA := { s.hoistA with st := .busy, order := some { order17 .lifted with source := 12, dest := 15 },
                              timer := some 9 } }

theorem test_hypotheses_PlacedBeginsTheStep :
    (∀ p ∈ [Phase.lifted, .released, .sent],
      let s := ordered (if p = .lifted then .carried else .due) (order17 p) none
      s.resetHeld = false ∧ (s.hoist .a).order = some (order17 p) ∧ (s.stations.get 5).occ = .reservedRack 0 ∧
        (s.stations.get 5).kind = .bath ∧ (s.racks.get 0).map (·.stepIdx) = some 1 ∧
        s.recipeStep 3 2 = filmSteps[1]? ∧ (s.stations.get 5).sensing = true) ∧
    (∀ b ∈ [true, false],
      let s := unloading b
      (s.hoist .a).order = some { order17 .lifted with source := 12, dest := 15 } ∧
        (s.stations.get 15).occ = .reservedRack 0 ∧ (s.stations.get 15).kind = .unload ∧
        (s.stations.get 15).sensing = b ∧ (s.racks.get 0).map (·.stepIdx) = some 5 ∧
        (s.recipes.get 3).steps.length = 5 ∧ s.queue = []) ∧
    (∀ p ∈ [Phase.sent, .accepted, .poised, .released],
      let o := { order17 p with source := 12, dest := 15 }
      let s := withRack running (rack101 .due 5 (some 12) (some 15)) (some (asking 12 (some 15) (.ordered .a)))
      let u := { s with hoistA := { s.hoistA with st := .busy, order := some o } }
      (u.hoist .a).order = some o ∧ (u.racks.get 0).map (·.st) = some .due ∧ (u.stations.get 12).bath < 8 ∧
        (u.stations.get 15).occ = .reservedRack 0) := by decide +kernel

/-- The victim's own PLACED, at a bath and at an UNLOAD station, with room for the SPAN and without, and one for which no
handover waits; at the UNLOAD station no other order is for the rack. -/
theorem test_hypotheses_PlacedBeginsTheStep_waiting :
    ∀ s ∈ [ordered .carried (order17 .lifted) none, unloading true, unloading false],
      ((awaiting s).recordPosition .a 5).WaitsFor .a ∧ ¬(s.recordPosition .a 5).WaitsFor .a ∧
        ((awaiting s).recordPosition .a 5).link.held 0 < 4 ∧
        4 ≤ ((holding (awaiting s) 0 [.halt, .halt, .halt, .halt]).recordPosition .a 5).link.held 0 ∧
        ∀ y ∈ (s.hoist .b).order, y.slot ≠ 0 := by
  unfold State.WaitsFor; decide +kernel

theorem test_hypotheses_OrdersCalledOff :
    (∀ p ∈ [Phase.sent, .accepted, .poised, .released, .lifted],
      let s := ordered (if p = .lifted then .carried else .due) (order17 p) none
      s.resetHeld = false ∧ s.TakesRequests ∧ (s.hoist .a).order = some (order17 p) ∧
        s.requests.get 0 = some (asking 2 (some 5) (.ordered .a)) ∧ (order17 p).cancelOut = false ∧
        (order17 p).cancelCrossed = false) ∧
    (let o := { order17 .poised with cancelOut := true }
     ((ordered .due o none).hoist .a).order = some o ∧ o.cancelOut = true) ∧
    (let o := { order17 .lifted with cancelCrossed := true }
     ((ordered .carried o none).hoist .a).order = some o ∧ o.cancelCrossed = true) := by
  unfold State.TakesRequests; decide +kernel

theorem test_hypotheses_HoistFaults :
    running.hoistA.order = none ∧ (ordered .due (order17 .released) (some 0)).hoistA.order = some (order17 .released) ∧
      (∀ p ∈ [Phase.sent, .released, .lifted],
        let s := ordered (if p = .lifted then .carried else .due) (order17 p) none
        s.resetHeld = false ∧ (s.hoist .a).order = some (order17 p) ∧ s.line.causes = [] ∧
          (s.racks.get 0).isSome = true ∧ s.requests.get 0 = some (asking 2 (some 5) (.ordered .a))) := by decide +kernel

/-- A handover is abandoned by the victim's fault, by the taker's in WAITING, and the taker is withdrawn by its fault in
SHRINKING; the triggered request is BOUND and no order of the hoist is for it. -/
theorem test_hypotheses_HoistFaults_handover :
    let w := asking 7 (some 9) (.bound .a)
    let s := (straddling settling).setRequest 1 (some w) |>.setHandover { settling.span.handover with bound := some 1 }
    let u := s.setHandover { s.span.handover with stage := .waiting }
    (∀ v ∈ [s, u], v.requests.get 1 = some w ∧ v.span.handover.bound = some 1 ∧ v.span.handover.stage ≠ .none ∧
      (∀ h ∈ [Hoist.a, .b], ∀ y ∈ (v.hoist h).order, y.slot ≠ 1) ∧ (v.hoist .b).st ≠ .fault ∧
      v.span.handover.taker = .a) ∧
    ((s.enterFault .a .protocol).span.handover.withdrawn = true ∧
      (s.enterFault .b .protocol).span.handover = Handover.blank ∧
      (u.enterFault .a .protocol).span.handover = Handover.blank ∧
      ∀ t ∈ [s.enterFault .a .protocol, s.enterFault .b .protocol, u.enterFault .a .protocol],
        t.requests.get 1 = some { w with st := .ready }) := by decide +kernel

theorem test_hypotheses_HandoverDone :
    (let s := withRack running (rack101 .immersed 1 (some 2) (some 5)) (some (asking 2 (some 5) (.bound .a)))
     s.requests.get 0 = some (asking 2 (some 5) (.bound .a)) ∧
       s.racks.get 0 = some (rack101 .immersed 1 (some 2) (some 5)) ∧ s.line.st = .run ∧
       (inState s .hold []).line.st = .hold ∧ (inState s .halt []).line.st = .halt ∧ filmSteps[1]?.map (·.cls) = some .firm) ∧
    (let s := inState (withRack running (rack101 .atLoad 0 (some 0) (some 2)) (some (asking 0 (some 2) (.bound .a)))) .hold []
     s.requests.get 0 = some (asking 0 (some 2) (.bound .a)) ∧ filmSteps[0]?.map (·.cls) = some .critical) ∧
    31 ≤ 31 ∧ narrowedSpan .b 1 7 9 (.range 0 7) = .range 0 5 ∧ narrowedSpan .a 1 7 8 (.range 9 31) = .range 10 31 := by
  decide +kernel

theorem test_hypothesis_HandoverDone_apart : settling.span.Apart := (by decide : 7 + 1 + 1 ≤ 10)

theorem test_hypotheses_TempReports :
    running.resetHeld = false ∧ 7 < 8 ∧ (100 : Int) ≤ 100 ∧ (400 : Int) ≤ 400 ∧ (99 : Int) < 100 ∧ (400 : Int) < 401 := by
  decide +kernel

theorem test_hypotheses_CountsRunOut :
    (stalling .fresh 300).resetHeld = false ∧ 7 < 8 ∧ ((stalling .fresh 300).baths.get 0).status = .fresh ∧
      ((stalling .stale 1200).baths.get 0).status = .stale ∧
      (let s := { withRack running (rack101 .immersed 1 (some 2) none) none with
                  windows := put running.windows [(2, some 0), (31, some 1)] }
       s.windows.get 2 = some 0 ∧ s.windows.get 31 ≠ some 0 ∧ (s.stations.get 2).occ = .occupied 0 ∧
         (s.racks.get 0).isSome = true) := by decide +kernel

/-- LINE_TICK: a quiet line with an IMMERSED and a DUE rack in a bath, one at a load station, a timer that runs, one
that is suspended, and one at its last tick; an acknowledgement timer that runs, one that is suspended and one at its last
tick; a seat window that runs and one at its last tick; a bath one tick short of STALE and one of LAPSED, over a
compensated rack, and counts beside them; a DUE rack at its late tolerance. -/
theorem test_hypotheses_LineTickAdvances :
    (∀ s ∈ [ordered .due (order17 .accepted) (some 9), settling, running, stalling .fresh 299, stalling .stale 1199],
      s.resetHeld = false ∧ s.TimingsInRange) ∧
    (∀ p ∈ [(TempStatus.fresh, 298), (.fresh, 299), (.stale, 1198), (.stale, 1199), (.lapsed, 65535), (.none, 0)],
      let s := stalling p.1 p.2
      (s.baths.get 0).status = p.1 ∧ (s.baths.get 0).staleCount = p.2 ∧
        (∃ u ∈ s.racks.get 0, u.st = .immersed ∧ u.station = some 2 ∧ s.currentStep u = filmSteps[0]?) ∧
        (s.stations.get 2).bath = 0 ∧ filmSteps[0]?.map (·.comp) = some .tempActivity) ∧
    (let s := withRack running { rack101 .due 1 (some 2) none with overrun := 30 } none
     (s.racks.get 0).map (fun u => (u.st, u.overrun, u.flags)) = some (.due, 30, []) ∧
       filmSteps[0]?.map (·.tolerance) = some 30) ∧
    (∀ st ∈ [RackState.immersed, .due],
      let s := ordered st (order17 .accepted) (some 9)
      s.resetHeld = false ∧ s.racks.get 0 = some (rack101 st 1 (some 2) (some 5)) ∧
        (s.racks.get 0).bind s.currentStep = filmSteps[0]? ∧ (s.hoist .a).order = some (order17 .accepted) ∧
        (order17 .accepted).phase ≠ .poised ∧ (s.hoist .a).timer = some (8 + 1) ∧ (s.hoist .a).suspended = false ∧
        (∀ x ∈ [s.hoistA, s.hoistB], x.suspended = true ∨ (x.timer ≠ some 0 ∧ x.timer ≠ some 1)) ∧
        (s.span.handover.timer ≠ some 0 ∧ s.span.handover.timer ≠ some 1)) ∧
    ((inState (ordered .due (order17 .accepted) (some 9)) .halt [.estop]).hoist .a).suspended = true ∧
    (∃ r ∈ (withRack running (rack101 .atLoad 0 (some 0) none) none).racks.get 0, r.st ≠ .immersed ∧ r.st ≠ .due) ∧
    (∀ n < 32, running.windows.get n ≠ some 0 ∧ running.windows.get n ≠ some 1) ∧
    ((ordered .due (order17 .accepted) (some 1)).hoist .a).timer = some 1 ∧
    (settling.span.handover.timer = some 149 ∧ settling.span.handover.suspended = false ∧
      settling.hoistA.timer = none ∧ settling.hoistB.timer = none) ∧
    (after .lineHalt settling).span.handover.suspended = true ∧
    (∀ g ∈ [Stage.shrinking, .widening],
      let s := settling.setHandover { settling.span.handover with stage := g, timer := some 1 }
      s.span.handover.timer = some 1 ∧ s.span.handover.suspended = false ∧ s.span.handover.stage = g ∧
        s.hoistA.timer = none ∧ s.hoistB.timer = none) ∧
    (let s := { withRack running (rack101 .immersed 1 (some 2) none) none with
                windows := put running.windows [(2, some 1), (31, some 2)] }
     31 < 32 ∧ s.windows.get 31 = some (0 + 2) ∧ s.windows.get 2 = some 1 ∧ (s.stations.get 2).occ = .occupied 0 ∧
       s.racks.get 0 ≠ none ∧ s.hoistA.order = none ∧ s.hoistB.order = none) := by
  unfold State.TimingsInRange Timing.InRange
  refine ⟨?_, ?_, ?_, ?_⟩ <;> decide +kernel

theorem test_hypotheses_DueAndOvertime :
    (let s := developing 360000 5035 1144
     s.resetHeld = false ∧ s.racks.get 0 = some { rack101 .immersed 1 (some 2) none with acc := 360000 } ∧
       s.requests.get 0 = none ∧ (s.racks.get 0).bind s.currentStep = filmSteps[0]?) ∧
    (developing 359999 5035 1144).racks.get 0 = some { rack101 .immersed 1 (some 2) none with acc := 359999 } ∧
    (∀ p ∈ [Phase.poised, .accepted],
      let s := ordered .immersed (order17 p) none
      s.requests.get 0 ≠ none ∧ s.orderFor 0 = some (.a, order17 p) ∧ (s.hoist .a).order = some (order17 p)) ∧
    (let s := { ordered .immersed (order17 .poised) none with
                racks := running.racks.set 0 (some { rack101 .immersed 1 (some 2) (some 5) with acc := 360000 }) }
     s.orderFor 0 = some (.a, order17 .poised) ∧ ∃ r ∈ s.racks.get 0, r.st = .immersed ∧ r.target ≤ r.acc) := by
  decide +kernel

theorem test_hypotheses_SeatsByOccupancy :
    ((running.io.inputs.get 31).enabled = true ∧ (running.io.inputs.get 31).level = false) ∧
      ((seatedInput running 4).io.inputs.get 4).level = true ∧ (running.stations.get 31).sensing = false ∧
      ((running.stations.get 4).sensing = true ∧ (running.stations.get 4).occ = .empty) ∧
      ((loading 0).stations.get 0).occ = .foreign ∧ (queuing.stations.get 0).occ = .reservedEntry 103 ∧
      (let s := ordered .due (order17 .released) (some 50)
       (s.stations.get 5).occ = .reservedRack 0 ∧ (s.stations.get 2).occ = .occupied 0 ∧
         (s.orderFor 0).map (fun p => p.2.phase) = some .released) ∧
      (let s := ordered .immersed (order17 .poised) none
       (s.orderFor 0).map (fun p => p.2.phase) = some .poised ∧ s.racks.get 0 = some (rack101 .immersed 1 (some 2) (some 5))) ∧
      (let s := seatedInput (withRack running (rack101 .atLoad 0 (some 0) (some 2)) (some (asking 0 (some 2) .ready))) 0
       (s.racks.get 0).map (·.st) = some .atLoad ∧ s.orderFor 0 = none ∧ s.queue = [] ∧
         (s.stations.get 0).sensing = true ∧ (s.stations.get 0).occ = .occupied 0 ∧ (s.io.inputs.get 0).level = true) ∧
      (let s := seatedInput (withRack running (rack101 .atUnload 6 (some 15) none) none) 15
       (s.racks.get 0).map (·.st) = some .atUnload ∧ s.queue = [] ∧
         (s.stations.get 15).occ = .occupied 0) ∧
      (let s := withRack running (rack101 .atLoad 0 (some 0) (some 2)) (some (asking 0 (some 2) (.ordered .a)))
       let u := { s with hoistA := { s.hoistA with st := .busy, order := some { order17 .released with source := 0, dest := 2 } } }
       (u.orderFor 0).map (fun p => p.2.phase) = some .released ∧ (u.racks.get 0).map (·.st) = some .atLoad) ∧
      (let s := seatedInput (seatedInput queuing 0) 4
       s.resetHeld = false ∧ (s.stations.get 0).occ = .reservedEntry 103 ∧ (s.stations.get 4).occ = .empty ∧
         (s.io.inputs.get 0).enabled = true ∧ s.level 0 = true ∧ s.level 4 = true) ∧
      (let s := seatedInput (ordered .due (order17 .released) (some 50)) 5
       (s.stations.get 5).occ = .reservedRack 0 ∧ (s.stations.get 5).sensing = true ∧ s.level 5 = true) := by
  refine ⟨?_, ?_, ?_, ?_, ?_, ?_, ?_, ?_, ?_, ?_, ?_, ?_, ?_⟩ <;> decide +kernel

theorem test_hypotheses_AuxiliaryAndFaultMarks :
    (let s := { withRack running (rack101 .immersed 1 (some 2) none) none with marks := running.marks.set 2 .joined }
     s.resetHeld = false ∧ ((s.io.inputs.get 33).enabled = true ∧ (s.io.inputs.get 33).level ≠ false) ∧
       (s.stations.get 2).occ = .occupied 0 ∧ s.marks.get 2 ≠ .out ∧
       s.racks.get 0 = some (rack101 .immersed 1 (some 2) none) ∧ (s.io.outputs.get 2).faulted = false) ∧
    (∀ m < 32, (running.stations.get m).occ = .occupied 0 → running.marks.get m = .out) ∧
    ¬((State.reset.io.inputs.get 33).enabled = true ∧ (State.reset.io.inputs.get 33).level ≠ false) ∧
    ((running.io.inputs.get 32).enabled = true ∧ (running.io.inputs.get 32).level ≠ true) ∧
    ((running.setOutput 34 { running.io.outputs.get 34 with faulted := true }).io.outputs.get 34).faulted = true ∧
    running.marks.get 31 = .out := by decide +kernel

/-- SAMPLE_EVENT: a generator within a unit, at a unit's end, and at its cycle's end; a monitor at its third sample; an
input whose level changes alone: a seat each way, and each auxiliary input. -/
theorem test_hypotheses_SampleCounts :
    34 < 35 ∧ 7 < 8 ∧ running.resetHeld = false ∧ State.reset.io.seeded = false ∧ (running.gens.get 0).running = false ∧
      (∀ s ∈ [bubbling 4 7 23 true, bubbling 4 7 24 true, bubbling 4 47 24 false],
        (s.gens.get 0).running = true ∧ (s.gens.get 0).unit < ((s.gens.get 0).active.cycle + 1) * 16 ∧
          ((s.gens.get 0).burst = true → (s.gens.get 0).unit < (s.gens.get 0).burstLen)) ∧
      ((bubbling 4 7 23 true).gens.get 0).sample < 24 ∧ 24 ≤ ((bubbling 4 7 24 true).gens.get 0).sample ∧
      7 + 1 < (2 + 1) * 16 ∧ 47 + 1 = (2 + 1) * 16 ∧
      (let s := running.setOutput 32 { running.io.outputs.get 32 with run := 2 }
       (s.io.outputs.get 32).faulted = false ∧ 3 ≤ (s.io.outputs.get 32).run + 1 ∧
         (s.io.outputs.get 32).commanded = true) ∧
      (∀ n ∈ [0, 31, 32, 33, 34], ∀ up ∈ [true, false],
        let s := running.setInput n { running.io.inputs.get n with level := !up, run := 2 }
        let gas := if n = 33 ∧ up = false then 0#35 else 1#35 <<< 33
        let pins := if up = true then gas ||| (1#35 <<< n) else gas
        s.io.seeded = true ∧ (s.io.inputs.get n).enabled = true ∧ pins.getLsbD n = up ∧ (s.io.inputs.get n).level ≠ up ∧
          (s.io.inputs.get n).debounce ≤ (s.io.inputs.get n).run + 1 ∧
          ∀ i < 35, i ≠ n → pins.getLsbD i = (s.io.inputs.get i).level ∧ (s.io.outputs.get i).run = 0) := by
  decide +kernel

/-- DISPATCH_PASS: without a CRITICAL rack; with margins of 99, 100, 149 and 150 about the low mark and its
hysteresis, and 299 and 300 about the admit margin; both notice states and both sides, with a queued entry that the
rise of the admit side lets in; a rack at the lookahead; and the line states. -/
theorem test_hypotheses_DispatchPassWalks :
    (running.dispatcher.notice = .clear ∧ running.dispatcher.side = .above) ∧
    (let low := fun (s : State) => { s with dispatcher := { s.dispatcher with notice := .low, side := .below } }
     (low (waiting 39980)).lineMargin.map (·.1) = some 150 ∧ (low running).lineMargin = none ∧
       (low (waiting 39831)).dispatcher.side = .below ∧
       (low (seatedInput queuing 0)).retestHead.queue.length + 1 = queuing.queue.length ∧
       (low (seatedInput queuing 0)).lineMargin.all (fun x => decide ((300 : Int) ≤ x.1)) = true ∧
       (low (seatedInput queuing 0)).dispatcher.admitMargin = 300) ∧
    (waiting 40031).resetHeld = false ∧ running.lineMargin = none ∧
      [40031, 40030, 39981, 39980, 39831, 39830].map (fun t => (waiting t).lineMargin.map (·.1)) =
        [some 99, some 100, some 149, some 150, some 299, some 300] ∧
      (waiting 40031).requests.get 0 = some (asking 2 (some 5) .ready) ∧
      (let s := { waiting 39800 with requests := running.requests }
       (∃ r ∈ s.racks.get 0, r.st = .immersed ∧ s.remainingTicks r = 300) ∧ s.requests.get 0 = none ∧
         s.dispatcher.lookahead = 300) ∧
      ((ordered .due (order17 .accepted) none).hoist .a).st ≠ .idle ∧
      (inState (waiting 40031) .halt [.estop]).line.st = .halt := by
  refine ⟨?_, ?_, ?_⟩ <;> decide +kernel

/-- The keys of requests: an IMMERSED rack whose rate is not 0, a hoist whose position is known and one whose is not. -/
theorem test_hypotheses_DispatchPassWalks_keys :
    (((waiting 40030).racks.get 0).bind (waiting 40030).currentStep = filmSteps[0]? ∧ 0 < developer.active.fTA) ∧
      running.hoistA.position = some 1 ∧ HoistRec.reset.position = none := by decide +kernel

/-- What a giving does: a move within reach, and handovers that start with SHRINKING, WAITING and WIDENING; the
premises of the lookahead's order, and a rack that gains a request. -/
theorem test_hypotheses_DispatchPassWalks_giving :
    (let s := waiting 40035
     s.requests.get 0 = some (asking 2 (some 5) .ready) ∧ (s.racks.get 0).isSome = true ∧ s.within .a 2 5 = true) ∧
    (let s := straddling running
     let u := { s with hoistB := { s.hoistB with st := .busy, order := some { order17 .lifted with source := 9, dest := 10 } } }
     let v := s.setSpan .b .empty
     (∀ x ∈ [s, u, v], (x.requests.get 1).isSome = true ∧ (x.racks.get 1).isSome = true ∧ x.within .a 7 9 = false) ∧
       [s, u, v].map (fun x => (x.giveRequest .a 1).span.handover.stage) = [.shrinking, .waiting, .widening]) ∧
    (let s := { straddling (waiting 40030) with requests := running.requests }
     (∀ i < 24, ∀ u ∈ s.racks.get i, (u.seq - s.seqCounter).toInt.natAbs < 2 ^ 30 ∧
         ∀ j < 24, j ≠ i → ∀ w ∈ s.racks.get j, w.seq ≠ u.seq) ∧
       (s.lookahead.requests.get 0).map (fun q => (q.source, q.cls, q.created)) = some (2, .critical, s.tick)) := by
  decide +kernel

/-- The urgency order of a CRITICAL and a LOOSE request, in both modes, with near keys and different sequences. -/
theorem test_hypotheses_DispatchPassWalks_order :
    let s := straddling (waiting 40030)
    (s.urgencyOrder = [0, 1] ∧ s.requests.get 0 = some (asking 2 (some 5) .ready) ∧ (s.racks.get 0).isSome = true ∧
      s.requests.get 1 = some { asking 7 (some 9) .ready with cls := .loose } ∧ (s.racks.get 1).isSome = true) ∧
      (∀ k < 24, ∀ r ∈ s.racks.get k, (r.seq - s.seqCounter).toInt.natAbs < 2 ^ 30 ∧
        (s.latestLift r).all (fun e => decide ((e - s.tick).toInt.natAbs < 2 ^ 30)) = true ∧
        ∀ l < 24, l ≠ k → ∀ w ∈ s.racks.get l, w.seq ≠ r.seq) := by decide +kernel

/-- A request both hoists are eligible for, one that only B is, one that A alone is, and one that none is; and the
premises of what a pass gives: a move within reach, one that needs a handover, and a pass that finds nothing. -/
theorem test_hypotheses_DispatchPassWalks_choice :
    (let s := straddling running
     s.eligible [] .a 1 = true ∧ s.eligible [] .b 1 = true ∧ s.chosenHoist [] 1 = some .a ∧ s.hoistB.position = some 12) ∧
    (let s := straddling (waiting 40030)
     s.eligible [] .a 1 = false ∧ s.eligible [] .b 1 = true ∧ s.hoistA.position = some 1) ∧
    ((waiting 40035).chosenHoist [] 0 = some .a ∧ (waiting 40034).chosenHoist [] 0 = none) ∧
    (∀ s ∈ [waiting 40035, straddling running, waiting 40034],
      let u := (State.crossMargins { s with
        dispatcher := { s.dispatcher with passesOwed := s.dispatcher.passesOwed - 1 } }).clearMarks.lookahead
      s.resetHeld = false ∧ u.urgencyOrder.map (u.chosenHoist []) =
        [if s.tick = 40034 then none else some .a] ∧
        (s.requests.get 0 = none → u.within .a 7 9 = false) ∧ (s.requests.get 0 ≠ none → u.within .a 2 5 = true)) := by
  decide +kernel

/-- Start bits: of the other hoist, the last hoist alone, the cabinet and the order station; and none to see. -/
theorem test_hypotheses_ReceptionsBeginAndEnd :
    running.resetHeld = false ∧ running.link.lastHoist ≤ 1 ∧ running.link.engine = .listen ∧
      (∀ c < 4, running.link.slot c = none) ∧ ¬(0#4).getLsbD 0 = true ∧
      ((1#4).getLsbD 0 = true ∧ (2#4).getLsbD 1 = true ∧ (4#4).getLsbD 2 = true ∧ (8#4).getLsbD 3 = true) ∧
      (receiving running 0).link.engine ≠ .listen ∧
      (∀ c < 4, (receiving running c).link.engine = .receiving c ∧ (receiving running c).link.discardWait = none) ∧
      ((receiving running 3).link.slot 3 = none ∧ (receiving (full running 5) 3).link.held 3 + 3 ≤ 8 ∧
        8 < (receiving (full running 6) 3).link.held 3 + 3) ∧
      30 < (31#8).toNat ∧
      (((List.range 9).filter (fun i => (0b10000000110#11).getLsbD (i + 1))).length % 2 = 0) ∧
      (0b00000000010#11).getLsbD 10 = false ∧
      (after (.lengthError 31) (receiving running 3)).link.discardWait = some 3 := by decide +kernel

theorem test_hypothesis_ReceptionsBeginAndEnd_not_receiving : ∀ x, running.link.engine ≠ .receiving x := by
  intro x h
  have e : running.link.engine = .listen := by decide +kernel
  rw [e] at h
  cases h

theorem test_hypotheses_GoodFrameRunsItsCommand :
    (receiving running 3).resetHeld = false ∧ (receiving running 3).OutputsFollow ∧
      (receiving running 3).link.engine = .receiving 3 ∧ (receiving running 3).link.discardWait = none ∧
      decodeFrame 3 0x5A [] = some .lineHold ∧ decodeFrame 3 0x5A [1] = none ∧
      (List.replicate 30 (0 : Byte)).length ≤ 30 ∧ 30 < (List.replicate 31 (0 : Byte)).length := by
  unfold State.OutputsFollow; decide +kernel

/-- Sends: of the older hoist frame, of channel 1 alone, of the cabinet and of the order station; with the listen
window open and not; a start bit in the open window; a dropped hoist message and a dropped FRAME REFUSED; a waiting
request, and a waiting refused frame, taken as the sixth of its queue's places comes free. -/
theorem test_hypotheses_SendsBeginAndEnd :
    (let oldest := fun (s : State) (x : Nat) => (s.link.channels.get x).queue.head?.map (·.stamp)
     let hoists := { running with link := (running.link.push 1 .halt).push 0 .resume }
     running.resetHeld = false ∧ running.link.engine = .listen ∧ running.link.window = false ∧
       running.link.lastHoist ≤ 1 ∧ (∀ x < 4, oldest running x = none) ∧
       (oldest hoists 0 = some 1 ∧ oldest hoists 1 = some 0) ∧
       (oldest (holding running 0 [.halt]) 0 = some 0 ∧ oldest (holding running 0 [.halt]) 1 = none) ∧
       (oldest (holding running 2 [.owed 0 1]) 0 = none ∧ oldest (holding running 2 [.owed 0 1]) 1 = none ∧
         oldest (holding running 2 [.owed 0 1]) 2 ≠ none) ∧
       (oldest (full running 1) 2 = none ∧ oldest (full running 1) 3 ≠ none) ∧
       (after .frameSent { holding running 0 [.halt] with
         link := { (holding running 0 [.halt]).link with engine := .sending 0 } }).link.window = true) ∧
    ((4#4).getLsbD 2 = true ∧ running.link.slot 2 = none) ∧
    ((messages (holding running 1 [.halt]) 1).head? = some .halt ∧
      (messages (holding running 1 [.frameRefused 9]) 1).head? = some (.frameRefused 9)) ∧
    (let s := { full running 6 with link := (full running 6).link.setSlot 3 (some (.refused 9)) }
     s.link.slot 3 = some (.refused 9) ∧ s.link.held 3 + 3 ≤ 9) ∧
    (let s := slotted (full running 6) .lineHold
     s.link.slot 3 = some (.good .lineHold) ∧ Instr.lineHold.isRequest = true ∧ s.link.held 3 + 3 ≤ 9 ∧ s.OutputsFollow ∧
       9 < (full running 7).link.held 3 + 3 ∧
       (∀ b < 8, (s.baths.get b).owedUnsent = false)) := by
  unfold State.OutputsFollow; decide +kernel

theorem test_hypotheses_FramesDecodeBack :
    ((Instr.temp 7 0).isReport = true ∧ (Instr.withdraw 1).isRequest = true) ∧
      (Instr.temp 7 (-32768)).wellFormed = true ∧ encodeFrame (.temp 7 (-32768)) = some (2, 0x30, [7, 0, 0x80]) ∧
      (Instr.withdraw 65535).wellFormed = true ∧ encodeFrame (.withdraw 65535) = some (3, 0x41, [255, 255]) ∧
      (Instr.position .b none).wellFormed = true ∧ encodeFrame (.position .b none) = some (1, 0x27, [0x80]) ∧
      (List.replicate 27 (0 : Byte)).length ≤ 27 := by
  decide

end Sys2Proof.Tests
end

section
/-! PROOFS. How requests and reports run, and what a step keeps when every meaning keeps it. -/

namespace Sys2Proof

/-- The requests that only ask: the eleven queries, which change nothing an output's source reads (10 R179). -/
def Instr.isQuery : Instr → Bool
  | .rackQuery .. | .stationQuery .. | .bathQuery .. | .recipeQuery .. | .queueQuery .. | .hoistQuery .. | .spanQuery
  | .agitationQuery .. | .lineQuery | .ioQuery .. | .linkQuery .. => true
  | _ => false

end Sys2Proof

namespace Sys2Proof.Machine

/-! ### A property that every meaning keeps -/

variable {P : State → Prop} {s t : State}

/-- What a meaning keeps, the command that runs it keeps. -/
theorem live_keeps {f : State → State} (h : live s f = .next t) (hs : P s) (hf : ∀ s, P s → P (f s)) : P t := by
  rw [live, Host.Outcome.next.injEq] at h
  subst h
  split
  · exact hs
  · exact hf s hs

/-- What a meaning and the driving of the outputs keep, the command that runs it keeps. -/
theorem liveDriven_keeps {f : State → State} (h : liveDriven s f = .next t) (hs : P s)
    (hd : ∀ s, P s → P s.driveOutputs) (hf : ∀ s, P s → P (f s)) : P t :=
  live_keeps h hs (fun s hs => hd _ (hf s hs))

/-- What the filling of channel 3's slot and a handler keep, the taking of a request keeps (11 R191). -/
theorem State.takeRequest_keeps {handler : State → State} (i : Instr) (hs : P s)
    (hslot : ∀ s f, P s → P (s.setRequestSlot f)) (hh : ∀ s, P s → P (handler s)) :
    P (s.takeRequest i handler) := by
  unfold State.takeRequest State.serve
  split
  · exact hs
  · dsimp only
    split
    · exact hslot _ _ (hh _ (hslot _ _ hs))
    · exact hslot _ _ hs

/-- A query is a request taken by its handler (11 R191). -/
theorem exec_query {i : Instr} (hi : i.isQuery = true) (s : State) :
    exec i s = live s (fun s => s.takeRequest i (handleRequest i)) := by
  cases i <;> simp only [Instr.isQuery, Bool.false_eq_true] at hi <;> rfl

/-- Every other request is taken by its handler, with the outputs driven after it (10 R179, 11 R191). -/
theorem exec_request {i : Instr} (hi : i.isRequest = true) (hq : i.isQuery = false) (s : State) :
    exec i s = liveDriven s (fun s => s.takeRequest i (handleRequest i)) := by
  cases i <;> simp only [Instr.isRequest, Instr.isQuery, Bool.false_eq_true, Bool.true_eq_false] at hi hq <;> rfl

/-- Every report is taken by its block, with the outputs driven after it (11 R191). -/
theorem exec_report {i : Instr} (hi : i.isReport = true) (s : State) : exec i s = liveDriven s (takeReport i) := by
  cases i <;> simp only [Instr.isReport, Bool.false_eq_true] at hi <;> rfl

/-- What the slot, the outputs and a request's handler keep, the request keeps. -/
theorem exec_request_keeps {i : Instr} (hi : i.isRequest = true) (h : exec i s = .next t) (hs : P s)
    (hd : ∀ s, P s → P s.driveOutputs) (hslot : ∀ s f, P s → P (s.setRequestSlot f))
    (hh : ∀ s, P s → P (handleRequest i s)) : P t := by
  have ht (s : State) (hs : P s) : P (s.takeRequest i (handleRequest i)) := State.takeRequest_keeps i hs hslot hh
  cases hq : i.isQuery with
  | true => exact live_keeps (exec_query hq s ▸ h) hs ht
  | false => exact liveDriven_keeps (exec_request hi hq s ▸ h) hs hd ht

/-- What the outputs and a report's block keep, the report keeps. -/
theorem exec_report_keeps {i : Instr} (hi : i.isReport = true) (h : exec i s = .next t) (hs : P s)
    (hd : ∀ s, P s → P s.driveOutputs) (hh : ∀ s, P s → P (takeReport i s)) : P t :=
  liveDriven_keeps (exec_report hi s ▸ h) hs hd hh

end Sys2Proof.Machine
end

section
/-! PROOFS. The bath table's laws: what keeps one bath record lawful, and that every operation, and so every step,
keeps the table lawful (01 R9, 02 R39, 03 R52, 04 R67, R71). -/

namespace Sys2Proof.Machine

/-! ### Factor records in range (03 R46 to R52) -/

/-- A clamped factor is in the range of R52. -/
theorem clampFactor_range (x : Int) : 256 ≤ clampFactor x ∧ clampFactor x ≤ 4095 := by
  unfold clampFactor
  split
  · omega
  · split <;> omega

namespace Bath.Lawful

variable {b : Bath}

/-- Every point that is read is in range, the one read outside the table too. -/
theorem point_range (h : b.Lawful) (k : Nat) : 256 ≤ b.point k ∧ b.point k ≤ 4095 := by
  unfold Bath.point
  rw [List.getD_eq_getElem?_getD]
  cases hk : b.points[k]? with
  | none => simp
  | some p => exact h.points p (List.mem_of_getElem? hk)

/-- The temperature factor is in range (03 R47, R48). -/
theorem tempFactor_range (h : b.Lawful) : 256 ≤ b.tempFactor.1 ∧ b.tempFactor.1 ≤ 4095 := by
  unfold Bath.tempFactor
  split
  · exact h.point_range 4
  · exact h.point_range 4
  · exact clampFactor_range _

end Bath.Lawful

/-- The activity factor is in range (03 R49). -/
theorem Bath.activityFactor_range (b : Bath) : 512 ≤ b.activityFactor.1 ∧ b.activityFactor.1 ≤ 1024 := by
  unfold Bath.activityFactor
  dsimp only
  split
  · decide
  · simp only; omega

namespace Bath.Lawful

variable {b : Bath}

/-- The factor record computed from a lawful bath is in range (03 R52). -/
theorem computeFactors_inRange (h : b.Lawful) : b.computeFactors.InRange := by
  obtain ⟨ht1, ht2⟩ := h.tempFactor_range
  obtain ⟨hg1, hg2⟩ := b.activityFactor_range
  unfold Factors.InRange Bath.computeFactors
  dsimp only
  exact ⟨ht1, ht2, hg1, hg2, clampFactor_range _⟩

/-! ### One bath record -/

/-- A new pending factor record (03 R53). -/
theorem computePending (h : b.Lawful) : b.computePending.Lawful :=
  { h with pendingF := fun _ hf => (Option.some.inj hf) ▸ h.computeFactors_inRange }

/-- The load of a tick of phase 0 (03 R54). -/
theorem loadFactors (h : b.Lawful) : b.loadFactors.Lawful := by
  unfold Bath.loadFactors
  split
  · next f hf => exact { h with active := h.pendingF f hf, pendingF := by simp }
  · exact h

/-- The stale count of a tick (04 R71). -/
theorem age (h : b.Lawful) : b.age.Lawful := by
  unfold Bath.age
  split
  · exact h
  · next hn => exact { h with stale := saturate_le 65535 b.staleCount, fresh := fun e => absurd e hn }

/-- The charge of a rack's area (04 R75). -/
theorem charge (h : b.Lawful) (area : Nat) : (b.charge area).Lawful :=
  { h with
    owed := by simp only [Bath.charge, Config.max16]; split <;> omega
    remainder := by simp only [Bath.charge]; omega }

/-- A valid temperature report (04 R68). -/
theorem freshen (h : b.Lawful) {t : Int} (ht : 100 ≤ t ∧ t ≤ 400) : (b.freshen t).Lawful :=
  computePending
    { h with
      temp := fun u hu => (Option.some.inj hu : t = u) ▸ ht
      stale := Nat.zero_le _
      fresh := fun _ => rfl }

/-- Owed volume that only falls, with its remainder kept or cleared (04 R78, R79). -/
theorem owedTo (h : b.Lawful) {owed remainder : Nat} (ho : owed ≤ b.owed) (hr : remainder ≤ b.remainder) :
    ({ b with owed := owed, remainder := remainder } : Bath).Lawful :=
  { h with owed := ho.trans h.owed, remainder := hr.trans h.remainder }

/-- Area in flight written (02 R39). -/
theorem areaTo (h : b.Lawful) {area : Nat} (ha : area ≤ 65535) : ({ b with areaInFlight := area } : Bath).Lawful :=
  { h with area := ha }

/-- A status that has had a report (04 R71). -/
theorem statusTo (h : b.Lawful) {st : TempStatus} (hst : st ≠ .none) : ({ b with status := st } : Bath).Lawful :=
  { h with fresh := fun e => absurd e hst }

/-- The marks of the dynamic half, which have no range (04 R67, R77). -/
theorem marksTo (h : b.Lawful) (fault unsent : Bool) :
    ({ b with probeFault := fault, owedUnsent := unsent } : Bath).Lawful := { h with }

end Bath.Lawful

/-- The bath record after power-on (01 R9, 03 R52, 04 R67). -/
theorem Bath.reset_lawful : Bath.reset.Lawful where
  tRef := by decide
  length := rfl
  points := by decide
  rho := by decide
  slope := by decide
  threshold := by decide
  temp := by decide
  active := by unfold Factors.InRange; decide
  pendingF := by simp [Bath.reset]
  owed := by decide
  remainder := by decide
  stale := by decide
  fresh := fun _ => rfl
  area := by decide

/-! ### The table -/

/-- What the fall of the area in flight writes (02 R39). -/
theorem State.lowerArea_baths (s : State) (p : Nat → Bool) (area : Nat) : (s.lowerArea p area).baths =
    s.baths.mapIdx (fun b x => if p b then { x with areaInFlight := x.areaInFlight - area } else x) := rfl

/-- What the rise of the area in flight writes (02 R39). -/
theorem State.raiseArea_baths (s : State) (p : Nat → Bool) (area : Nat) : (s.raiseArea p area).baths =
    s.baths.mapIdx (fun b x => if p b then { x with areaInFlight := x.areaInFlight + area } else x) := rfl

namespace State.BathsLawful

variable {s t : State}

/-- What leaves the bath table as it is. -/
theorem of_baths (h : s.BathsLawful) (e : t.baths = s.baths) : t.BathsLawful := fun n hn => by rw [e]; exact h n hn

/-- One record written, lawful where its number is in the table. -/
theorem setBath (h : s.BathsLawful) {b : Nat} {x : Bath} (hx : (s.baths.get b).Lawful → x.Lawful) :
    (s.setBath b x).BathsLawful := fun n hn => by
  rw [State.setBath, Table.get_set]
  split
  · next hb => exact hx (h b (hb.1 ▸ hn))
  · exact h n hn

/-- Every record changed by its number. -/
theorem mapIdx {f : Nat → Bath → Bath} (e : t.baths = s.baths.mapIdx f)
    (hf : ∀ n < 8, (f n (s.baths.get n)).Lawful) : t.BathsLawful := fun n hn => by
  rw [e, Table.get_mapIdx _ _ hn]; exact hf n hn

/-- Every record changed alike. -/
theorem map (h : s.BathsLawful) {f : Bath → Bath} (e : t.baths = s.baths.map f)
    (hf : ∀ b : Bath, b.Lawful → (f b).Lawful) : t.BathsLawful := fun n hn => by
  rw [e, Table.get_map _ _ hn]; exact hf _ (h n hn)

/-- Turns of a loop that each keep the table. -/
theorem foldl {β : Type} {f : State → β → State} (hf : ∀ s b, s.BathsLawful → (f s b).BathsLawful) (l : List β)
    (h : s.BathsLawful) : (l.foldl f s).BathsLawful := by
  induction l generalizing s with
  | nil => exact h
  | cons b l ih => exact ih (hf s b h)

/-! ### Owed volume and area in flight (02 R39, 04 R75, R77) -/

theorem sendOwed (h : s.BathsLawful) (b : Nat) : (s.sendOwed b).BathsLawful := by
  unfold State.sendOwed
  dsimp only
  split
  · exact h.of_baths rfl
  · split
    · exact h.of_baths rfl
    · exact h.setBath (fun hx => hx.marksTo _ true)

theorem serveUnsent (h : s.BathsLawful) : s.serveUnsent.BathsLawful := by
  unfold State.serveUnsent
  split
  · next b _ => exact (h.setBath (b := b) (fun hx => hx.marksTo _ false)).of_baths rfl
  · exact h

theorem chargeBath (h : s.BathsLawful) (b area : Nat) : (s.chargeBath b area).BathsLawful :=
  (h.setBath (fun hx => (hx.charge area).computePending)).sendOwed b

theorem lowerArea (h : s.BathsLawful) (p : Nat → Bool) (area : Nat) : (s.lowerArea p area).BathsLawful :=
  mapIdx (State.lowerArea_baths s p area) (fun n hn => by
    have hb := h n hn
    split
    · exact hb.areaTo ((Nat.sub_le _ _).trans hb.area)
    · exact hb)

/-- Area in flight rises where the sum stays within 65535 (02 R30, R39, R41). -/
theorem raiseArea (h : s.BathsLawful) {p : Nat → Bool} {area : Nat}
    (fits : ∀ b < 8, p b = true → (s.baths.get b).areaInFlight + area ≤ 65535) : (s.raiseArea p area).BathsLawful :=
  mapIdx (State.raiseArea_baths s p area) (fun n hn => by
    split
    · next hp => exact (h n hn).areaTo (fits n hn hp)
    · exact h n hn)

/-! ### Admission (02 R30, R31, R40) -/

/-- An entry whose area fits stays within 65535 area units in every bath its recipe uses (02 R30). -/
theorem area_of_fits (h : s.BathsLawful) {e : QueueEntry} (fits : s.areaFits e = true) {b : Nat} (hb : b < 8)
    (hu : s.usedFrom e.recipe 1 b = true) : (s.baths.get b).areaInFlight + e.area ≤ 65535 := by
  have hlimit : (s.baths.get b).areaLimit ≤ 65535 := by
    unfold Bath.areaLimit; split
    · exact le_rfl
    · exact (h b hb).threshold
  have hfit := List.all_eq_true.mp fits b (List.mem_range.mpr hb)
  simp only [hu, Bool.not_true, Bool.false_or, decide_eq_true_eq] at hfit
  exact hfit.trans hlimit

theorem placeAdmitted (h : s.BathsLawful) {e : QueueEntry} (fits : s.areaFits e = true) (slot : Nat) :
    (s.placeAdmitted e slot).BathsLawful := by
  refine State.BathsLawful.of_baths (s := State.raiseArea _ _ _) ?_ ((State.triggerPass_baths _).trans
    (State.createRequest_baths _ _))
  exact raiseArea (h.of_baths (by simp)) (fun b hb hu => h.area_of_fits fits hb hu)

theorem retestFrom (n : Nat) (h : s.BathsLawful) : (s.retestFrom n).BathsLawful := by
  induction n generalizing s with
  | zero => exact h
  | succ n ih =>
    unfold State.retestFrom
    split
    · exact h
    · next e rest _ =>
      split
      · next ha =>
        split
        · next slot _ =>
          have fits : s.areaFits e = true := by
            simp only [State.admissionTest, Bool.and_eq_true] at ha; exact ha.1.2
          have hq : ({ s with queue := rest } : State).BathsLawful := h.of_baths rfl
          exact ih ((hq.placeAdmitted fits slot).of_baths (by simp))
        · exact h
      · exact h

theorem retestHead (h : s.BathsLawful) : s.retestHead.BathsLawful := h.retestFrom _

end State.BathsLawful

end Sys2Proof.Machine
end

section
/-! PROOFS. Every command, and so every step, keeps the bath table's laws. -/

namespace Sys2Proof

/-- The requests that can write the bath table: those that write a bath, take in, free or place a rack, retest the
admission queue or clear the line. -/
def Instr.writesBaths : Instr → Bool
  | .admitRack .. | .withdraw .. | .rackRemove .. | .rackPlace .. | .bathSet .. | .bathTableSet .. | .bathOwedClear ..
  | .lineRun | .lineResume | .lineClear => true
  | _ => false

end Sys2Proof

namespace Sys2Proof.Machine

/-! ### What LINE CLEAR does to the bath table (09 R171) -/

@[simp] theorem State.discardQueue_baths (s : State) : s.discardQueue.baths = s.baths :=
  State.foldl_same State.baths (fun (t : State) (e : QueueEntry) => t.lowerRefs e.recipe) (fun _ _ => rfl) s.queue s

@[simp] theorem State.cancelOpen_baths (s : State) (h : Hoist) : (s.cancelOpen h).baths = s.baths := by
  unfold State.cancelOpen; split <;> simp

@[simp] theorem State.clearHoist_baths (s : State) (h : Hoist) : (s.clearHoist h).baths = s.baths := by
  simp [State.clearHoist]

@[simp] theorem State.resumeIfHalted_baths (s : State) : s.resumeIfHalted.baths = s.baths := by
  unfold State.resumeIfHalted; split <;> simp

/-- The clear rule of the bath table: no area in flight (04 R67). -/
theorem State.clearBlocks_baths (s : State) :
    s.clearBlocks.baths = s.baths.map (fun b => { b with areaInFlight := 0 }) := by
  simp [State.clearBlocks]

/-- LINE CLEAR lowers the areas of the records it frees and then leaves no area in flight (09 R171). -/
theorem State.clearLine_baths (s : State) : s.clearLine.baths =
    ((List.range Config.slots).foldl State.clearSlot (s.setHandover Handover.blank)).baths.map
      (fun b => { b with areaInFlight := 0 }) := by
  unfold State.clearLine
  dsimp only
  rw [State.resumeIfHalted_baths, State.clearBlocks_baths, State.discardQueue_baths]

/-! ### Other meanings that leave the bath table as it is -/

@[simp] theorem State.writeStation_baths (s : State) (n : Nat) (k : StationKind) (b : Nat) (se sv : Bool) :
    (s.writeStation n k b se sv).baths = s.baths := by
  unfold State.writeStation; dsimp only; split <;> simp

@[simp] theorem State.releaseHoist_baths (s : State) (h : Hoist) : (s.releaseHoist h).baths = s.baths := by
  simp [State.releaseHoist]

@[simp] theorem State.setProgram_baths (s : State) (b : Nat) (p : Program) : (s.setProgram b p).baths = s.baths := by
  unfold State.setProgram; dsimp only; (repeat' split) <;> simp

@[simp] theorem State.cycleStart_baths (s : State) (b : Nat) : (s.cycleStart b).baths = s.baths := by
  unfold State.cycleStart; dsimp only; split <;> simp

@[simp] theorem State.settleGen_baths (s : State) (b : Nat) : (s.settleGen b).baths = s.baths := by
  unfold State.settleGen; dsimp only; (repeat' split) <;> simp

@[simp] theorem State.sampleGen_baths (s : State) (b : Nat) : (s.sampleGen b).baths = s.baths := by
  unfold State.sampleGen; split <;> simp

@[simp] theorem State.loseAgitation_baths (s : State) (n : Nat) : (s.loseAgitation n).baths = s.baths := by
  unfold State.loseAgitation; (repeat' split) <;> simp

@[simp] theorem State.gasLost_baths (s : State) : s.gasLost.baths = s.baths :=
  (State.foldl_same State.baths State.loseAgitation State.loseAgitation_baths _ _).trans (s.addCause_baths _)

@[simp] theorem State.faultMarked_baths (s : State) (n : Nat) : (s.faultMarked n).baths = s.baths := by
  unfold State.faultMarked; dsimp only; split <;> simp

@[simp] theorem State.bathReleased_baths (s : State) (slot : Nat) : (s.bathReleased slot).baths = s.baths := by
  unfold State.bathReleased; (repeat' split) <;> simp

@[simp] theorem State.refuseFrame_baths (s : State) (c : Nat) (kind : Byte) :
    (s.refuseFrame c kind).baths = s.baths := by
  unfold State.refuseFrame State.takeRefused State.serve refuseOnThree; dsimp only; (repeat' split) <;> rfl

namespace State.BathsLawful

variable {s t : State}

/-! ### Lifts, freed records and placements (02 R35, R42, 06 R116, R118) -/

theorem liftRack (h : s.BathsLawful) (slot source : Nat) : (s.liftRack slot source).BathsLawful := by
  unfold State.liftRack
  split
  · dsimp only
    have moved (t : State) (e : t.baths = s.baths) : t.BathsLawful := h.of_baths e
    split
    · exact (((moved _ (by simp)).chargeBath _ _).lowerArea _ _).retestHead
    · exact moved _ (by simp)
  · exact h

theorem doLift (h : s.BathsLawful) (x : Hoist) (early : Bool) : (s.doLift x early).BathsLawful := by
  unfold State.doLift
  split
  · dsimp only
    split
    · exact (h.of_baths (by simp)).liftRack _ _
    · exact (h.of_baths (by simp)).liftRack _ _
  · exact h

theorem dropRack (h : s.BathsLawful) (slot : Nat) (r : Rack) (ev : Option RackEvent) :
    (s.dropRack slot r ev).BathsLawful := by
  unfold State.dropRack
  dsimp only
  refine State.BathsLawful.of_baths (s := State.lowerArea _ _ _) (lowerArea ?_ _ r.area) (by simp; rfl)
  exact h.of_baths (by simp)

theorem freeRack (h : s.BathsLawful) (slot : Nat) (ev : Option RackEvent) : (s.freeRack slot ev).BathsLawful := by
  unfold State.freeRack
  split
  · next r _ => exact ((h.dropRack slot r ev).of_baths (by simp)).retestHead
  · exact h

theorem arriveUnload (h : s.BathsLawful) (slot : Nat) (r : Rack) (station : Nat) :
    (s.arriveUnload slot r station).BathsLawful := by
  unfold State.arriveUnload
  split
  · exact h.of_baths (by simp)
  · exact (h.of_baths (by simp)).freeRack _ _

theorem openWindowIf (h : s.BathsLawful) (c : Bool) (n : Nat) : (if c then s.openWindow n else s).BathsLawful := by
  split
  · exact h.of_baths (by simp)
  · exact h

theorem doPlace (h : s.BathsLawful) (x : Hoist) : (s.doPlace x).BathsLawful := by
  unfold State.doPlace
  split
  · dsimp only
    split
    · refine openWindowIf ?_ _ _
      split
      · exact h.of_baths (by simp)
      · exact (h.of_baths (by simp)).arriveUnload _ _ _
    · exact h.of_baths (by simp)
  · exact h

/-! ### The handlers of the requests -/

theorem reply (h : s.BathsLawful) (kind : Nat) (code : ReplyCode) (contents : List Byte) :
    (s.reply kind code contents).BathsLawful := h.of_baths rfl

theorem handleAdmit (h : s.BathsLawful) (e : QueueEntry) : (handleAdmit e s).BathsLawful := by
  unfold Machine.handleAdmit
  split
  · exact h.of_baths (by simp)
  · split
    · next ha =>
      have fits : s.areaFits e = true := by
        have ht := ha.2
        simp only [State.admissionTest, Bool.and_eq_true] at ht; exact ht.1.2
      split
      · next slot _ => exact (h.placeAdmitted fits slot).of_baths (by simp)
      · exact h
    · split
      · exact h.of_baths (by simp [State.joinQueue])
      · exact h.of_baths (by simp)

theorem handleWithdraw (h : s.BathsLawful) (id : Nat) : (handleWithdraw id s).BathsLawful := by
  unfold Machine.handleWithdraw
  split
  · exact h.of_baths (by simp)
  · split
    · refine h.of_baths ?_
      simp only [State.withdrawEntry, State.reply_baths, State.lowerRefs_baths]
      split <;> simp
    · split
      · split
        · split
          · exact (h.freeRack _ _).reply _ _ _
          · exact h.of_baths (by simp)
        · exact h.of_baths (by simp)
      · exact h.of_baths (by simp)

theorem handleRackRemove (h : s.BathsLawful) (id : Nat) : (handleRackRemove id s).BathsLawful := by
  unfold Machine.handleRackRemove
  split
  · exact h.of_baths (by simp)
  · split
    · split
      · split
        · exact h.of_baths (by simp)
        · exact (h.freeRack _ _).reply _ _ _
      · exact h.of_baths (by simp)
    · exact h.of_baths (by simp)

theorem placeByHand (h : s.BathsLawful) {slot : Nat} {r : Rack} {step station : Nat}
    (fits : s.placeOverflows r step = false) : (s.placeByHand slot r step station).BathsLawful := by
  unfold State.placeByHand
  dsimp only
  have raised := raiseArea (s := (s.setOcc station (.occupied slot)).setRack slot
      (some (r.placeBack (s.stepCount r) step station (s.targetOf r step) s.tick)))
    (p := fun b => s.placeAdds r step b) (area := r.area) (h.of_baths (by simp)) (fun b hb hp => by
      have hf := List.any_eq_false.mp fits b (List.mem_range.mpr hb)
      simpa [hp] using hf)
  have lowered := raised.lowerArea (fun b => s.placeDrops r step b) r.area
  split
  · exact lowered.arriveUnload _ _ _
  · refine lowered.of_baths ?_
    split <;> simp

theorem handleRackPlace (h : s.BathsLawful) (id step station : Nat) :
    (handleRackPlace id step station s).BathsLawful := by
  unfold Machine.handleRackPlace
  split
  · exact h.of_baths (by simp)
  · split
    · split
      · next r _ =>
        cases hp : s.placeRefusal r step station with
        | some code => exact h.of_baths (by simp)
        | none =>
          have fits : s.placeOverflows r step = false := by
            simp only [State.placeRefusal] at hp
            repeat' split at hp
            all_goals simp_all
          exact (h.placeByHand fits).reply _ _ _
      · exact h.of_baths (by simp)
    · exact h.of_baths (by simp)

theorem handleBathSet (h : s.BathsLawful) (b tRef rho slope threshold : Nat) :
    (handleBathSet b tRef rho slope threshold s).BathsLawful := by
  unfold Machine.handleBathSet
  split
  · next ok =>
    simp only [bathFieldsOk, Bool.and_eq_true, decide_eq_true_eq] at ok
    obtain ⟨⟨⟨⟨⟨-, hlow⟩, hhigh⟩, hrho⟩, hslope⟩, hthreshold⟩ := ok
    refine (h.setBath (b := b) (fun hx => ?_)).reply _ _ _
    exact Bath.Lawful.computePending
      { hx with tRef := ⟨hlow, hhigh⟩, rho := hrho, slope := hslope, threshold := hthreshold }
  · exact h.of_baths (by simp)

theorem handleBathTableSet (h : s.BathsLawful) (b : Nat) (points : List Nat) :
    (handleBathTableSet b points s).BathsLawful := by
  unfold Machine.handleBathTableSet
  split
  · next ok =>
    simp only [pointsOk, Bool.and_eq_true, decide_eq_true_eq, List.all_eq_true] at ok
    obtain ⟨⟨-, hlength⟩, hpoints⟩ := ok
    refine (h.setBath (b := b) (fun hx => ?_)).reply _ _ _
    exact Bath.Lawful.computePending { hx with length := hlength, points := hpoints }
  · exact h.of_baths (by simp)

theorem handleBathOwedClear (h : s.BathsLawful) (b : Nat) : (handleBathOwedClear b s).BathsLawful := by
  unfold Machine.handleBathOwedClear
  split
  · refine State.BathsLawful.reply (sendOwed (h.setBath (b := b) (fun hx => ?_)) b) _ _ _
    exact (hx.owedTo (Nat.zero_le _) (Nat.zero_le _)).computePending
  · exact h.of_baths (by simp)

theorem handleLineRun (h : s.BathsLawful) : (handleLineRun s).BathsLawful := by
  unfold Machine.handleLineRun
  dsimp only
  split
  · exact h.of_baths (by simp)
  · refine State.BathsLawful.reply (retestHead (h.of_baths ?_)) _ _ _
    rw [State.triggerPass_baths]
    split <;> simp

theorem handleLineResume (h : s.BathsLawful) : (handleLineResume s).BathsLawful := by
  unfold Machine.handleLineResume
  dsimp only
  split
  · exact h.of_baths (by simp)
  · split
    · exact h.of_baths (by simp)
    · refine State.BathsLawful.reply (retestHead (h.of_baths ?_)) _ _ _
      simp only [State.resumeHandover, State.resumeHoist, State.triggerPass_baths]
      split <;> simp

theorem clearSlot (h : s.BathsLawful) (slot : Nat) : (s.clearSlot slot).BathsLawful := by
  unfold State.clearSlot
  split
  · exact h.dropRack _ _ _
  · exact h

theorem handleLineClear (h : s.BathsLawful) : (handleLineClear s).BathsLawful := by
  unfold Machine.handleLineClear
  split
  · refine State.BathsLawful.reply ?_ _ _ _
    have freed := State.BathsLawful.foldl (fun _ k hs => clearSlot hs k) (List.range Config.slots)
      (h.of_baths (State.setHandover_baths s Handover.blank))
    exact freed.map s.clearLine_baths (fun b hb => hb.areaTo (Nat.zero_le _))
  · exact h.reply _ _ _

/-- The requests that write no bath. -/
theorem handleRequest_baths_of (i : Instr) (hi : i.writesBaths = false) (s : State) :
    (handleRequest i s).baths = s.baths := by
  cases i <;> simp only [Instr.writesBaths, Bool.true_eq_false] at hi
  all_goals
    simp only [Machine.handleRequest, handleRackQuery, handleStationSet, handleStationQuery, handleBathQuery,
      handleRecipeOpen, handleStepSet, handleRecipeClose, handleRecipeQuery, handleDispatchConfig, handleQueueQuery,
      handleHoistTiming, handleHoistCancel, handleHoistRelease, handleHoistQuery, handleSpanConfig, handleSpanQuery,
      handleAgitationSet, handleAgitationQuery, handleLineHold, handleLineHalt, handleCauseClear, handleLineQuery,
      handleInputSet, handleOutputMode, handleOutputLatch, handleIoQuery, handleLinkQuery, id]
  all_goals (repeat' split) <;> simp

/-- Every handler keeps the bath table's laws. -/
theorem handleRequest (h : s.BathsLawful) (i : Instr) : (handleRequest i s).BathsLawful := by
  cases hi : i.writesBaths with
  | false => exact h.of_baths (handleRequest_baths_of i hi s)
  | true =>
    cases i <;> simp only [Instr.writesBaths, Bool.false_eq_true] at hi
    case admitRack => exact h.handleAdmit _
    case withdraw => exact h.handleWithdraw _
    case rackRemove => exact h.handleRackRemove _
    case rackPlace => exact h.handleRackPlace _ _ _
    case bathSet => exact h.handleBathSet _ _ _ _ _
    case bathTableSet => exact h.handleBathTableSet _ _
    case bathOwedClear => exact h.handleBathOwedClear _
    case lineRun => exact h.handleLineRun
    case lineResume => exact h.handleLineResume
    case lineClear => exact h.handleLineClear

/-! ### Reports (06 R111, 04 R68 to R70, R78) -/

theorem takeTemp (h : s.BathsLawful) (b : Nat) (t : Int) : (takeTemp b t s).BathsLawful := by
  unfold Machine.takeTemp
  split
  · exact h.of_baths rfl
  · dsimp only
    split
    · next ht =>
      have fresh := h.setBath (b := b) (fun hx => hx.freshen ht)
      split
      · exact fresh.of_baths (by simp)
      · exact fresh
    · have faulted := h.setBath (b := b) (fun hx => hx.marksTo true (s.baths.get b).owedUnsent)
      split
      · exact faulted
      · exact faulted.of_baths (by simp)

theorem takePumped (h : s.BathsLawful) (b volume : Nat) : (takePumped b volume s).BathsLawful := by
  unfold Machine.takePumped
  split
  · exact h.of_baths rfl
  · exact (h.setBath (b := b) (fun hx => (hx.owedTo (Nat.sub_le _ volume) le_rfl).computePending)).sendOwed b

/-- A report that names an order keeps the table where what it does with the order keeps it. -/
theorem orderReport (h : s.BathsLawful) {x : Hoist} {number : Nat} {position : Option Int} {act : Order → Int → State}
    (ha : ∀ o p, (act o p).BathsLawful) : (s.orderReport x number position act).BathsLawful := by
  unfold State.orderReport
  split
  · exact ha _ _
  · exact h.of_baths (by simp)

theorem takeLifted (h : s.BathsLawful) (x : Hoist) (number : Nat) (position : Option Int) :
    (takeLifted x number position s).BathsLawful :=
  h.orderReport (fun o p => by
    split
    · exact h.of_baths (by simp)
    · exact (h.of_baths (by simp)).doLift x false
    · exact (h.of_baths (by simp)).doLift x true)

theorem takePlaced (h : s.BathsLawful) (x : Hoist) (number : Nat) (position : Option Int) :
    (takePlaced x number position s).BathsLawful :=
  h.orderReport (fun o p => by
    split
    · exact (h.of_baths (by simp)).doPlace x
    · exact ((h.of_baths (by simp)).doLift x false).doPlace x
    · exact ((h.of_baths (by simp)).doLift x true).doPlace x)

/-- Every report keeps the bath table's laws. -/
theorem takeReport (h : s.BathsLawful) (i : Instr) : (takeReport i s).BathsLawful := by
  cases i
  case lifted => exact h.takeLifted _ _ _
  case placed => exact h.takePlaced _ _ _
  case temp => exact h.takeTemp _ _
  case pumped => exact h.takePumped _ _
  all_goals refine h.of_baths ?_
  all_goals
    simp only [Machine.takeReport, takeHello, takeAccept, takeRefuse, takePoised, takeCancelled, takePosition,
      takeSpanAckReport, takeFault, State.orderReport, State.poise, State.toPhase, State.helloIdle, State.checkHello,
      id]
  all_goals (repeat' split) <;> simp

/-! ### The line tick (03 R44, R45, R54, 04 R71) -/

theorem countTick (h : s.BathsLawful) : s.countTick.BathsLawful := h.map rfl (fun _ hb => hb.age)

theorem compensate (h : s.BathsLawful) : s.compensate.BathsLawful := by
  unfold State.compensate
  refine foldl (fun _ _ hs => hs.of_baths (by simp)) _ (foldl (fun _ _ hs => hs.of_baths (by simp)) _ ?_)
  have loaded : s.loadPending.BathsLawful := by
    unfold State.loadPending
    split
    · exact h.map rfl (fun _ hb => hb.loadFactors)
    · exact h
  exact loaded.of_baths rfl

theorem becomeStale (h : s.BathsLawful) (b : Nat) : (s.becomeStale b).BathsLawful := by
  unfold State.becomeStale
  dsimp only
  split
  · exact (h.setBath (b := b) (fun hx => hx.statusTo (st := .stale) (by decide))).of_baths (by simp)
  · exact h

theorem becomeLapsed (h : s.BathsLawful) (b : Nat) : (s.becomeLapsed b).BathsLawful := by
  unfold State.becomeLapsed
  dsimp only
  split
  · have lapsed := h.setBath (b := b) (fun hx => hx.statusTo (st := .lapsed) (by decide))
    split <;> exact lapsed.of_baths (by simp)
  · exact h

theorem expiries (h : s.BathsLawful) : s.expiries.BathsLawful :=
  foldl (fun _ _ hs => hs.of_baths (by simp)) _
    (of_baths (foldl (fun _ b hs => (becomeStale hs b).becomeLapsed b) (List.range Config.baths) h) (by simp))

theorem lineTick (h : s.BathsLawful) : s.countTick.compensate.expiries.triggerPass.BathsLawful :=
  h.countTick.compensate.expiries.of_baths (by simp)

/-! ### Inputs, dispatch passes and frames (05 R97, R104, 10 R175, R176, 04 R77, 11 R191) -/

theorem seatedAt (h : s.BathsLawful) (n : Nat) : (s.seatedAt n).BathsLawful := by
  unfold State.seatedAt
  split
  · exact h.of_baths (by simp)
  · split
    · exact h.retestHead
    · exact h
  · refine h.of_baths ?_
    (repeat' split) <;> simp
  · exact h.of_baths (by simp)
  · exact h

theorem loadReleased (h : s.BathsLawful) (slot : Nat) : (s.loadReleased slot).BathsLawful := by
  unfold State.loadReleased
  split
  · exact h.freeRack _ _
  · split
    · exact h.freeRack _ _
    · exact h

theorem releasedAt (h : s.BathsLawful) (n : Nat) : (s.releasedAt n).BathsLawful := by
  unfold State.releasedAt
  split
  · exact h.of_baths (by simp)
  · split
    · split
      · exact h.loadReleased _
      · exact h.of_baths (by simp)
      · exact h.of_baths (by simp)
      · exact h.freeRack _ _
      · exact h
    · exact h
  · exact h

/-- A seat event may free a rack or retest the queue; an auxiliary event only adds a cause and flags. -/
theorem inputEvent (h : s.BathsLawful) (n : Nat) (level : Bool) : (s.inputEvent n level).BathsLawful := by
  unfold State.inputEvent
  split
  · cases level
    · show (s.releaseEvent n).BathsLawful
      unfold State.releaseEvent
      split
      · exact h.releasedAt n
      · exact h
    · show (s.seatEvent n).BathsLawful
      unfold State.seatEvent
      split
      · exact h.seatedAt n
      · exact h
  · refine h.of_baths ?_
    (repeat' split) <;> simp

theorem pinEvent (h : s.BathsLawful) (n : Nat) (level : Bool) : (s.pinEvent n level).BathsLawful := by
  unfold State.pinEvent
  split
  · exact inputEvent (h.of_baths (by simp)) n level
  · exact h

theorem faultMarks (h : s.BathsLawful) (l : List Nat) : (l.foldl State.faultMarked s).BathsLawful :=
  foldl (fun _ _ hs => hs.of_baths (by simp)) l h

theorem sampleEvents (h : s.BathsLawful) (before : State) : (s.sampleEvents before).BathsLawful :=
  faultMarks (foldl (fun _ n hs => hs.inputEvent n _) _ h) _

theorem sampleGens (h : s.BathsLawful) (l : List Nat) : (l.foldl State.sampleGen s).BathsLawful :=
  foldl (fun _ _ hs => hs.of_baths (by simp)) l h

/-- A sample: the lines read, its events, and the generators (10 R172, R173, 08 R148). -/
theorem sampled (h : s.BathsLawful) (pins monitors : BitVec 35) :
    ((List.range Config.baths).foldl State.sampleGen
      (if s.io.seeded then (s.sampleLines pins monitors).sampleEvents s
       else (newlyFaulted s (s.sampleLines pins monitors)).foldl State.faultMarked
         (s.sampleLines pins monitors))).BathsLawful := by
  have hl : (s.sampleLines pins monitors).BathsLawful := h.of_baths rfl
  refine sampleGens ?_ _
  split
  · exact hl.sampleEvents s
  · exact hl.faultMarks _

theorem pass (h : s.BathsLawful) : s.pass.BathsLawful := by
  have crossed (t : State) (m : Option (Int × Nat)) (ht : t.BathsLawful) : (t.crossAdmit m).BathsLawful := by
    unfold State.crossAdmit
    dsimp only
    split
    · split <;> exact ht.of_baths rfl
    · exact ht
    · split
      · exact retestHead (ht.of_baths rfl)
      · exact ht
    · exact retestHead (ht.of_baths rfl)
  have margins : s.crossMargins.BathsLawful := crossed _ _ (h.of_baths (State.crossNotice_baths _ _))
  exact margins.of_baths (by simp [State.pass])

/-- A pass taken with the settings of the dispatcher as given (05 R97; log 6). -/
theorem passWith (h : s.BathsLawful) (d : Dispatcher) : (State.pass { s with dispatcher := d }).BathsLawful :=
  pass (h.of_baths rfl)

theorem deliver (h : s.BathsLawful) (c : Nat) (i : Instr) : (s.deliver c i).BathsLawful := by
  unfold State.deliver
  split
  · exact State.takeRequest_keeps i h (fun _ _ hs => hs.of_baths rfl) (fun _ hs => hs.handleRequest i)
  · exact h.takeReport i

theorem withLink (h : s.BathsLawful) (l : Link) : ({ s with link := l } : State).BathsLawful := h.of_baths rfl

theorem endGood (h : s.BathsLawful) (c : Nat) (i : Instr) : (s.endGood c i).BathsLawful := by
  unfold State.endGood
  exact deliver (h.withLink _) c i

theorem endFrame (h : s.BathsLawful) (c : Nat) (kind : Byte) (payload : List Byte) :
    (s.endFrame c kind payload).BathsLawful := by
  unfold State.endFrame
  split
  · exact h.of_baths rfl
  · split
    · exact h.endGood c _
    · exact h.of_baths (State.refuseFrame_baths _ _ _)

theorem endSend (h : s.BathsLawful) (f : Counts → Counts) : (s.endSend f).BathsLawful := by
  unfold State.endSend
  split
  · next c _ =>
    have left := h.withLink (s.link.leave c f)
    unfold State.afterLeave
    split
    · exact left.serveUnsent
    · split
      · unfold State.serveSlot State.serve
        (repeat' split)
        · exact (left.handleRequest _).of_baths rfl
        all_goals exact left.of_baths rfl
      · exact left
  · exact h

end State.BathsLawful

/-! ### Commands and steps -/

theorem State.reset_bathsLawful : State.reset.BathsLawful := fun n hn => by
  rw [State.reset, Table.get_replicate _ hn]; exact Bath.reset_lawful

/-- A command keeps the bath table's laws. -/
theorem exec_bathsLawful {s t : State} {c : Instr} (h : exec c s = .next t) (hs : s.BathsLawful) : t.BathsLawful := by
  have drive (s : State) (hs : s.BathsLawful) : s.driveOutputs.BathsLawful := hs.of_baths s.driveOutputs_baths
  have slot (s : State) (f : Option SlotFrame) (hs : s.BathsLawful) : (s.setRequestSlot f).BathsLawful :=
    hs.of_baths (s.setRequestSlot_baths f)
  by_cases hq : c.isRequest = true
  · exact exec_request_keeps hq h hs drive slot (fun _ hs => hs.handleRequest c)
  by_cases hr : c.isReport = true
  · exact exec_report_keeps hr h hs drive (fun _ hs => hs.takeReport c)
  cases c <;> simp only [Instr.isRequest, Instr.isReport, not_true_eq_false] at hq hr
  all_goals unfold exec at h
  case powerOn => exact Host.Outcome.next.inj h ▸ State.reset_bathsLawful.of_baths rfl
  case resetAsserted => exact Host.Outcome.next.inj h ▸ State.reset_bathsLawful.of_baths rfl
  case lineTick => exact liveDriven_keeps h hs drive (fun _ hs => hs.lineTick)
  case stale b => exact liveDriven_keeps h hs drive (fun _ hs => hs.becomeStale b)
  case lapsed b => exact liveDriven_keeps h hs drive (fun _ hs => hs.becomeLapsed b)
  case dispatchPass => exact liveDriven_keeps h hs drive (fun _ hs => hs.passWith _)
  case due => exact liveDriven_keeps h hs drive (fun _ hs => hs.of_baths (by simp))
  case overtime => exact liveDriven_keeps h hs drive (fun _ hs => hs.of_baths (by simp))
  case phaseTimerExpiry => exact liveDriven_keeps h hs drive (fun _ hs => hs.of_baths (by simp))
  case acknowledgementTimerExpiry => exact liveDriven_keeps h hs drive (fun _ hs => hs.of_baths (by simp))
  case seatWindowExpiry => exact liveDriven_keeps h hs drive (fun _ hs => hs.of_baths (by simp))
  case sampleEvent => exact liveDriven_keeps h hs drive (fun _ hs => hs.sampled _ _)
  case seated => exact liveDriven_keeps h hs drive (fun _ hs => by split; exacts [hs.pinEvent _ _, hs])
  case released => exact liveDriven_keeps h hs drive (fun _ hs => by split; exacts [hs.pinEvent _ _, hs])
  case eStopActive => exact liveDriven_keeps h hs drive (fun _ hs => hs.pinEvent _ _)
  case gasOkInactive => exact liveDriven_keeps h hs drive (fun _ hs => hs.pinEvent _ _)
  case gasOkActive => exact liveDriven_keeps h hs drive (fun _ hs => hs.pinEvent _ _)
  case pauseActive => exact liveDriven_keeps h hs drive (fun _ hs => hs.pinEvent _ _)
  case auxiliaryInactive => exact liveDriven_keeps h hs drive (fun _ hs => hs.pinEvent _ _)
  case outputFaultMarkSet =>
    exact liveDriven_keeps h hs drive (fun _ hs => hs.of_baths (by dsimp only; split <;> simp))
  case outputFaultMarkClear =>
    exact liveDriven_keeps h hs drive (fun _ hs => hs.of_baths (by dsimp only; split <;> simp))
  case cycleStart => exact liveDriven_keeps h hs drive (fun _ hs => hs.of_baths (by split <;> simp))
  case burstEnd => exact liveDriven_keeps h hs drive (fun _ hs => hs.of_baths (by split <;> simp))
  case startBit => exact live_keeps h hs (fun _ hs => hs.of_baths (by split <;> rfl))
  case frameReceived => exact liveDriven_keeps h hs drive (fun _ hs => by split; exacts [hs.endFrame _ _ _, hs])
  case frameTruncated => exact live_keeps h hs (fun _ hs => hs.of_baths (by split <;> rfl))
  case lengthError => exact live_keeps h hs (fun _ hs => hs.of_baths (by (repeat' split) <;> rfl))
  case characterError => exact live_keeps h hs (fun _ hs => hs.of_baths (by (repeat' split) <;> rfl))
  case discardWaitEnd => exact live_keeps h hs (fun _ hs => hs.of_baths (by split <;> rfl))
  case refusedFrame =>
    exact liveDriven_keeps h hs drive (fun _ hs => by
      split
      · exact hs.of_baths (State.refuseFrame_baths _ _ _)
      · exact hs)
  case sendBegin => exact live_keeps h hs (fun _ hs => hs.of_baths (by split <;> rfl))
  case listenWindowEnd => exact live_keeps h hs (fun _ hs => hs.of_baths (by split <;> rfl))
  case frameSent => exact liveDriven_keeps h hs drive (fun _ hs => hs.endSend _)
  case missingAcknowledge => exact liveDriven_keeps h hs drive (fun _ hs => hs.endSend _)
  case noClocking => exact liveDriven_keeps h hs drive (fun _ hs => hs.endSend _)

/-- Settles O8: a step runs the front command on a state with the same bath table, and every command keeps the
table's laws. -/
theorem bathLawsKept : Obligations.BathLawsKept := by
  intro s t hs h
  unfold step at h
  split at h
  · exact exec_bathsLawful h (hs.of_baths rfl)
  · exact Host.Outcome.next.inj h ▸ hs

end Sys2Proof.Machine
end

section
/-! PROOFS. The tables after power-on, record by record, and the power-on state as a whole (00 Conventions, 11 R185). -/

namespace Sys2Proof.Machine

/-! ### The records of the tables after power-on -/

theorem State.reset_station {n : Nat} (h : n < 32) : State.reset.stations.get n =
    { kind := .unused, bath := 0, sensing := false, inService := false, occ := .empty } := Table.get_replicate _ h

theorem State.reset_bath {n : Nat} (h : n < 8) : State.reset.baths.get n = Bath.reset := Table.get_replicate _ h

theorem State.reset_recipe {n : Nat} (h : n < 16) :
    State.reset.recipes.get n = { st := .empty, steps := [], refs := 0 } := Table.get_replicate _ h

theorem State.reset_rack {n : Nat} (h : n < 24) : State.reset.racks.get n = none := Table.get_replicate _ h

theorem State.reset_request {n : Nat} (h : n < 24) : State.reset.requests.get n = none := Table.get_replicate _ h

theorem State.reset_gen {n : Nat} (h : n < 8) : State.reset.gens.get n = Generator.reset := Table.get_replicate _ h

theorem State.reset_mark {n : Nat} (h : n < 32) : State.reset.marks.get n = .out := Table.get_replicate _ h

theorem State.reset_window {n : Nat} (h : n < 32) : State.reset.windows.get n = none := Table.get_replicate _ h

theorem State.reset_input {n : Nat} (h : n < 35) : State.reset.io.inputs.get n = Input.reset := Table.get_replicate _ h

theorem State.reset_output {n : Nat} (h : n < 35) : State.reset.io.outputs.get n = Output.reset :=
  Table.get_replicate _ h

theorem State.reset_channel {c : Nat} (h : c < 4) : State.reset.link.channels.get c = Channel.reset :=
  Table.get_replicate _ h

theorem State.reset_slot {c : Nat} (h : c < 4) : State.reset.link.slot c = none := by
  rw [Link.slot, State.reset_channel h]; rfl

theorem State.reset_held {c : Nat} (h : c < 4) : State.reset.link.held c = 0 := by
  rw [Link.held, State.reset_channel h]; rfl

/-- Settles O2: both commands put the reset state in place, whose tables repeat one record each. -/
theorem powerOnState : Obligations.PowerOnState := by
  refine ⟨fun s => ⟨rfl, rfl⟩, rfl, fun n h => State.reset_station h, fun n h => ?bath, fun n h => State.reset_recipe h,
    fun n h => ⟨State.reset_rack h, State.reset_request h⟩, ?_⟩
  case bath => rw [State.reset_bath h]; simp only [Bath.reset, and_self]
  -- the queue, the dispatcher, the hoists and the spans
  repeat refine ⟨rfl, ?_⟩
  refine ⟨fun n h => State.reset_gen h, fun n h => ⟨State.reset_mark h, State.reset_window h⟩, rfl, fun n h => ?input,
    fun n h => ?output, ?_⟩
  case input => rw [State.reset_input h]; simp only [Input.reset, and_self]
  case output => rw [State.reset_output h]; simp only [Output.reset, and_self]
  -- the link engine
  repeat refine ⟨rfl, ?_⟩
  intro c h
  refine ⟨State.reset_slot h, State.reset_held h, ?_⟩
  rw [State.reset_channel h]
  rfl

end Sys2Proof.Machine
end

section
/-! PROOFS. How a request that is taken answers, what its checks of numbers say, and what the queuing of a reply, a
message or a notice does to the link (11 R191, R192, R195). -/

namespace Sys2Proof.Machine

/-! ### Checks of numbers -/

theorem stationOk_iff (n : Nat) : stationOk n = true ↔ n ≤ 31 := by
  simp [stationOk, Config.stations]; omega

theorem bathOk_iff (n : Nat) : bathOk n = true ↔ n ≤ 7 := by
  simp [bathOk, Config.baths]; omega

theorem recipeOk_iff (n : Nat) : recipeOk n = true ↔ n ≤ 15 := by
  simp [recipeOk, Config.recipes]; omega

theorem rackIdOk_iff (id : Nat) : rackIdOk id = true ↔ 1 ≤ id ∧ id ≤ 65534 := by
  simp [rackIdOk]

/-! ### A request that is taken (11 R191) -/

variable {s t : State} {i : Instr}

/-- A query that is taken: its handler with the request in the slot, which is then emptied. -/
theorem exec_query_taken (h : s.TakesRequests) (hq : i.isQuery = true) :
    exec i s = .next ((handleRequest i (s.setRequestSlot (some (.good i)))).setRequestSlot none) := by
  rw [exec_query hq, live_next h.1, State.takeRequest_taken h]

/-- Another request that is taken, with the outputs driven after it. -/
theorem exec_request_taken (h : s.TakesRequests) (hi : i.isRequest = true) (hq : i.isQuery = false) :
    exec i s =
      .next ((handleRequest i (s.setRequestSlot (some (.good i)))).setRequestSlot none).driveOutputs := by
  rw [exec_request hi hq, liveDriven_taken h]

/-- A query whose handler replies and does nothing else. -/
theorem exec_query_replies (h : s.TakesRequests) (hq : i.isQuery = true) {kind : Nat} {code : ReplyCode}
    {contents : List Byte}
    (e : handleRequest i (s.setRequestSlot (some (.good i))) =
      (s.setRequestSlot (some (.good i))).reply kind code contents) :
    exec i s = .next (s.reply kind code contents) := by
  rw [exec_query_taken h hq, e, State.reply_within h.2.1]

/-- A query that replies OK where its check holds and BAD_VALUE otherwise. -/
theorem exec_query_checked (h : s.TakesRequests) (hq : i.isQuery = true) {p : Prop} [Decidable p] {kind : Nat}
    {contents : List Byte}
    (e : handleRequest i (s.setRequestSlot (some (.good i))) =
      if p then (s.setRequestSlot (some (.good i))).reply kind .ok contents
      else (s.setRequestSlot (some (.good i))).reply kind .badValue []) :
    exec i s = .next (if p then s.reply kind .ok contents else s.reply kind .badValue []) := by
  by_cases hp : p
  · rw [if_pos hp]; exact exec_query_replies h hq (e.trans (if_pos hp))
  · rw [if_neg hp]; exact exec_query_replies h hq (e.trans (if_neg hp))

/-- A request whose handler brings the state to t, which does not depend on the slot, and then replies. -/
theorem exec_request_replies (h : s.TakesRequests) (hi : i.isRequest = true) (hq : i.isQuery = false)
    (ht : t.link.slot 3 = none) {kind : Nat} {code : ReplyCode} {contents : List Byte}
    (e : handleRequest i (s.setRequestSlot (some (.good i))) =
      (t.setRequestSlot (some (.good i))).reply kind code contents) :
    exec i s = .next (t.reply kind code contents).driveOutputs := by
  rw [exec_request_taken h hi hq, e, State.reply_within ht]

/-! ### What queuing does to the link (11 R192, R195) -/

variable (l : Link)

/-- What a change of one record leaves alone in it is the same in every record of the table. -/
theorem Table.modify_same {α β : Type} {n : Nat} [Inhabited α] (part : α → β) {f : α → α}
    (h : ∀ x, part (f x) = part x) (t : Table α n) (i j : Nat) : part ((t.modify i f).get j) = part (t.get j) := by
  rw [Table.modify, Table.get_set]
  split
  · next hij => rw [h, hij.1]
  · rfl

/-- The messages of a channel after one joins its tail. -/
theorem Link.push_queue {c : Nat} (h : c < 4) (m : OutMsg) :
    ((l.push c m).channels.get c).queue = (l.channels.get c).queue ++ [⟨m, l.stamp⟩] := by
  simp [Link.push, Table.modify, Table.get_set_self _ h]

theorem Link.push_counts (c d : Nat) (m : OutMsg) :
    ((l.push c m).channels.get d).counts = (l.channels.get d).counts :=
  Table.modify_same Channel.counts (f := fun ch => { ch with queue := ch.queue ++ [⟨m, l.stamp⟩] }) (fun _ => rfl) _ c d

theorem Link.push_get_ne {c d : Nat} (h : c ≠ d) (m : OutMsg) : (l.push c m).channels.get d = l.channels.get d := by
  simp [Link.push, Table.modify, h]

/-- The frames of a list joined to the tail of a channel's queue, from l to l', and nothing else changed. -/
structure Link.Appended (l l' : Link) (c : Nat) (ms : List OutMsg) : Prop where
  queue  : (l'.channels.get c).queue.map (·.msg) = (l.channels.get c).queue.map (·.msg) ++ ms
  slot   : (l'.channels.get c).slot = (l.channels.get c).slot
  counts : (l'.channels.get c).counts = (l.channels.get c).counts
  others : ∀ d, d ≠ c → l'.channels.get d = l.channels.get d
  rest   : { l' with channels := l.channels, stamp := l.stamp } = l

/-- Frames queued one after another on a channel stand at its tail in their order, and nothing else changes. -/
theorem Link.pushAll_appended (ms : List OutMsg) (l : Link) {c : Nat} (h : c < 4) :
    l.Appended (ms.foldl (fun l m => l.push c m) l) c ms := by
  induction ms generalizing l with
  | nil => exact ⟨by simp, rfl, rfl, fun _ _ => rfl, rfl⟩
  | cons m ms ih =>
    obtain ⟨queue, slot, counts, others, rest⟩ := ih (l.push c m)
    refine ⟨?_, slot.trans (l.slot_push c c m), counts.trans (l.push_counts c c m),
      fun d hd => (others d hd).trans (l.push_get_ne (Ne.symm hd) m), ?_⟩
    · rw [List.foldl_cons, queue, l.push_queue h]; simp
    · rw [List.foldl_cons]
      exact congrArg (fun x : Link => { x with channels := l.channels, stamp := l.stamp }) rest

/-- A reply's frames stand at the tail of channel 3, and nothing else changes (11 R195). -/
theorem Link.reply_appended (kind : Nat) (code : ReplyCode) (contents : List Byte) :
    l.Appended (l.reply kind code contents) 3 (replyFrames kind code contents) :=
  Link.pushAll_appended _ l (by decide)

/-- The parts of a reply, put together, are its contents (11 R195). -/
theorem replyParts_flatten (contents : List Byte) : (replyParts contents).flatten = contents := by
  unfold replyParts
  split
  · simp
  · split
    · simp
    · have h : (contents.drop 27).drop 27 = contents.drop 54 := by rw [List.drop_drop]
      simp only [Config.replyRoom, List.flatten_cons, List.flatten_nil, List.append_nil]
      rw [← h, List.take_append_drop, List.take_append_drop]

/-- No part of a reply is longer than a frame's room (11 R195). -/
theorem replyParts_fit {contents : List Byte} (h : contents.length ≤ 81) :
    ∀ p ∈ replyParts contents, p.length ≤ 27 := by
  unfold replyParts
  simp only [Config.replyRoom]
  split
  · simpa using ‹_›
  · split
    · simp; omega
    · simp; omega

end Sys2Proof.Machine
end

section
/-! PROOFS. Every query only queues its reply (11 R195, R196). -/

namespace Sys2Proof.Machine

variable {s : State}

/-! ### RACK QUERY (02 R43) -/

theorem State.rackQueryReply_badValue {id index : Nat} (h : ¬(1 ≤ id ∧ id ≤ 65534 ∧ index ≤ 12)) :
    s.rackQueryReply id index = (.badValue, []) := by
  have hbad : (rackIdOk id && decide (index ≤ 12)) = false := by
    rw [Bool.eq_false_iff, ne_eq, Bool.and_eq_true, rackIdOk_iff, decide_eq_true_eq, and_assoc]; exact h
  simp only [State.rackQueryReply, hbad, Bool.not_false, if_true]

theorem State.rackQueryReply_rack {id index slot : Nat} {r : Rack} (h1 : 1 ≤ id) (h2 : id ≤ 65534) (hi : index ≤ 12)
    (hs : s.slotOf id = some slot) (hr : s.racks.get slot = some r) :
    s.rackQueryReply id index = (.ok, s.rackReply slot r index) := by
  simp [State.rackQueryReply, rackIdOk, h1, h2, hi, hs, hr]

/-- The entry of an id is the first of the queue that carries it (02 R43). -/
theorem State.rackQueryReply_entry {id index place : Nat} {e : QueueEntry} (h1 : 1 ≤ id) (h2 : id ≤ 65534)
    (hi : index ≤ 12) (hs : s.slotOf id = none) (he : s.queue[place]? = some e) (hid : e.id = id)
    (hfirst : ∀ j < place, s.queue[j]?.map (·.id) ≠ some id) :
    s.rackQueryReply id index = (.ok, e.reply (place + 1)) := by
  obtain ⟨hp, hget⟩ := List.getElem?_eq_some_iff.mp he
  have found : s.queue.zipIdx.find? (fun p => decide (p.1.id = id)) = some (e, place) := by
    refine List.find?_eq_some_iff_getElem.mpr ⟨by simpa using hid, place, by simpa using hp, by simp [hget], ?_⟩
    intro j hj
    have hne := hfirst j hj
    rw [List.getElem?_eq_getElem (hj.trans hp)] at hne
    simpa using hne
  simp [State.rackQueryReply, rackIdOk, h1, h2, hi, hs, found]

theorem State.rackQueryReply_unknown {id index : Nat} (h1 : 1 ≤ id) (h2 : id ≤ 65534) (hi : index ≤ 12)
    (hs : s.slotOf id = none) (hq : ∀ x ∈ s.queue, x.id ≠ id) : s.rackQueryReply id index = (.unknown, []) := by
  have missing : s.queue.zipIdx.find? (fun p => decide (p.1.id = id)) = none := by
    refine List.find?_eq_none.mpr (fun p hp => ?_)
    simpa using hq p.1 (List.fst_mem_of_mem_zipIdx hp)
  simp [State.rackQueryReply, rackIdOk, h1, h2, hi, hs, missing]

theorem exec_rackQuery (h : s.TakesRequests) {id index : Nat} {code : ReplyCode} {contents : List Byte}
    (e : s.rackQueryReply id index = (code, contents)) :
    exec (.rackQuery id index) s = .next (s.reply 0x44 code contents) := by
  have hr : exec (.rackQuery id index) s =
      .next (s.reply 0x44 (s.rackQueryReply id index).1 (s.rackQueryReply id index).2) := exec_query_replies h rfl rfl
  rw [hr, e]

/-! ### The other queries -/

theorem exec_stationQuery (h : s.TakesRequests) (n : Nat) : exec (.stationQuery n) s =
    .next (if n ≤ 31 then s.reply 0x46 .ok (s.stationReply n) else s.reply 0x46 .badValue []) := by
  refine exec_query_checked h rfl ?_
  simp only [handleRequest, handleStationQuery, stationOk_iff]
  rfl

theorem exec_bathQuery (h : s.TakesRequests) (n : Nat) : exec (.bathQuery n) s =
    .next (if n ≤ 7 then s.reply 0x4A .ok (s.baths.get n).reply else s.reply 0x4A .badValue []) := by
  refine exec_query_checked h rfl ?_
  simp only [handleRequest, handleBathQuery, bathOk_iff]
  rfl

theorem exec_recipeQuery (h : s.TakesRequests) (n k : Nat) : exec (.recipeQuery n k) s =
    .next (if n ≤ 15 ∧ k ≤ 12 then s.reply 0x4E .ok (s.recipeReply n k) else s.reply 0x4E .badValue []) := by
  refine exec_query_checked h rfl ?_
  simp only [handleRequest, handleRecipeQuery, Bool.and_eq_true, recipeOk_iff, decide_eq_true_eq]
  rfl

theorem exec_agitationQuery (h : s.TakesRequests) (n k : Nat) : exec (.agitationQuery n k) s =
    .next (if n ≤ 7 ∧ k ≤ 1 then s.reply 0x58 .ok (s.agitationReply n k) else s.reply 0x58 .badValue []) := by
  refine exec_query_checked h rfl ?_
  simp only [handleRequest, handleAgitationQuery, Bool.and_eq_true, bathOk_iff, decide_eq_true_eq]
  rfl

/-- The notices-dropped indication cleared, as LINE QUERY does after its reply (09 R170). -/
def State.clearDropped (s : State) : State := { s with link := { s.link with dropped := false } }

theorem State.clearDropped_setRequestSlot (s : State) (f : Option SlotFrame) :
    s.clearDropped.setRequestSlot f = (s.setRequestSlot f).clearDropped := rfl

theorem handleRequest_lineQuery (s : State) :
    handleRequest .lineQuery s = (s.reply 0x5F .ok s.lineReply).clearDropped := rfl

theorem State.lineReply_setRequestSlot (s : State) (f : Option SlotFrame) :
    (s.setRequestSlot f).lineReply = s.lineReply := rfl

/-- LINE QUERY clears the notices-dropped indication after its reply (09 R170). -/
theorem exec_lineQuery (h : s.TakesRequests) : exec .lineQuery s =
    .next { s with link := { s.link.reply 0x5F .ok s.lineReply with dropped := false } } := by
  rw [exec_query_taken h rfl, handleRequest_lineQuery, State.clearDropped_setRequestSlot,
    State.lineReply_setRequestSlot, State.reply_within h.2.1, State.clearDropped, State.reply]

theorem exec_ioQuery_input (h : s.TakesRequests) (n : Nat) : exec (.ioQuery (some .input) n) s =
    .next (if n ≤ 34 then s.reply 0x63 .ok (s.inputReply n) else s.reply 0x63 .badValue []) := by
  refine exec_query_checked h rfl ?_
  simp only [handleRequest, handleIoQuery, Config.inputs, Nat.lt_succ_iff]
  rfl

theorem exec_ioQuery_output (h : s.TakesRequests) (n : Nat) : exec (.ioQuery (some .output) n) s =
    .next (if n ≤ 34 then s.reply 0x63 .ok (s.outputReply n) else s.reply 0x63 .badValue []) := by
  refine exec_query_checked h rfl ?_
  simp only [handleRequest, handleIoQuery, Config.outputs, Nat.lt_succ_iff]
  rfl

/-- LINK QUERY shows its channel with the query itself in channel 3's slot (11 R196; log 39). -/
theorem exec_linkQuery (h : s.TakesRequests) (n : Nat) : exec (.linkQuery n) s =
    .next (if n ≤ 3 then
      s.reply 0x64 .ok (({ s with link := s.link.setSlot 3 (some (.good (.linkQuery n))) } : State).linkReply n)
    else s.reply 0x64 .badValue []) := by
  refine exec_query_checked h rfl ?_
  simp only [handleRequest, handleLinkQuery, Config.channels, Nat.lt_succ_iff]
  rfl

/-- Settles O13: each query by its own equation; a reply, a message and a notice by what they do to the link. -/
theorem queriesOnlyReply : Obligations.QueriesOnlyReply := by
  refine ⟨fun s id index n k slot place r e h => ⟨fun hbad => ?_, fun h1 h2 hi => ⟨fun hs hr => ?_,
      fun hs he hid hfirst => ?_, fun hs hq => ?_⟩, exec_stationQuery h n, exec_bathQuery h n, exec_recipeQuery h n k⟩,
    fun s x n k h => ⟨exec_query_checked h rfl rfl, exec_query_replies h rfl rfl, exec_query_replies h rfl rfl,
      exec_query_replies h rfl rfl, exec_agitationQuery h n k⟩,
    fun s n h => ⟨exec_lineQuery h, exec_ioQuery_input h n, exec_ioQuery_output h n, exec_query_replies h rfl rfl,
      exec_linkQuery h n⟩,
    fun s kind code contents => ?reply, fun l c m hc => ?message⟩
  · exact exec_rackQuery h (State.rackQueryReply_badValue hbad)
  · exact exec_rackQuery h (State.rackQueryReply_rack h1 h2 hi hs hr)
  · exact exec_rackQuery h (State.rackQueryReply_entry h1 h2 hi hs he hid hfirst)
  · exact exec_rackQuery h (State.rackQueryReply_unknown h1 h2 hi hs hq)
  case reply =>
    obtain ⟨queue, slot, counts, others, rest⟩ := s.link.reply_appended kind code contents
    exact ⟨queue, replyParts_fit, replyParts_flatten contents, rfl, rest, slot, counts,
      fun c hc => others c (Nat.ne_of_lt hc)⟩
  case message =>
    have room : l.held 3 + 3 < 8 ↔ (l.channels.get 3).queue.length < 5 := by unfold Link.held; omega
    exact ⟨rfl, by simp only [Link.notify, Config.replyPlaces, Config.orderPlaces, room]; rfl⟩

end Sys2Proof.Machine
end

section
/-! PROOFS. STATION SET, BATH SET, BATH TABLE SET and the writing of recipes (01 R4 to R6, R10, R11, R15 to R17). -/

namespace Sys2Proof.Machine

variable {s : State}

/-! ### Slots and queues around a notice (11 R191, R192) -/

theorem Link.slot_count (l : Link) (c d : Nat) (f : Counts → Counts) : (l.count c f).slot d = l.slot d :=
  Table.modify_same Channel.slot (f := fun ch => { ch with counts := f ch.counts }) (fun _ => rfl) _ c d

theorem Link.slot_lose (l : Link) (c d : Nat) : (l.lose c).slot d = l.slot d := l.slot_count c d _

theorem Link.slot_notify (l : Link) (m : OutMsg) (d : Nat) : (l.notify m).slot d = l.slot d := by
  unfold Link.notify
  split
  · exact l.slot_push 3 d m
  · exact l.slot_lose 3 d

theorem State.notify_setRequestSlot (s : State) (f : Option SlotFrame) (m : OutMsg) :
    (s.setRequestSlot f).notify m = (s.notify m).setRequestSlot f := by
  simp only [State.notify, State.setRequestSlot, Link.notify_setSlot]

/-! ### STATION SET (01 R4 to R6) -/

theorem readStationFields_some {n bath : Nat} {k : StationKind} {se sv : Bool} (hn : n ≤ 31) (hb : bath ≤ 7)
    (hk : ¬(k = .unused ∧ sv = true)) : readStationFields n (some k) bath (some se) (some sv) = some (k, se, sv) := by
  have hn' := (stationOk_iff n).mpr hn
  have hb' := (bathOk_iff bath).mpr hb
  simpa [readStationFields, hn', hb'] using hk

theorem readStationFields_none {n bath : Nat} {kind : Option StationKind} {sensing inService : Option Bool}
    (h : kind = none ∨ sensing = none ∨ inService = none ∨ 31 < n ∨ 7 < bath ∨
      (kind = some .unused ∧ inService = some true)) : readStationFields n kind bath sensing inService = none := by
  unfold readStationFields
  split
  · next k se sv =>
    refine if_neg (fun hok => ?_)
    simp only [Bool.and_eq_true, stationOk_iff, bathOk_iff, Bool.not_eq_true', Bool.and_eq_false_iff,
      decide_eq_false_iff_not] at hok
    obtain ⟨⟨hn, hb⟩, hk⟩ := hok
    simp only [reduceCtorEq, Option.some.injEq, false_or] at h
    obtain h | h | ⟨rfl, rfl⟩ := h
    · omega
    · omega
    · simp at hk
  · rfl

/-- The occupancy after a change of seat sensing, case by case (01 R6). -/
theorem sensedOccupancy_eq (occ : Occupancy) (was now level : Bool) : sensedOccupancy occ was now level =
    if was = false ∧ now = true ∧ occ = .empty ∧ level = true then .foreign
    else if was = true ∧ now = false ∧ occ = .foreign then .empty else occ := by
  cases was <;> cases now <;> simp [sensedOccupancy]

/-- A station becomes FOREIGN by a STATION SET that turns its seat sensing on (01 R6). -/
def State.BecomesForeign (s : State) (n : Nat) (se : Bool) : Prop :=
  (s.stations.get n).sensing = false ∧ se = true ∧ (s.stations.get n).occ = .empty ∧ s.level n = true

/-- The occupancy that STATION SET writes where the station does not become FOREIGN (01 R6). -/
def Station.sensedOcc (x : Station) (se : Bool) : Occupancy :=
  if x.sensing = true ∧ se = false ∧ x.occ = .foreign then .empty else x.occ

theorem State.writeStation_foreign {n bath : Nat} {k : StationKind} {se sv : Bool} (hn : n < 32)
    (hf : s.BecomesForeign n se) : s.writeStation n k bath se sv =
      { s with
        stations := s.stations.set n
          { kind := k, bath := if k = .bath then bath else 0, sensing := se, inService := sv, occ := .foreign }
        link := s.link.notify (.station n .foreign .foreign) } := by
  have hocc := (sensedOccupancy_eq (s.stations.get n).occ (s.stations.get n).sensing se (s.level n)).trans (if_pos hf)
  have he : (s.stations.get n).occ ≠ .foreign := by rw [hf.2.2.1]; decide
  simp only [State.writeStation, hocc, he, State.stationNotice, State.setStation, Table.get_set_self _ hn, State.notify,
    not_false_eq_true, and_self, if_true, ne_eq]

theorem State.writeStation_other {n bath : Nat} {k : StationKind} {se sv : Bool} (hf : ¬s.BecomesForeign n se) :
    s.writeStation n k bath se sv =
      { s with
        stations := s.stations.set n
          { kind := k, bath := if k = .bath then bath else 0, sensing := se, inService := sv,
            occ := (s.stations.get n).sensedOcc se } } := by
  have hocc := (sensedOccupancy_eq (s.stations.get n).occ (s.stations.get n).sensing se (s.level n)).trans (if_neg hf)
  have hsame : ¬((s.stations.get n).sensedOcc se = .foreign ∧ (s.stations.get n).occ ≠ .foreign) := by
    unfold Station.sensedOcc
    split
    · simp
    · exact fun h => h.2 h.1
  unfold State.writeStation
  dsimp only
  rw [hocc]
  exact if_neg hsame

theorem State.writeStation_setRequestSlot (s : State) (f : Option SlotFrame) (n : Nat) (k : StationKind) (b : Nat)
    (se sv : Bool) : (s.setRequestSlot f).writeStation n k b se sv = (s.writeStation n k b se sv).setRequestSlot f := by
  refine Eq.trans ?_ (apply_ite (fun t : State => t.setRequestSlot f) _ _ _).symm
  exact if_congr Iff.rfl (State.notify_setRequestSlot (s.setStation n _) f _) rfl

theorem State.writeStation_slot (s : State) (n : Nat) (k : StationKind) (b : Nat) (se sv : Bool) :
    (s.writeStation n k b se sv).link.slot 3 = s.link.slot 3 := by
  unfold State.writeStation
  dsimp only
  split
  · exact Link.slot_notify _ _ _
  · rfl

theorem exec_stationSet_badValue (h : s.TakesRequests) {n bath : Nat} {kind : Option StationKind}
    {sensing inService : Option Bool} (hbad : readStationFields n kind bath sensing inService = none) :
    exec (.stationSet n kind bath sensing inService) s = .next (s.reply 0x45 .badValue []).driveOutputs :=
  exec_request_replies h rfl rfl h.2.1 (by simp only [handleRequest, handleStationSet, hbad])

theorem exec_stationSet_standby (h : s.TakesRequests) (hst : s.line.st = .standby) {n bath : Nat} {k : StationKind}
    {se sv : Bool} (hr : readStationFields n (some k) bath (some se) (some sv) = some (k, se, sv)) :
    exec (.stationSet n (some k) bath (some se) (some sv)) s =
      .next ((s.writeStation n k bath se sv).reply 0x45 .ok []).driveOutputs :=
  exec_request_replies h rfl rfl ((s.writeStation_slot n k bath se sv).trans h.2.1)
    (by simp only [handleRequest, handleStationSet, hr, State.setRequestSlot_line, hst,
      State.writeStation_setRequestSlot])

/-- The only STATION SET that RUN and HOLD take (01 R5). -/
theorem Station.takenOut_iff (x : Station) (k : StationKind) (bath : Nat) (se sv : Bool) :
    x.takenOut k bath se sv = true ↔ k = x.kind ∧ bath = x.bath ∧ se = x.sensing ∧ sv = false := by
  simp [Station.takenOut, and_assoc]

theorem exec_stationSet_halt (h : s.TakesRequests) (hst : s.line.st = .halt) {n bath : Nat} {k : StationKind}
    {se sv : Bool} (hr : readStationFields n (some k) bath (some se) (some sv) = some (k, se, sv)) :
    exec (.stationSet n (some k) bath (some se) (some sv)) s = .next (s.reply 0x45 .wrongState []).driveOutputs :=
  exec_request_replies h rfl rfl h.2.1
    (by simp only [handleRequest, handleStationSet, hr, State.setRequestSlot_line, hst])

/-- In RUN and HOLD a request of any other form is WRONG_STATE, and a station that is not EMPTY is BUSY (01 R5). -/
theorem exec_stationSet_moving (h : s.TakesRequests) (hst : s.line.st = .run ∨ s.line.st = .hold) {n bath : Nat}
    {k : StationKind} {se sv : Bool} (hr : readStationFields n (some k) bath (some se) (some sv) = some (k, se, sv)) :
    exec (.stationSet n (some k) bath (some se) (some sv)) s = .next (State.driveOutputs
      (if ¬(s.stations.get n).takenOut k bath se sv = true then s.reply 0x45 .wrongState []
       else if (s.stations.get n).occ ≠ .empty then s.reply 0x45 .busy []
       else (s.setStation n { s.stations.get n with inService := false }).reply 0x45 .ok [])) := by
  have moving (t : State) (ht : t.line.st = .run ∨ t.line.st = .hold) :
      handleStationSet n (some k) bath (some se) (some sv) t =
        if ¬(t.stations.get n).takenOut k bath se sv = true then t.reply 0x45 .wrongState []
        else if (t.stations.get n).occ ≠ .empty then t.reply 0x45 .busy []
        else (t.setStation n { t.stations.get n with inService := false }).reply 0x45 .ok [] := by
    obtain e | e := ht <;> simp [handleStationSet, hr, e]
  have handled := moving (s.setRequestSlot (some (.good (.stationSet n (some k) bath (some se) (some sv))))) hst
  by_cases hto : (s.stations.get n).takenOut k bath se sv = true
  · rw [if_neg (not_not_intro hto)]
    by_cases hocc : (s.stations.get n).occ = .empty
    · rw [if_neg (not_not_intro hocc)]
      refine exec_request_replies (t := s.setStation n { s.stations.get n with inService := false }) h rfl rfl h.2.1 ?_
      exact handled.trans ((if_neg (not_not_intro hto)).trans (if_neg (not_not_intro hocc)))
    · rw [if_pos hocc]
      exact exec_request_replies h rfl rfl h.2.1 (handled.trans ((if_neg (not_not_intro hto)).trans (if_pos hocc)))
  · rw [if_pos hto]
    exact exec_request_replies h rfl rfl h.2.1 (handled.trans (if_pos hto))

/-- Settles O14: the values are read first, then the line state decides. -/
theorem stationSetByLineState : Obligations.StationSetByLineState := by
  refine ⟨fun s n bath kind sensing inService k se sv h => ⟨fun hbad => exec_stationSet_badValue h
    (readStationFields_none hbad), fun hst hn hb hk => ?standby⟩, fun s n bath k se sv h hst hn hb hk => ?other⟩
  case standby =>
    rw [exec_stationSet_standby h hst (readStationFields_some hn hb hk)]
    dsimp only
    by_cases hf : s.BecomesForeign n se
    · rw [State.writeStation_foreign (by omega) hf]
      unfold State.BecomesForeign at hf
      simp only [if_pos hf]
    · rw [State.writeStation_other hf]
      unfold State.BecomesForeign at hf
      simp only [if_neg hf]
      rfl
  case other =>
    have hr := readStationFields_some (se := se) hn hb hk
    have hto := Station.takenOut_iff (s.stations.get n) k bath se sv
    have moving (hm : s.line.st = .run ∨ s.line.st = .hold) := exec_stationSet_moving h hm hr
    dsimp only
    cases hst' : s.line.st with
    | standby => exact absurd hst' hst
    | halt => rw [if_pos (.inl rfl)]; exact exec_stationSet_halt h hst' hr
    | run => rw [moving (.inl hst')]; simp only [hto, reduceCtorEq, false_or, State.setStation]
    | hold => rw [moving (.inr hst')]; simp only [hto, reduceCtorEq, false_or, State.setStation]

end Sys2Proof.Machine
end

section
/-! PROOFS. BATH SET, BATH TABLE SET and the writing of recipes (01 R10, R11, R13 to R17). -/

namespace Sys2Proof.Machine

variable {s : State}

/-! ### Baths (01 R10, R11, 03 R53) -/

theorem bathFieldsOk_iff (b tRef rho slope threshold : Nat) : bathFieldsOk b tRef rho slope threshold = true ↔
    b ≤ 7 ∧ 150 ≤ tRef ∧ tRef ≤ 300 ∧ rho ≤ 2000 ∧ slope ≤ 255 ∧ threshold ≤ 65535 := by
  simp only [bathFieldsOk, Bool.and_eq_true, bathOk_iff, decide_eq_true_eq, and_assoc]

theorem pointsOk_iff {b : Nat} {points : List Nat} (h : points.length = 9) :
    pointsOk b points = true ↔ b ≤ 7 ∧ ∀ p ∈ points, 256 ≤ p ∧ p ≤ 4095 := by
  simp [pointsOk, bathOk_iff, h]

/-- Settles O15: the fields are checked together, and written together with the record they give. -/
theorem bathSetWritesAndComputes : Obligations.BathSetWritesAndComputes := by
  intro s b tRef rho slope threshold h
  by_cases hok : bathFieldsOk b tRef rho slope threshold = true
  · rw [if_pos ((bathFieldsOk_iff ..).mp hok)]
    exact exec_request_replies (i := .bathSet b tRef rho slope threshold)
      (t := s.setBath b ({ s.baths.get b with
        tRef := tRef, rho := rho, slope := slope, threshold := threshold } : Bath).computePending)
      h rfl rfl h.2.1 (if_pos hok)
  · rw [if_neg (mt (bathFieldsOk_iff ..).mpr hok)]
    exact exec_request_replies h rfl rfl h.2.1 (if_neg hok)

/-- Settles O16: the nine points are checked together, and written together with the record they give. -/
theorem bathTableSetReplacesAll : Obligations.BathTableSetReplacesAll := by
  intro s b points h hlen
  by_cases hok : pointsOk b points = true
  · rw [if_pos ((pointsOk_iff hlen).mp hok)]
    exact exec_request_replies (i := .bathTableSet b points)
      (t := s.setBath b ({ s.baths.get b with points := points } : Bath).computePending) h rfl rfl h.2.1 (if_pos hok)
  · rw [if_neg (mt (pointsOk_iff hlen).mpr hok)]
    exact exec_request_replies h rfl rfl h.2.1 (if_neg hok)

/-! ### RECIPE OPEN (01 R15) -/

theorem recipeOk_false {n : Nat} (h : 15 < n) : recipeOk n = false := by
  rw [Bool.eq_false_iff, ne_eq, recipeOk_iff]; omega

theorem handleRecipeOpen_badValue {n : Nat} (hn : 15 < n) : handleRecipeOpen n s = s.reply 0x4B .badValue [] := by
  simp [handleRecipeOpen, recipeOk_false hn]

theorem handleRecipeOpen_inUse {n : Nat} (hn : n ≤ 15)
    (hu : (s.recipes.get n).st = .ready ∧ 0 < (s.recipes.get n).refs) :
    handleRecipeOpen n s = s.reply 0x4B .inUse [] := by
  simp [handleRecipeOpen, (recipeOk_iff n).mpr hn, hu]

theorem handleRecipeOpen_taken {n : Nat} (hn : n ≤ 15)
    (hu : ¬((s.recipes.get n).st = .ready ∧ 0 < (s.recipes.get n).refs)) : handleRecipeOpen n s =
      (s.setRecipe n { s.recipes.get n with st := .writing, steps := [] }).reply 0x4B .ok [] := by
  simp only [handleRecipeOpen, (recipeOk_iff n).mpr hn, Bool.not_true, Bool.false_eq_true, if_false]
  exact if_neg hu

theorem exec_recipeOpen (h : s.TakesRequests) (n : Nat) : exec (.recipeOpen n) s = .next (State.driveOutputs
    (if 15 < n then s.reply 0x4B .badValue []
     else if (s.recipes.get n).st = .ready ∧ 0 < (s.recipes.get n).refs then s.reply 0x4B .inUse []
     else (s.setRecipe n { s.recipes.get n with st := .writing, steps := [] }).reply 0x4B .ok [])) := by
  by_cases hn : 15 < n
  · rw [if_pos hn]
    exact exec_request_replies h rfl rfl h.2.1 (handleRecipeOpen_badValue hn)
  · rw [if_neg hn]
    have hn' : n ≤ 15 := Nat.le_of_not_lt hn
    by_cases hu : (s.recipes.get n).st = .ready ∧ 0 < (s.recipes.get n).refs
    · rw [if_pos hu]
      exact exec_request_replies h rfl rfl h.2.1 (handleRecipeOpen_inUse hn' hu)
    · rw [if_neg hu]
      exact exec_request_replies (i := .recipeOpen n)
        (t := s.setRecipe n { s.recipes.get n with st := .writing, steps := [] }) h rfl rfl h.2.1
        (handleRecipeOpen_taken hn' hu)

/-! ### STEP SET (01 R13, R16) -/

theorem readStep_none {f : StepFields}
    (h : f.comp = none ∨ f.adjustable = none ∨ f.cls = none ∨ f.agitate = none ∨
      ¬(f.bath ≤ 7 ∧ 1 ≤ f.nominal ∧ f.nominal ≤ 36000 ∧ f.tolerance ≤ 65535 ∧ f.drain ≤ 255)) : readStep f = none := by
  unfold readStep
  split
  · next hc ha hl hg =>
    refine if_neg (fun hok => ?_)
    simp only [Bool.and_eq_true, bathOk_iff, decide_eq_true_eq, and_assoc] at hok
    obtain ⟨hb, h1, hn, ht, hd⟩ := hok
    simp only [hc, ha, hl, hg, reduceCtorEq, false_or] at h
    exact h ⟨hb, h1, hn, ht, hd⟩
  · rfl

theorem readStep_some {bath nominal tolerance drain : Nat} {c : Compensation} {ad ag : Bool} {cl : StepClass}
    (h : bath ≤ 7 ∧ 1 ≤ nominal ∧ nominal ≤ 36000 ∧ tolerance ≤ 65535 ∧ drain ≤ 255) :
    readStep { bath := bath, nominal := nominal, comp := some c, adjustable := some ad, cls := some cl,
               tolerance := tolerance, drain := drain, agitate := some ag } =
      some { bath := bath, nominal := nominal, comp := c, adjustable := ad, cls := cl, tolerance := tolerance,
             drain := drain, agitate := ag } := by
  refine if_pos ?_
  simpa only [Bool.and_eq_true, bathOk_iff, decide_eq_true_eq, and_assoc] using h

theorem putStep_eq {steps : List RecipeStep} {k : Nat} (h : k ≤ steps.length + 1) (st : RecipeStep) :
    putStep steps k st = if k = steps.length + 1 then steps ++ [st] else steps.set (k - 1) st := by
  unfold putStep
  by_cases hk : k = steps.length + 1
  · rw [if_pos hk, if_neg (by omega)]
  · rw [if_neg hk, if_pos (by omega)]

theorem handleStepSet_noRecipe {n : Nat} (hn : 15 < n) (k : Nat) (f : StepFields) :
    handleStepSet n k f s = s.reply 0x4C .badValue [] := by
  simp [handleStepSet, recipeOk_false hn]

theorem handleStepSet_wrongState {n : Nat} (hn : n ≤ 15) (hst : (s.recipes.get n).st ≠ .writing) (k : Nat)
    (f : StepFields) : handleStepSet n k f s = s.reply 0x4C .wrongState [] := by
  simp [handleStepSet, (recipeOk_iff n).mpr hn, hst]

/-- Checks 3 and 4 of R16: the step's number, then its fields. -/
theorem handleStepSet_badValue {n k : Nat} {f : StepFields} (hn : n ≤ 15) (hst : (s.recipes.get n).st = .writing)
    (hbad : (k = 0 ∨ 12 < k ∨ (s.recipes.get n).steps.length + 1 < k) ∨ readStep f = none) :
    handleStepSet n k f s = s.reply 0x4C .badValue [] := by
  simp only [handleStepSet, (recipeOk_iff n).mpr hn, hst, Bool.not_true, Bool.false_eq_true, if_false, ne_eq,
    not_true_eq_false]
  split
  · rfl
  · next hk => rw [hbad.resolve_left hk]

theorem handleStepSet_taken {n k : Nat} {f : StepFields} {st : RecipeStep} (hn : n ≤ 15)
    (hst : (s.recipes.get n).st = .writing) (h1 : 1 ≤ k) (h12 : k ≤ 12)
    (hk : k ≤ (s.recipes.get n).steps.length + 1) (hf : readStep f = some st) :
    handleStepSet n k f s = (s.setRecipe n { s.recipes.get n with
      steps := if k = (s.recipes.get n).steps.length + 1 then (s.recipes.get n).steps ++ [st]
               else (s.recipes.get n).steps.set (k - 1) st }).reply 0x4C .ok [] := by
  have hok : ¬(k = 0 ∨ 12 < k ∨ (s.recipes.get n).steps.length + 1 < k) := by omega
  simp only [handleStepSet, (recipeOk_iff n).mpr hn, hst, Bool.not_true, Bool.false_eq_true, if_false, ne_eq,
    not_true_eq_false, Config.maxSteps, hok, hf, putStep_eq hk]

/-! ### RECIPE CLOSE (01 R17) -/

/-- Some record of a table has a property exactly where the record of some number has it. -/
theorem Table.any_toList {α : Type} {n : Nat} [Inhabited α] (t : Table α n) (p : α → Bool) :
    t.toList.any p = (List.range n).any (fun i => p (t.get i)) := by
  have hl : t.toList = (List.range n).map t.get := by
    refine List.ext_getElem (by simp [t.size]) (fun i h1 h2 => ?_)
    simp [Table.get, h1]
  rw [hl, List.any_map]; rfl

/-- Step j of a list has a BATH station in service for its bath (01 R17). -/
def State.servedAt (s : State) (steps : List RecipeStep) (j : Nat) : Bool :=
  (List.range 32).any (fun m => decide ((s.stations.get m).kind = .bath) &&
    decide (some (s.stations.get m).bath = steps[j]?.map (·.bath)) && (s.stations.get m).inService)

/-- Step j of a list names the bath of the step before it (01 R17). -/
def repeatedAt (steps : List RecipeStep) (j : Nat) : Bool :=
  decide (0 < j) && decide (steps[j - 1]?.map (·.bath) = steps[j]?.map (·.bath))

/-- The bath of the step before step j, none for the first (01 R17). -/
def bathBefore (steps : List RecipeStep) (j : Nat) : Option Nat := if j = 0 then none else steps[j - 1]?.map (·.bath)

theorem State.servedAt_eq {steps : List RecipeStep} {j : Nat} (hj : j < steps.length) :
    s.servedAt steps j = s.bathServed steps[j].bath := by
  unfold State.servedAt State.bathServed
  rw [Table.any_toList]
  simp [List.getElem?_eq_getElem hj]

theorem repeatedAt_iff {steps : List RecipeStep} {j : Nat} (hj : j < steps.length) :
    repeatedAt steps j = true ↔ bathBefore steps j = some steps[j].bath := by
  cases j with
  | zero => simp [repeatedAt, bathBefore]
  | succ j => simp [repeatedAt, bathBefore, List.getElem?_eq_getElem hj]

/-- The validation from step j on, by what step j says (01 R17). -/
theorem State.failingStep_drop {steps : List RecipeStep} {j : Nat} (hj : j < steps.length) (k : Nat) :
    s.failingStep k (bathBefore steps j) (steps.drop j) =
      if s.servedAt steps j = false then some (k, .noStation)
      else if repeatedAt steps j = true then some (k, .repeatedBath)
      else s.failingStep (k + 1) (bathBefore steps (j + 1)) (steps.drop (j + 1)) := by
  have next : bathBefore steps (j + 1) = some steps[j].bath := by
    simp [bathBefore, List.getElem?_eq_getElem hj]
  rw [List.drop_eq_getElem_cons hj, State.failingStep, next]
  simp only [State.servedAt_eq hj, repeatedAt_iff hj, Bool.not_eq_true']

/-- Steps that do not fail are passed over (01 R17). -/
theorem State.failingStep_skip {steps : List RecipeStep} {m : Nat} (hm : m ≤ steps.length)
    (ok : ∀ j < m, s.servedAt steps j = true ∧ repeatedAt steps j = false) :
    s.failingStep 1 none steps = s.failingStep (m + 1) (bathBefore steps m) (steps.drop m) := by
  induction m with
  | zero => rfl
  | succ m ih =>
    obtain ⟨served, fresh⟩ := ok m (Nat.lt_succ_self m)
    rw [ih (by omega) (fun j hj => ok j (by omega)), State.failingStep_drop (by omega)]
    simp [served, fresh]

/-- The first step that fails is told with its number and its reason (01 R17). -/
theorem State.closeFailure_first {steps : List RecipeStep} {k : Nat} (hk : k < steps.length)
    (ok : ∀ j < k, s.servedAt steps j = true ∧ repeatedAt steps j = false) :
    (s.servedAt steps k = false → s.closeFailure steps = some (k + 1, .noStation)) ∧
      (s.servedAt steps k = true → repeatedAt steps k = true →
        s.closeFailure steps = some (k + 1, .repeatedBath)) := by
  have hne : steps ≠ [] := List.ne_nil_of_length_pos (by omega)
  have first : s.closeFailure steps = s.failingStep (k + 1) (bathBefore steps k) (steps.drop k) :=
    (if_neg hne).trans (State.failingStep_skip (Nat.le_of_lt hk) ok)
  rw [first, State.failingStep_drop hk]
  exact ⟨fun hs => by simp [hs], fun hs hr => by simp [hs, hr]⟩

/-- A recipe no step of which fails (01 R17). -/
theorem State.closeFailure_none {steps : List RecipeStep} (hne : steps ≠ [])
    (ok : ∀ j < steps.length, s.servedAt steps j = true ∧ repeatedAt steps j = false) :
    s.closeFailure steps = none := by
  refine (if_neg hne).trans ?_
  rw [State.failingStep_skip le_rfl ok, List.drop_length]
  rfl

theorem handleRecipeClose_noRecipe {n : Nat} (hn : 15 < n) : handleRecipeClose n s = s.reply 0x4D .badValue [] := by
  simp [handleRecipeClose, recipeOk_false hn]

theorem handleRecipeClose_wrongState {n : Nat} (hn : n ≤ 15) (hst : (s.recipes.get n).st ≠ .writing) :
    handleRecipeClose n s = s.reply 0x4D .wrongState [] := by
  simp [handleRecipeClose, (recipeOk_iff n).mpr hn, hst]

theorem handleRecipeClose_fails {n k : Nat} {why : CloseReason} (hn : n ≤ 15) (hst : (s.recipes.get n).st = .writing)
    (hf : s.closeFailure (s.recipes.get n).steps = some (k, why)) :
    handleRecipeClose n s = s.reply 0x4D .badValue (u8 k ++ u8 why.code) := by
  simp [handleRecipeClose, (recipeOk_iff n).mpr hn, hst, hf]

theorem handleRecipeClose_taken {n : Nat} (hn : n ≤ 15) (hst : (s.recipes.get n).st = .writing)
    (hf : s.closeFailure (s.recipes.get n).steps = none) : handleRecipeClose n s =
      (s.setRecipe n { s.recipes.get n with st := .ready, refs := 0 }).reply 0x4D .ok [] := by
  simp [handleRecipeClose, (recipeOk_iff n).mpr hn, hst, hf]

/-- Settles O18: each request by its handler's equations, RECIPE CLOSE with the first failing step. -/
theorem recipeWriting : Obligations.RecipeWriting := by
  refine ⟨fun s n h => exec_recipeOpen h n,
    fun s n k bath nominal tolerance drain comp adjustable agitate cls c ad ag cl h =>
      ⟨fun hn => ?_, fun hn hst => ?_, fun hn hst hbad => ?_, fun hn hst h1 h12 hk hr => ?_⟩,
    fun s n k h => ⟨fun hn => ?_, fun hn hst => ?_, fun hn hst => ⟨fun hs => ?_, fun hk _ ok => ?_, fun hne ok => ?_⟩⟩⟩
  · exact exec_request_replies h rfl rfl h.2.1 (handleStepSet_noRecipe hn _ _)
  · exact exec_request_replies h rfl rfl h.2.1 (handleStepSet_wrongState (s := s.setRequestSlot _) hn hst _ _)
  · refine exec_request_replies h rfl rfl h.2.1 (handleStepSet_badValue hn hst ?_)
    obtain h | h | h | h := hbad
    · exact .inl (.inl h)
    · exact .inl (.inr (.inl h))
    · exact .inl (.inr (.inr h))
    · exact .inr (readStep_none h)
  · exact exec_request_replies (t := s.setRecipe n { s.recipes.get n with steps := _ }) h rfl rfl h.2.1
      (handleStepSet_taken hn hst h1 h12 hk (readStep_some hr))
  · exact exec_request_replies h rfl rfl h.2.1 (handleRecipeClose_noRecipe hn)
  · exact exec_request_replies h rfl rfl h.2.1 (handleRecipeClose_wrongState hn hst)
  · exact exec_request_replies h rfl rfl h.2.1 (handleRecipeClose_fails (s := s.setRequestSlot _) hn hst (if_pos hs))
  · obtain ⟨noStation, repeatedBath⟩ :=
      State.closeFailure_first (s := s.setRequestSlot (some (.good (.recipeClose n)))) hk ok
    exact ⟨fun hs => exec_request_replies h rfl rfl h.2.1
        (handleRecipeClose_fails (s := s.setRequestSlot _) hn hst (noStation hs)),
      fun hs hr => exec_request_replies h rfl rfl h.2.1
        (handleRecipeClose_fails (s := s.setRequestSlot _) hn hst (repeatedBath hs hr))⟩
  · exact exec_request_replies (t := s.setRecipe n { s.recipes.get n with st := .ready, refs := 0 }) h rfl rfl h.2.1
      (handleRecipeClose_taken hn hst (State.closeFailure_none hne ok))

end Sys2Proof.Machine
end

section
/-! PROOFS. What LINE CLEAR's freeing of the records keeps, operation by operation (02 R35, 06 R110, R121, 11 R192). -/

namespace Sys2Proof.Machine

/-! ### Notices that stay told (11 R192) -/

/-- From l to l' channel 3's queue only grows at its tail, and the notices-dropped indication stays set. -/
structure Link.KeepsNotices (l l' : Link) : Prop where
  queue   : ∃ more, (l'.channels.get 3).queue.map (·.msg) = (l.channels.get 3).queue.map (·.msg) ++ more
  dropped : l.dropped = true → l'.dropped = true

namespace Link.KeepsNotices

variable {l l' l'' : Link}

theorem refl (l : Link) : l.KeepsNotices l := ⟨⟨[], by simp⟩, id⟩

theorem trans (h : l.KeepsNotices l') (g : l'.KeepsNotices l'') : l.KeepsNotices l'' := by
  obtain ⟨⟨m1, h1⟩, h2⟩ := h
  obtain ⟨⟨m2, g1⟩, g2⟩ := g
  exact ⟨⟨m1 ++ m2, by rw [g1, h1, List.append_assoc]⟩, g2 ∘ h2⟩

/-- Channel 3 and the indication as they were. -/
theorem of_same (hc : l'.channels.get 3 = l.channels.get 3) (hd : l'.dropped = l.dropped) : l.KeepsNotices l' :=
  ⟨⟨[], by rw [hc]; simp⟩, fun h => hd.trans h⟩

end Link.KeepsNotices

theorem Link.count_get_ne (l : Link) {c d : Nat} (h : c ≠ d) (f : Counts → Counts) :
    (l.count c f).channels.get d = l.channels.get d := by
  simp [Link.count, Table.modify, h]

theorem Link.count_queue (l : Link) (c d : Nat) (f : Counts → Counts) :
    ((l.count c f).channels.get d).queue = (l.channels.get d).queue :=
  Table.modify_same Channel.queue (f := fun ch => { ch with counts := f ch.counts }) (fun _ => rfl) _ c d

theorem Link.lose_get_ne (l : Link) {c d : Nat} (h : c ≠ d) : (l.lose c).channels.get d = l.channels.get d :=
  l.count_get_ne h _

theorem Link.lose_queue (l : Link) (c d : Nat) : ((l.lose c).channels.get d).queue = (l.channels.get d).queue :=
  l.count_queue c d _

theorem Link.send_get_ne (l : Link) {c d : Nat} (h : c ≠ d) (m : OutMsg) :
    (l.send c m).channels.get d = l.channels.get d := by
  unfold Link.send
  split
  · exact l.push_get_ne h m
  · exact l.lose_get_ne h

@[simp] theorem Link.send_engine (l : Link) (c : Nat) (m : OutMsg) : (l.send c m).engine = l.engine := by
  unfold Link.send; split <;> rfl

@[simp] theorem Link.send_dropped (l : Link) (c : Nat) (m : OutMsg) : (l.send c m).dropped = l.dropped := by
  unfold Link.send; split <;> rfl

@[simp] theorem Link.notify_engine (l : Link) (m : OutMsg) : (l.notify m).engine = l.engine := by
  unfold Link.notify; split <;> rfl

theorem Link.notify_get_ne (l : Link) {d : Nat} (h : 3 ≠ d) (m : OutMsg) :
    (l.notify m).channels.get d = l.channels.get d := by
  unfold Link.notify
  split
  · exact l.push_get_ne h m
  · exact l.lose_get_ne h

theorem Link.notify_keepsNotices (l : Link) (m : OutMsg) : l.KeepsNotices (l.notify m) := by
  unfold Link.notify
  split
  · exact ⟨⟨[m], by rw [l.push_queue (by decide)]; simp⟩, id⟩
  · exact ⟨⟨[], by rw [List.append_nil]; exact congrArg _ (l.lose_queue 3 3)⟩, fun _ => rfl⟩

theorem Link.send_keepsNotices (l : Link) {c : Nat} (h : c ≠ 3) (m : OutMsg) : l.KeepsNotices (l.send c m) :=
  .of_same (l.send_get_ne h m) (l.send_dropped c m)

theorem Link.reply_keepsNotices (l : Link) (kind : Nat) (code : ReplyCode) (contents : List Byte) :
    l.KeepsNotices (l.reply kind code contents) := by
  obtain ⟨queue, -, -, -, rest⟩ := l.reply_appended kind code contents
  exact ⟨⟨_, queue⟩, fun h => (congrArg Link.dropped rest).trans h⟩

/-- A notice told stays told while channel 3's queue only grows and the indication stays set. -/
theorem State.Told.mono {s t : State} {event : RackEvent} {slot : Nat} {r : Rack} (h : s.Told event slot r)
    (k : s.link.KeepsNotices t.link) : t.Told event slot r := by
  obtain ⟨⟨more, hq⟩, hd⟩ := k
  obtain ⟨f, hf, ht⟩ | ⟨hdrop, hheld⟩ := h
  · have mem : f.msg ∈ (t.link.channels.get 3).queue.map (·.msg) := by
      rw [hq]; exact List.mem_append_left _ (List.mem_map_of_mem hf)
    obtain ⟨g, hg, e⟩ := List.mem_map.mp mem
    exact .inl ⟨g, hg, e ▸ ht⟩
  · have len := congrArg List.length hq
    rw [List.length_append, List.length_map, List.length_map] at len
    exact .inr ⟨hd hdrop, hheld.trans (by unfold Link.held; omega)⟩

/-! ### What the clear keeps -/

/-- CANCEL for the open order of a hoist record, if any (06 R121, R128). -/
def HoistRec.openCancel (x : HoistRec) : List OutMsg :=
  match x.order with
  | some o => [.cancel o.number]
  | none => []

theorem HoistRec.openCancel_length (x : HoistRec) : x.openCancel.length ≤ 1 := by
  unfold HoistRec.openCancel; split <;> simp

/-- What a hoist's queue holds, followed by the CANCEL its open order has still to get. -/
def State.outgoing (s : State) (h : Hoist) : List OutMsg := s.queued h.channel ++ (s.hoist h).openCancel

/-- What each operation of LINE CLEAR before the clear rules of the blocks keeps, from s to t: stations but for their
occupancy, baths but for their area in flight, what the clear rule makes of each hoist, its outgoing messages while
they find room, span control, the dispatcher but for the passes owed, the notices, and the rest. -/
structure State.ClearKept (s t : State) : Prop where
  stations   : ∀ n, { t.stations.get n with occ := .empty } = { s.stations.get n with occ := .empty }
  baths      : ∀ b, { t.baths.get b with areaInFlight := 0 } = { s.baths.get b with areaInFlight := 0 }
  fits       : s.OrdersFit → t.OrdersFit
  hoists     : ∀ h, (t.hoist h).clear = (s.hoist h).clear
  outgoing   : ∀ h, (s.outgoing h).length ≤ 4 → t.outgoing h = s.outgoing h
  span       : t.span = s.span
  dispatcher : { t.dispatcher with passesOwed := 0 } = { s.dispatcher with passesOwed := 0 }
  notices    : s.link.KeepsNotices t.link
  engine     : t.link.engine = s.link.engine
  line       : t.line = s.line
  tick       : t.tick = s.tick
  seqCounter : t.seqCounter = s.seqCounter
  gens       : t.gens = s.gens
  io         : t.io = s.io

namespace State.ClearKept

variable {s t u : State}

theorem refl (s : State) : s.ClearKept s :=
  ⟨fun _ => rfl, fun _ => rfl, id, fun _ => rfl, fun _ _ => rfl, rfl, rfl, .refl _, rfl, rfl, rfl, rfl, rfl, rfl⟩

theorem trans (h : s.ClearKept t) (g : t.ClearKept u) : s.ClearKept u where
  stations n := (g.stations n).trans (h.stations n)
  baths b := (g.baths b).trans (h.baths b)
  fits f := g.fits (h.fits f)
  hoists x := (g.hoists x).trans (h.hoists x)
  outgoing x room := (g.outgoing x ((h.outgoing x room).symm ▸ room)).trans (h.outgoing x room)
  span := g.span.trans h.span
  dispatcher := g.dispatcher.trans h.dispatcher
  notices := h.notices.trans g.notices
  engine := g.engine.trans h.engine
  line := g.line.trans h.line
  tick := g.tick.trans h.tick
  seqCounter := g.seqCounter.trans h.seqCounter
  gens := g.gens.trans h.gens
  io := g.io.trans h.io

/-- Operations that write nothing the clear keeps but stations' occupancies and baths' areas. -/
theorem of_tables (st : ∀ n, { t.stations.get n with occ := .empty } = { s.stations.get n with occ := .empty })
    (ba : ∀ b, { t.baths.get b with areaInFlight := 0 } = { s.baths.get b with areaInFlight := 0 })
    (rest : t = { s with
      stations := t.stations, baths := t.baths, marks := t.marks, windows := t.windows, racks := t.racks
      recipes := t.recipes, requests := t.requests }) : s.ClearKept t := by
  rw [rest] at st ba ⊢
  exact ⟨st, ba, id, fun h => by cases h <;> rfl, fun h _ => by cases h <;> rfl, rfl, rfl, .refl _, rfl, rfl, rfl, rfl,
    rfl, rfl⟩

theorem setOcc (s : State) (n : Nat) (o : Occupancy) : s.ClearKept (s.setOcc n o) := by
  refine of_tables (fun m => ?_) (fun _ => rfl) rfl
  show { (s.stations.set n { s.stations.get n with occ := o }).get m with occ := Occupancy.empty } = _
  rw [Table.get_set]
  split
  · next h => rw [h.1]
  · rfl

theorem emptyStation (s : State) (n : Option Nat) : s.ClearKept (s.emptyStation n) := by
  cases n with
  | none => exact refl s
  | some n => exact setOcc s n .empty

theorem leaveIf (s : State) (n : Option Nat) : s.ClearKept (s.leaveIf n) := by
  cases n with
  | none => exact refl s
  | some n => exact of_tables (fun _ => rfl) (fun _ => rfl) rfl

theorem setRack (s : State) (k : Nat) (x : Option Rack) : s.ClearKept (s.setRack k x) :=
  of_tables (fun _ => rfl) (fun _ => rfl) rfl

theorem lowerRefs (s : State) (r : Nat) : s.ClearKept (s.lowerRefs r) :=
  of_tables (fun _ => rfl) (fun _ => rfl) rfl

theorem lowerArea (s : State) (p : Nat → Bool) (area : Nat) : s.ClearKept (s.lowerArea p area) := by
  refine of_tables (fun _ => rfl) (fun b => ?_) rfl
  rw [State.lowerArea_baths]
  by_cases hb : b < 8
  · rw [Table.get_mapIdx _ _ hb]
    split <;> rfl
  · rw [Table.get_outside _ (by omega), Table.get_outside _ (by omega)]

/-- A request removed while no handover is bound to one (05 R102). -/
theorem removeRequest (hb : s.span.handover.bound = none) (k : Nat) : s.ClearKept (s.removeRequest k) := by
  have e : s.removeRequest k = s.setRequest k none := by simp [State.removeRequest, hb]
  rw [e]
  exact of_tables (fun _ => rfl) (fun _ => rfl) rfl

/-- A notice queued or lost changes channel 3 alone (11 R192). -/
theorem notify (s : State) (m : OutMsg) : s.ClearKept (s.notify m) :=
  { refl s with
    outgoing := fun h _ => by
      have e : (s.link.notify m).channels.get h.channel = s.link.channels.get h.channel :=
        s.link.notify_get_ne (by cases h <;> decide) m
      cases h <;> simp only [State.outgoing, State.queued, State.notify, e] <;> rfl
    notices := s.link.notify_keepsNotices m
    engine := s.link.notify_engine m }

end State.ClearKept

/-! ### The cancel on freeing with no handover in progress (02 R35, 06 R121) -/

/-- The order found for a slot is the open order of the hoist it is found with. -/
theorem State.orderFor_order {s : State} {slot : Nat} {h : Hoist} {o : Order} (e : s.orderFor slot = some (h, o)) :
    (s.hoist h).order = some o := by
  unfold State.orderFor at e
  have found {g : Hoist} {x : Order} {p : Prop} [Decidable p] (hx : (s.hoist g).order = some x)
      (e : (if p then some (g, x) else none) = some (h, o)) : (s.hoist h).order = some o := by
    split at e
    · obtain ⟨rfl, rfl⟩ := Prod.mk.inj (Option.some.inj e); exact hx
    · cases e
  split at e
  · next ha hb =>
    split at e
    · obtain ⟨rfl, rfl⟩ := Prod.mk.inj (Option.some.inj e); exact ha
    · exact found (g := .b) hb e
  · next ha _ => exact found (g := .a) ha e
  · next _ hb => exact found (g := .b) hb e
  · cases e

/-- A hoist whose open order closes: IDLE, without order and timer (06 R108). -/
def HoistRec.idled (x : HoistRec) : HoistRec := { x with st := .idle, order := none, timer := none }

/-- With no handover in progress the cancel on freeing closes the order of one hoist, or does nothing. -/
theorem State.cancelOnFreeing_cases {s : State} (hb : s.span.handover.stage = .none) (slot : Nat) :
    s.cancelOnFreeing slot = s ∨ ∃ h o, (s.hoist h).order = some o ∧ s.cancelOnFreeing slot =
      ((s.sendHoist h (.cancel o.number)).setHoist h (s.hoist h).idled).triggerPass := by
  cases e : s.orderFor slot with
  | none => exact .inl (by simp only [State.cancelOnFreeing, e])
  | some p =>
    obtain ⟨h, o⟩ := p
    refine .inr ⟨h, o, State.orderFor_order e, ?_⟩
    simp only [State.cancelOnFreeing, e]
    obtain ⟨-, idle⟩ | ⟨hw, -⟩ := (s.sendHoist h (.cancel o.number)).becomeIdle_cases h
    · rw [idle]; cases h <;> rfl
    · exact absurd (hb.symm.trans hw.1) (by decide)

/-- The clear rule makes the same of a BUSY hoist whose order has just been closed (06 R108, R128). -/
theorem HoistRec.idled_clear {x : HoistRec} (hx : x.OrderFits) {o : Order} (ho : x.order = some o) :
    x.idled.clear = x.clear := by
  have busy : x.st = .busy := by
    unfold HoistRec.OrderFits at hx
    rw [ho] at hx
    simpa using hx.symm
  simp [HoistRec.clear, HoistRec.idled, busy]

theorem State.OrdersFit.hoist {s : State} (h : s.OrdersFit) (x : Hoist) : (s.hoist x).OrderFits := by
  cases x
  · exact h.1
  · exact h.2

/-- CANCEL for the open order of hoist h, which then closes (06 R121). -/
def State.cancelled (s : State) (h : Hoist) (o : Order) : State :=
  ((s.sendHoist h (.cancel o.number)).setHoist h (s.hoist h).idled).triggerPass

theorem State.cancelled_hoist (s : State) (h : Hoist) (o : Order) (g : Hoist) :
    (s.cancelled h o).hoist g = if g = h then (s.hoist h).idled else s.hoist g := by
  cases h <;> cases g <;> rfl

theorem State.cancelled_queued (s : State) (h : Hoist) (o : Order) (g : Hoist) : (s.cancelled h o).queued g.channel =
    s.queued g.channel ++ (if g = h ∧ s.link.held g.channel < 4 then [.cancel o.number] else []) := by
  have e : (s.cancelled h o).queued g.channel = (s.sendHoist h (.cancel o.number)).queued g.channel := by
    cases h <;> rfl
  have hc : g.channel = h.channel ↔ g = h := by cases g <;> cases h <;> decide
  rw [e, State.sendHoist_queued]
  simp only [hc]

/-- The CANCEL that an open order had still to get has joined its hoist's queue, where there is room. -/
theorem State.cancelled_outgoing {s : State} {h : Hoist} {o : Order} (ho : (s.hoist h).order = some o) (g : Hoist)
    (room : (s.outgoing g).length ≤ 4) : (s.cancelled h o).outgoing g = s.outgoing g := by
  unfold State.outgoing at room ⊢
  rw [State.cancelled_queued, State.cancelled_hoist]
  by_cases hg : g = h
  · subst hg
    have cancel : (s.hoist g).openCancel = [.cancel o.number] := by simp [HoistRec.openCancel, ho]
    have held : s.link.held g.channel < 4 := by
      rw [cancel] at room
      simp only [State.queued, List.length_append, List.length_map, List.length_singleton] at room
      unfold Link.held; omega
    simp only [held, cancel, and_self, if_true]
    simp [HoistRec.openCancel, HoistRec.idled]
  · simp [hg]

theorem State.cancelled_clearKept {s : State} (hf : s.OrdersFit) {h : Hoist} {o : Order}
    (ho : (s.hoist h).order = some o) : s.ClearKept (s.cancelled h o) where
  stations _ := by cases h <;> rfl
  baths _ := by cases h <;> rfl
  fits _ := by cases h; exacts [⟨rfl, hf.2⟩, ⟨hf.1, rfl⟩]
  hoists g := by
    rw [State.cancelled_hoist]
    split
    · next e => rw [e, HoistRec.idled_clear (hf.hoist h) ho]
    · rfl
  outgoing := State.cancelled_outgoing ho
  span := by cases h <;> rfl
  dispatcher := by cases h <;> rfl
  notices := by cases h <;> exact s.link.send_keepsNotices (by decide) _
  engine := by cases h <;> exact s.link.send_engine _ _
  line := by cases h <;> rfl
  tick := by cases h <;> rfl
  seqCounter := by cases h <;> rfl
  gens := by cases h <;> rfl
  io := by cases h <;> rfl

theorem State.cancelOnFreeing_clearKept {s : State} (hb : s.span.handover.stage = .none) (hf : s.OrdersFit)
    (slot : Nat) : s.ClearKept (s.cancelOnFreeing slot) := by
  obtain e | ⟨h, o, ho, e⟩ := State.cancelOnFreeing_cases hb slot
  · rw [e]; exact .refl s
  · rw [e]; exact State.cancelled_clearKept hf ho

/-! ### One record freed (02 R35) -/

theorem State.dropRack_racks (s : State) (k : Nat) (r : Rack) (ev : Option RackEvent) :
    (s.dropRack k r ev).racks = s.racks.set k none := by
  simp [State.dropRack, State.setRack]

theorem State.lowerRefs_get (s : State) (k : Nat) {n : Nat} (hn : n < 16) : (s.lowerRefs k).recipes.get n =
    { s.recipes.get n with refs := (s.recipes.get n).refs - (if k = n then 1 else 0) } := by
  unfold State.lowerRefs State.setRecipe
  dsimp only
  rw [Table.get_set]
  by_cases h : k = n
  · simp [h, hn]
  · simp [h]

theorem State.dropRack_recipes (s : State) (k : Nat) (r : Rack) (ev : Option RackEvent) :
    (s.dropRack k r ev).recipes = (s.lowerRefs r.recipe).recipes := by
  simp [State.dropRack, State.lowerRefs, State.setRecipe]

/-- The freeing of a record with no handover in progress keeps what the clear keeps. -/
theorem State.dropRack_clearKept {s : State} (hb : s.span.handover = Handover.blank) (hf : s.OrdersFit) (k : Nat)
    (r : Rack) (ev : RackEvent) : s.ClearKept (s.dropRack k r (some ev)) := by
  have cancel := State.cancelOnFreeing_clearKept (by rw [hb]; rfl) hf k
  have removed := cancel.trans (.removeRequest (by rw [cancel.span, hb]; rfl) k)
  have left := removed.trans ((State.ClearKept.emptyStation _ r.station).trans
    ((State.ClearKept.emptyStation _ r.dest).trans (State.ClearKept.leaveIf _ r.station)))
  exact left.trans ((State.ClearKept.lowerArea _ _ r.area).trans ((State.ClearKept.lowerRefs _ r.recipe).trans
    ((State.ClearKept.notify _ _).trans (State.ClearKept.setRack _ k none))))

/-- The freeing of a record tells its event. -/
theorem State.dropRack_told (s : State) (k : Nat) (r : Rack) (ev : RackEvent) :
    (s.dropRack k r (some ev)).Told ev k r :=
  State.Told.mono (State.told_rackNotice _ ev k r r.station) (.refl _)

end Sys2Proof.Machine
end

section
/-! PROOFS. LINE CLEAR: every record freed, the admission queue discarded, then the clear rules of the blocks
(01 R8, R20, 02 R34, 04 R67, 06 R128, 07 R145, 08 R147, 09 R171). -/

namespace Sys2Proof.Machine

/-! ### Every record freed (09 R171 step 1) -/

/-- How many racks of the first n slots name a recipe (01 R14). -/
def State.racksNaming (s : State) (n recipe : Nat) : Nat :=
  ((List.range n).filter (fun k => decide ((s.racks.get k).map (·.recipe) = some recipe))).length

theorem State.racksNaming_succ (s : State) (n recipe : Nat) : s.racksNaming (n + 1) recipe =
    s.racksNaming n recipe + (if (s.racks.get n).map (·.recipe) = some recipe then 1 else 0) := by
  unfold State.racksNaming
  rw [List.range_succ, List.filter_append, List.length_append]
  split <;> simp_all

/-- From s to t the records of the slots below n have been freed, and nothing else that the clear keeps has changed. -/
structure State.SlotsFreed (s t : State) (n : Nat) : Prop where
  kept    : s.ClearKept t
  racks   : ∀ k < 24, t.racks.get k = if k < n then none else s.racks.get k
  told    : ∀ k < n, ∀ r ∈ s.racks.get k, t.Told (.removed .cleared) k r
  recipes : ∀ m < 16, t.recipes.get m =
    { s.recipes.get m with refs := (s.recipes.get m).refs - s.racksNaming n m }
  queue   : t.queue = s.queue

theorem State.SlotsFreed.zero (s : State) : s.SlotsFreed s 0 :=
  ⟨.refl s, fun _ _ => rfl, fun _ h => absurd h (Nat.not_lt_zero _), fun _ _ => rfl, rfl⟩

/-- The record of the next slot freed. -/
theorem State.SlotsFreed.clearSlot {s t : State} (hb : s.span.handover = Handover.blank) (hf : s.OrdersFit) {n : Nat}
    (hn : n < 24) (h : s.SlotsFreed t n) : s.SlotsFreed (t.clearSlot n) (n + 1) := by
  obtain ⟨kept, racks, told, recipes, queue⟩ := h
  have here : t.racks.get n = s.racks.get n := by rw [racks n hn, if_neg (Nat.lt_irrefl n)]
  unfold State.clearSlot
  cases hr : s.racks.get n with
  | none =>
    rw [here, hr]
    refine ⟨kept, fun k hk => ?_, fun k hk r hm => ?_, fun m hm => ?_, queue⟩
    · rw [racks k hk]
      obtain hlt | rfl | hgt := Nat.lt_trichotomy k n
      · rw [if_pos hlt, if_pos (by omega)]
      · rw [if_neg (by omega), if_pos (by omega), hr]
      · rw [if_neg (by omega), if_neg (by omega)]
    · obtain hlt | rfl := Nat.lt_succ_iff_lt_or_eq.mp hk
      · exact told k hlt r hm
      · rw [hr] at hm; cases hm
    · rw [recipes m hm, State.racksNaming_succ, hr]; rfl
  | some r =>
    rw [here, hr]
    have drop := State.dropRack_clearKept (by rw [kept.span, hb]) (kept.fits hf) n r (.removed .cleared)
    refine ⟨kept.trans drop, fun k hk => ?_, fun k hk x hm => ?_, fun m hm => ?_,
      (State.dropRack_queue _ _ _ _).trans queue⟩
    · rw [State.dropRack_racks, Table.get_set]
      obtain hlt | rfl | hgt := Nat.lt_trichotomy k n
      · rw [if_neg (by omega), racks k hk, if_pos hlt, if_pos (by omega)]
      · rw [if_pos ⟨rfl, hk⟩, if_pos (by omega)]
      · rw [if_neg (by omega), racks k hk, if_neg (by omega), if_neg (by omega)]
    · obtain hlt | rfl := Nat.lt_succ_iff_lt_or_eq.mp hk
      · exact (told k hlt x hm).mono drop.notices
      · obtain rfl : r = x := by rw [hr] at hm; exact Option.some.inj hm
        exact State.dropRack_told t k r _
    · rw [State.dropRack_recipes, State.lowerRefs_get _ _ hm, recipes m hm, State.racksNaming_succ, hr]
      simp only [Option.map_some, Option.some.injEq, Nat.sub_sub]

theorem State.slotsFreed {s : State} (hb : s.span.handover = Handover.blank) (hf : s.OrdersFit) {n : Nat}
    (hn : n ≤ 24) : s.SlotsFreed ((List.range n).foldl State.clearSlot s) n := by
  induction n with
  | zero => exact .zero s
  | succ n ih =>
    rw [List.range_succ, List.foldl_append]
    exact State.SlotsFreed.clearSlot hb hf hn (ih (Nat.le_of_succ_le hn))

/-! ### The admission queue discarded (02 R32, 09 R171 step 2) -/

theorem State.lowerAll_get (es : List QueueEntry) (s : State) {m : Nat} (hm : m < 16) :
    (es.foldl (fun (t : State) e => t.lowerRefs e.recipe) s).recipes.get m =
      { s.recipes.get m with
        refs := (s.recipes.get m).refs - (es.filter (fun e => decide (e.recipe = m))).length } := by
  induction es generalizing s with
  | nil => rfl
  | cons e es ih =>
    rw [List.foldl_cons, ih, State.lowerRefs_get _ _ hm, List.filter_cons]
    split <;> simp_all [Nat.sub_sub, Nat.add_comm]

theorem State.discardQueue_recipes (s : State) {m : Nat} (hm : m < 16) : s.discardQueue.recipes.get m =
    { s.recipes.get m with
      refs := (s.recipes.get m).refs - (s.queue.filter (fun e => decide (e.recipe = m))).length } :=
  State.lowerAll_get s.queue s hm

/-- Discarding the queue writes nothing but the queue and the counts of the recipes its entries name. -/
theorem State.discardQueue_eq (s : State) :
    s.discardQueue = { s with recipes := s.discardQueue.recipes, queue := [] } := by
  have lowered (es : List QueueEntry) (s : State) :
      es.foldl (fun (t : State) e => t.lowerRefs e.recipe) s =
        { s with recipes := (es.foldl (fun (t : State) e => t.lowerRefs e.recipe) s).recipes } := by
    induction es generalizing s with
    | nil => rfl
    | cons e es ih => rw [List.foldl_cons, ih]; rfl
  exact congrArg (fun t : State => { t with queue := [] }) (lowered s.queue s)

theorem State.discardQueue_clearKept (s : State) : s.ClearKept s.discardQueue := by
  rw [State.discardQueue_eq]
  exact ⟨fun _ => rfl, fun _ => rfl, id, fun h => by cases h <;> rfl, fun h _ => by cases h <;> rfl, rfl, rfl, .refl _,
    rfl, rfl, rfl, rfl, rfl, rfl⟩

/-- From s to t steps 1 and 2 of R171: every record freed and the admission queue discarded. -/
structure State.Emptied (s t : State) : Prop where
  kept    : s.ClearKept t
  racks   : ∀ k < 24, t.racks.get k = none
  told    : ∀ k < 24, ∀ r ∈ s.racks.get k, t.Told (.removed .cleared) k r
  recipes : ∀ m < 16, t.recipes.get m = { s.recipes.get m with
    refs := (s.recipes.get m).refs - s.racksNaming 24 m - (s.queue.filter (fun e => decide (e.recipe = m))).length }
  queue   : t.queue = []

theorem State.SlotsFreed.discardQueue {s t : State} (h : s.SlotsFreed t 24) : s.Emptied t.discardQueue where
  kept := h.kept.trans t.discardQueue_clearKept
  racks k hk := by rw [State.discardQueue_eq]; exact (h.racks k hk).trans (if_pos hk)
  told k hk r hr := (h.told k hk r hr).mono t.discardQueue_clearKept.notices
  recipes m hm := by rw [State.discardQueue_recipes t hm, h.recipes m hm, h.queue]
  queue := rfl

/-! ### Messages to the hoists (06 R110, R121, R128) -/

/-- Messages queued one after another to a hoist, each where there is room. -/
def Link.sendAll (l : Link) (c : Nat) (ms : List OutMsg) : Link := ms.foldl (fun l m => l.send c m) l

theorem Link.sendAll_get_ne (ms : List OutMsg) (l : Link) {c d : Nat} (h : c ≠ d) :
    (l.sendAll c ms).channels.get d = l.channels.get d := by
  induction ms generalizing l with
  | nil => rfl
  | cons m ms ih => exact (ih (l.send c m)).trans (l.send_get_ne h m)

theorem Link.sendAll_engine (ms : List OutMsg) (l : Link) (c : Nat) : (l.sendAll c ms).engine = l.engine := by
  induction ms generalizing l with
  | nil => rfl
  | cons m ms ih => exact (ih (l.send c m)).trans (l.send_engine c m)

theorem Link.sendAll_keepsNotices (ms : List OutMsg) (l : Link) {c : Nat} (h : c ≠ 3) :
    l.KeepsNotices (l.sendAll c ms) := by
  induction ms generalizing l with
  | nil => exact .refl l
  | cons m ms ih => exact (l.send_keepsNotices h m).trans (ih (l.send c m))

/-- Messages that all find room stand at the tail of the queue in their order. -/
theorem Link.sendAll_queue (ms : List OutMsg) (l : Link) {c : Nat} (h : c < 4) (room : l.held c + ms.length ≤ 4) :
    ((l.sendAll c ms).channels.get c).queue.map (·.msg) = (l.channels.get c).queue.map (·.msg) ++ ms := by
  induction ms generalizing l with
  | nil => simp [Link.sendAll]
  | cons m ms ih =>
    rw [List.length_cons] at room
    have pushed : l.send c m = l.push c m := if_pos (show l.held c < Config.hoistPlaces by
      simp only [Config.hoistPlaces]; omega)
    refine (ih (l.send c m) ?_).trans ?_
    · rw [pushed, l.held_push_self h]; omega
    · rw [pushed, l.push_queue h]; simp

/-- The messages of the clear rules: CANCEL for each hoist's open order, then RESUME to both hoists where they are
told to resume, hoist A's before hoist B's (06 R127, R128; log 41). -/
def State.clearedLink (s : State) (resumes : List OutMsg) : Link :=
  (((s.link.sendAll 0 s.hoistA.openCancel).sendAll 1 s.hoistB.openCancel).sendAll 0 resumes).sendAll 1 resumes

theorem State.clearedLink_keepsNotices (s : State) (ms : List OutMsg) : s.link.KeepsNotices (s.clearedLink ms) :=
  (Link.sendAll_keepsNotices _ _ (by decide)).trans ((Link.sendAll_keepsNotices _ _ (by decide)).trans
    ((Link.sendAll_keepsNotices _ _ (by decide)).trans (Link.sendAll_keepsNotices _ _ (by decide))))

theorem State.clearedLink_engine (s : State) (ms : List OutMsg) : (s.clearedLink ms).engine = s.link.engine := by
  simp only [State.clearedLink, Link.sendAll_engine]

/-- Where they find room, CANCEL and then RESUME stand at the tail of a hoist's queue. -/
theorem State.clearedLink_queue (s : State) (ms : List OutMsg) (h : Hoist)
    (room : (s.outgoing h ++ ms).length ≤ 4) :
    ((s.clearedLink ms).channels.get h.channel).queue.map (·.msg) = s.outgoing h ++ ms := by
  rw [List.length_append] at room
  have held : s.link.held h.channel + (s.hoist h).openCancel.length = (s.outgoing h).length := by
    simp [State.outgoing, State.queued, Link.held]
  cases h with
  | a =>
    have cancels : ((s.link.sendAll 0 s.hoistA.openCancel).channels.get 0).queue.map (·.msg) = s.outgoing .a :=
      Link.sendAll_queue _ _ (by decide) (held.le.trans (by omega))
    rw [State.clearedLink, Hoist.channel, Link.sendAll_get_ne _ _ (by decide),
      Link.sendAll_queue _ _ (by decide), Link.sendAll_get_ne _ _ (by decide), cancels]
    rw [Link.held, Link.sendAll_get_ne _ _ (by decide), ← List.length_map (·.msg), cancels]
    exact room
  | b =>
    have cancels : (((s.link.sendAll 0 s.hoistA.openCancel).sendAll 1 s.hoistB.openCancel).channels.get 1).queue.map
        (·.msg) = s.outgoing .b := by
      rw [Link.sendAll_queue _ _ (by decide), Link.sendAll_get_ne _ _ (by decide)]
      · rfl
      · rw [Link.held, Link.sendAll_get_ne _ _ (by decide)]
        exact held.le.trans (by omega)
    rw [State.clearedLink, Hoist.channel, Link.sendAll_queue _ _ (by decide), Link.sendAll_get_ne _ _ (by decide),
      cancels]
    rw [Link.held, Link.sendAll_get_ne _ _ (by decide), ← List.length_map (·.msg), cancels]
    exact room

/-! ### The clear rules of the blocks (09 R171 steps 3 and 4) -/

theorem State.cancelOpen_eq (s : State) (h : Hoist) :
    s.cancelOpen h = { s with link := s.link.sendAll h.channel (s.hoist h).openCancel } := by
  cases ho : (s.hoist h).order with
  | none => simp [State.cancelOpen, HoistRec.openCancel, ho, Link.sendAll]
  | some o => simp [State.cancelOpen, HoistRec.openCancel, ho, Link.sendAll, State.sendHoist]

theorem State.resumeIfHalted_eq (s : State) : s.resumeIfHalted = { s with
    link := (s.link.sendAll 0 (if s.line.st = .halt then [.resume] else [])).sendAll 1
      (if s.line.st = .halt then [.resume] else []) } := by
  unfold State.resumeIfHalted
  split <;> rfl

/-- Every field that the clear rules of the blocks write (01 R8, 04 R67, 05 R83, 06 R128, 07 R145, 08 R147). -/
theorem State.clearBlocks_eq (s : State) : s.clearBlocks =
    { s with
      stations := s.stations.mapIdx (fun n x => { x with occ := if x.sensing && s.level n then .foreign else .empty })
      baths := s.baths.map (fun b => { b with areaInFlight := 0 })
      requests := Table.replicate 24 none
      dispatcher := { s.dispatcher with notice := .clear, side := .above }
      marks := Table.replicate 32 .out
      windows := Table.replicate 32 none
      hoistA := s.hoistA.clear
      hoistB := s.hoistB.clear
      span := { s.span with spanA := .empty, spanB := .empty, handover := Handover.blank }
      link := (s.link.sendAll 0 s.hoistA.openCancel).sendAll 1 s.hoistB.openCancel } := by
  simp only [State.clearBlocks, State.clearHoist, State.cancelOpen_eq]
  rfl

/-- RESUME where the line is HALT (06 R127, 09 R171 step 4). -/
def State.resumes (s : State) : List OutMsg := if s.line.st = .halt then [.resume] else []

/-- Steps 3 to 5 of R171, from the state t with every record freed and the admission queue discarded. -/
def State.settled (t : State) : State :=
  { t with
    stations := t.stations.mapIdx (fun n x => { x with occ := if x.sensing && t.level n then .foreign else .empty })
    baths := t.baths.map (fun b => { b with areaInFlight := 0 })
    requests := Table.replicate 24 none
    dispatcher := { t.dispatcher with notice := .clear, side := .above }
    marks := Table.replicate 32 .out
    windows := Table.replicate 32 none
    hoistA := t.hoistA.clear
    hoistB := t.hoistB.clear
    span := { t.span with spanA := .empty, spanB := .empty, handover := Handover.blank }
    link := t.clearedLink t.resumes
    line := { st := .standby, causes := [] } }

theorem State.clearBlocks_settled (t : State) :
    { t.clearBlocks.resumeIfHalted with line := { st := .standby, causes := [] } } = t.settled := by
  simp only [State.clearBlocks_eq, State.resumeIfHalted_eq]
  rfl

/-- LINE CLEAR brings a state with no handover in progress, all emptied, to its clear rules. -/
theorem State.clearLine_emptied {s : State} (hf : s.OrdersFit) :
    ∃ t, (s.setHandover Handover.blank).Emptied t ∧ s.clearLine = t.settled :=
  ⟨_, (State.slotsFreed (s := s.setHandover Handover.blank) rfl hf (Nat.le_refl 24)).discardQueue,
    State.clearBlocks_settled _⟩

/-- The clear rule of a hoist record, written out (06 R128). -/
theorem HoistRec.clear_eq (x : HoistRec) : x.clear =
    { x with
      st := if x.st = .busy then .idle else if x.st = .fault then .offline else x.st
      released := if x.st = .fault then false else x.released
      order := none
      timer := none
      suspended := false } := by
  cases hx : x.st <;> simp [HoistRec.clear, hx]

/-! ### LINE CLEAR (09 R171) -/

/-- A state whose request has been answered: the reply queued, the slot emptied, the outputs driven. -/
def State.answered (s : State) (kind : Nat) (code : ReplyCode) (contents : List Byte) : State :=
  ((s.reply kind code contents).setRequestSlot none).driveOutputs

theorem Link.setSlot_queue (l : Link) (c d : Nat) (f : Option SlotFrame) :
    ((l.setSlot c f).channels.get d).queue = (l.channels.get d).queue :=
  Table.modify_same Channel.queue (f := fun ch => { ch with slot := f }) (fun _ => rfl) _ c d

theorem State.answered_queue (s : State) (kind : Nat) (code : ReplyCode) (contents : List Byte) (c : Nat) :
    ((s.answered kind code contents).link.channels.get c).queue =
      ((s.link.reply kind code contents).channels.get c).queue :=
  Link.setSlot_queue _ 3 c none

theorem State.answered_answered (s : State) (kind : Nat) (code : ReplyCode) :
    (s.answered kind code []).Answered kind code [] := by
  unfold State.Answered
  rw [State.answered_queue, ← List.getLast?_map, (s.link.reply_appended kind code []).queue]
  exact List.getLast?_concat

theorem State.answered_keepsNotices (s : State) (kind : Nat) (code : ReplyCode) (contents : List Byte) :
    s.link.KeepsNotices (s.answered kind code contents).link :=
  (s.link.reply_keepsNotices kind code contents).trans
    ⟨⟨[], by rw [State.answered_queue, List.append_nil]⟩, id⟩

theorem State.answered_queued (s : State) (kind : Nat) (code : ReplyCode) (contents : List Byte) {c : Nat} (h : c ≠ 3) :
    (s.answered kind code contents).queued c = s.queued c := by
  rw [State.queued, State.answered_queue, (s.link.reply_appended kind code contents).others c h]
  rfl

theorem State.answered_engine (s : State) (kind : Nat) (code : ReplyCode) (contents : List Byte) :
    (s.answered kind code contents).link.engine = s.link.engine := by
  have e : (s.link.reply kind code contents).engine = s.link.engine := by
    simpa using congrArg Link.engine (s.link.reply_appended kind code contents).rest
  exact e

theorem exec_lineClear_refused {s : State} (h : s.TakesRequests) (hst : s.line.st = .run ∨ s.line.st = .hold) :
    exec .lineClear s = .next (s.reply 0x5D .wrongState []).driveOutputs := by
  have refused : ¬(s.line.st = .standby ∨ s.line.st = .halt) := by obtain e | e := hst <;> simp [e]
  exact exec_request_replies h rfl rfl h.2.1 (if_neg refused)

/-- LINE CLEAR taken: the state with its request in the slot is emptied, brought to the clear rules and answered. -/
theorem exec_lineClear_taken {s : State} (h : s.TakesRequests) (hf : s.OrdersFit)
    (hst : s.line.st = .standby ∨ s.line.st = .halt) :
    ∃ t, ((s.setRequestSlot (some (.good .lineClear))).setHandover Handover.blank).Emptied t ∧
      exec .lineClear s = .next (t.settled.answered 0x5D .ok []) := by
  obtain ⟨t, emptied, e⟩ := State.clearLine_emptied (s := s.setRequestSlot (some (.good .lineClear))) hf
  refine ⟨t, emptied, ?_⟩
  have handled : handleRequest .lineClear (s.setRequestSlot (some (.good .lineClear))) =
      t.settled.reply 0x5D .ok [] := by
    rw [← e]; exact if_pos hst
  rw [exec_request_taken h rfl rfl, handled]
  rfl

section Settled

variable {s t : State}

theorem State.ClearKept.station {n : Nat} (k : s.ClearKept t) (o : Occupancy) :
    { t.stations.get n with occ := o } = { s.stations.get n with occ := o } :=
  congrArg (fun x : Station => { x with occ := o }) (k.stations n)

/-- The station map's clear rule, on what the clear has kept of it (01 R8). -/
theorem State.ClearKept.settled_station (k : s.ClearKept t) {n : Nat} (hn : n < 32) : t.settled.stations.get n =
    { s.stations.get n with
      occ := if (s.stations.get n).sensing = true ∧ s.level n = true then .foreign else .empty } := by
  have sensing : (t.stations.get n).sensing = (s.stations.get n).sensing := by
    simpa using congrArg Station.sensing (k.stations n)
  have level : t.level n = s.level n := by unfold State.level; rw [k.io]
  refine (Table.get_mapIdx _ _ hn).trans ?_
  rw [k.station, sensing, level]
  simp only [Bool.and_eq_true]

/-- The bath table's clear rule, on what the clear has kept of it (04 R67). -/
theorem State.ClearKept.settled_bath (k : s.ClearKept t) {b : Nat} (hb : b < 8) :
    t.settled.baths.get b = { s.baths.get b with areaInFlight := 0 } :=
  (Table.get_map _ _ hb).trans (k.baths b)

/-- The hoist channels' clear rule, on what the clear has kept of the records (06 R128). -/
theorem State.ClearKept.settled_hoist (k : s.ClearKept t) (h : Hoist) : t.settled.hoist h = (s.hoist h).clear := by
  rw [← k.hoists h]
  cases h <;> rfl

/-- CANCEL and RESUME at the tail of a hoist's queue, where they find room (06 R127, R128). -/
theorem State.ClearKept.settled_queued (k : s.ClearKept t) {h : Hoist} (room : s.link.held h.channel + 2 ≤ 4) :
    t.settled.queued h.channel = s.queued h.channel ++ (s.hoist h).openCancel ++ s.resumes := by
  have line : t.resumes = s.resumes := by unfold State.resumes; rw [k.line]
  have resumes : s.resumes.length ≤ 1 := by unfold State.resumes; split <;> simp
  have outgoing : (s.outgoing h).length ≤ s.link.held h.channel + 1 := by
    have hc := (s.hoist h).openCancel_length
    simp only [State.outgoing, State.queued, Link.held, List.length_append, List.length_map]
    omega
  have same := k.outgoing h (by omega)
  refine (State.clearedLink_queue t t.resumes h ?_).trans ?_
  · rw [same, line, List.length_append]; omega
  · rw [same, line]; rfl

end Settled

/-- Settles O27: what the clear has kept of the state, brought to the clear rules. -/
theorem lineClearEmptiesTheLine : Obligations.LineClearEmptiesTheLine := by
  intro s h hf
  refine ⟨exec_lineClear_refused h, fun hst => ?_⟩
  obtain ⟨t, ⟨kept, racks, told, recipes, queue⟩, e⟩ := exec_lineClear_taken h hf hst
  refine ⟨_, e, rfl, State.answered_answered _ _ _, fun k hk => ⟨racks k hk, Table.get_replicate _ hk⟩, queue,
    fun k hk r hr => ?told, fun n hn => kept.settled_station hn, fun n hn => ⟨Table.get_replicate _ hn,
    Table.get_replicate _ hn⟩, fun b hb => kept.settled_bath hb, fun x _ => ?hoist, ?span, ?dispatcher,
    fun n hn => recipes n hn, fun x _ room => ?queued, kept.tick, kept.seqCounter, kept.gens,
    show t.io.inputs = s.io.inputs by rw [kept.io]; rfl, ?engine⟩
  case told =>
    exact (told k hk r hr).mono ((State.clearedLink_keepsNotices t t.resumes).trans
      (State.answered_keepsNotices t.settled _ _ _))
  case hoist =>
    have cleared := kept.settled_hoist x
    rw [HoistRec.clear_eq] at cleared
    cases x <;> exact cleared
  case span =>
    show { t.span with spanA := Span.empty, spanB := Span.empty, handover := Handover.blank } = _
    rw [kept.span]
    rfl
  case dispatcher =>
    exact congrArg (fun d : Dispatcher => { d with
      notice := .clear, side := .above, passesOwed := t.dispatcher.passesOwed }) kept.dispatcher
  case queued =>
    have inSlot : (s.setRequestSlot (some (.good .lineClear))).queued x.channel = s.queued x.channel :=
      congrArg (List.map Queued.msg) (s.link.setSlot_queue 3 x.channel (some (.good .lineClear)))
    have told := kept.settled_queued (h := x) ((s.link.held_setSlot 3 x.channel _).symm ▸ room)
    have notThree : x.channel ≠ 3 := by cases x <;> decide
    refine (State.answered_queued t.settled 0x5D .ok [] notThree).trans (told.trans ?_)
    show (s.setRequestSlot (some (.good .lineClear))).queued x.channel ++ _ ++ _ = _
    rw [inSlot]
    cases x <;> rfl
  case engine =>
    rw [State.answered_engine]
    exact (State.clearedLink_engine t _).trans kept.engine

end Sys2Proof.Machine
end

section
/-! PROOFS. The target of a step, the units of sixteen ticks, and the step a rack is in (02 R24, 03 R56, R59). -/

namespace Sys2Proof.Machine

theorem RecipeStep.target_fixed {st : RecipeStep} (h : st.adjustable = false) (adjust : Int) :
    st.target adjust = st.nominal * 64 := by
  simp [RecipeStep.target, h]

/-- With 100 + adjust a natural number, the target of an adjustable step is a quotient of natural numbers (03 R59). -/
theorem RecipeStep.target_adjusted {st : RecipeStep} (h : st.adjustable = true) {adjust : Int} (low : -30 ≤ adjust) :
    st.target adjust = st.nominal * 64 * (100 + adjust).toNat / 100 := by
  obtain ⟨percent, e⟩ := Int.eq_ofNat_of_zero_le (show 0 ≤ 100 + adjust by omega)
  simp only [RecipeStep.target, h, if_true, e, Int.toNat_natCast]
  norm_cast

theorem RecipeStep.target_bounds {st : RecipeStep} {adjust : Int} (n1 : 1 ≤ st.nominal) (n2 : st.nominal ≤ 36000)
    (a1 : -30 ≤ adjust) (a2 : adjust ≤ 100) : 44 ≤ st.target adjust ∧ st.target adjust ≤ 4608000 := by
  cases h : st.adjustable with
  | false => rw [RecipeStep.target_fixed h]; omega
  | true =>
    rw [RecipeStep.target_adjusted h a1]
    have low : 64 * 70 ≤ st.nominal * 64 * (100 + adjust).toNat := Nat.mul_le_mul (by omega) (by omega)
    have high : st.nominal * 64 * (100 + adjust).toNat ≤ 36000 * 64 * 200 := Nat.mul_le_mul (by omega) (by omega)
    omega

/-- Of the sixteen phases, as many receive an extra unit as there are to spread (03 R56). -/
theorem spread_sum : ∀ a < 16, ((List.range 16).map (fun p => if spread a p then 1 else 0)).sum = a := by decide

/-- Over the sixteen phases a rack gains exactly the factor (03 R56). -/
theorem increment_sum (f : Nat) : ((List.range 16).map (increment f)).sum = f := by
  have split : ((List.range 16).map (increment f)).sum =
      16 * (f / 16) + ((List.range 16).map (fun p => if spread (f % 16) p then 1 else 0)).sum := by
    refine List.sum_map_add.trans ?_
    rw [List.map_const', List.sum_replicate, List.length_range, smul_eq_mul]
  rw [split, spread_sum _ (Nat.mod_lt _ (by decide))]
  exact Nat.div_add_mod f 16

theorem increment_zero (f : Nat) : increment f 0 = f / 16 := by simp [increment, spread, rev4]

theorem increment_cases (f p : Nat) : increment f p = f / 16 ∨ increment f p = f / 16 + 1 := by
  unfold increment
  split
  · exact .inr rfl
  · exact .inl rfl

/-- Settles O20: the target by its two cases, the units by the sum over the phases, the step by definition. -/
theorem targetsAndIncrements : Obligations.TargetsAndIncrements :=
  ⟨fun _ adjust => ⟨fun h => RecipeStep.target_fixed h adjust, fun h low _ => RecipeStep.target_adjusted h low,
      fun n1 n2 a1 a2 => RecipeStep.target_bounds n1 n2 a1 a2⟩,
    fun f => ⟨increment_sum f, increment_zero f, fun p _ => increment_cases f p⟩, fun _ _ _ _ => ⟨rfl, rfl⟩⟩

end Sys2Proof.Machine
end

section
/-! PROOFS. Tables read in the order of their numbers: the first record that satisfies a test, and the free slot, the
slot of a rack id and the order of a slot by it (02 R21, 06 R107). -/

namespace Sys2Proof.Machine

section Tables

variable {α : Type} {n : Nat} [Inhabited α] (t : Table α n)

/-- The records of a table with their numbers, in ascending order. -/
theorem Table.zipIdx_eq : t.toList.zipIdx = (List.range n).map (fun i => (t.get i, i)) := by
  apply List.ext_getElem
  · simp [t.size]
  · intro i h1 h2
    have hi : i < t.toList.length := by simpa using h1
    simp [Table.get, hi]

theorem Table.indices_eq (p : α → Bool) : t.indices p = (List.range n).filter (fun i => p (t.get i)) := by
  rw [Table.indices, t.zipIdx_eq, List.filter_map, List.map_map]
  exact List.map_id _

theorem Table.head_indices_eq_some {p : α → Bool} {k : Nat} :
    (t.indices p).head? = some k ↔ k < n ∧ p (t.get k) = true ∧ ∀ j < k, p (t.get j) = false := by
  rw [t.indices_eq, List.head?_filter, List.find?_range_eq_some]
  simp only [List.mem_range, Bool.not_eq_true']
  exact and_left_comm

theorem Table.head_indices_eq_none {p : α → Bool} :
    (t.indices p).head? = none ↔ ∀ j < n, p (t.get j) = false := by
  simp [t.indices_eq, List.head?_filter]

theorem Table.nodup_indices (p : α → Bool) : (t.indices p).Nodup := by
  rw [t.indices_eq]; exact List.nodup_range.filter _

end Tables

variable {s : State}

theorem State.freeSlot_eq_some {k : Nat} :
    s.freeSlot = some k ↔ k < 24 ∧ s.racks.get k = none ∧ ∀ j < k, s.racks.get j ≠ none := by
  simp [State.freeSlot, Table.head_indices_eq_some, Option.isSome_iff_ne_none]

theorem State.freeSlot_isSome : s.freeSlot.isSome = true ↔ ∃ k < 24, s.racks.get k = none := by
  rw [Option.isSome_iff_ne_none, ne_eq, State.freeSlot, Table.head_indices_eq_none]
  simp

theorem State.slotOf_eq_some {id k : Nat} : s.slotOf id = some k ↔
    k < 24 ∧ (∃ x ∈ s.racks.get k, x.id = id) ∧ ∀ j < k, ∀ x ∈ s.racks.get j, x.id ≠ id := by
  rw [State.slotOf, Table.head_indices_eq_some]
  refine and_congr_right (fun _ => and_congr ?_ (forall₂_congr (fun j _ => ?_)))
  · cases s.racks.get k <;> simp
  · cases s.racks.get j <;> simp

theorem State.slotOf_eq_none {id : Nat} : s.slotOf id = none ↔ ∀ j < 24, ∀ x ∈ s.racks.get j, x.id ≠ id := by
  rw [State.slotOf, Table.head_indices_eq_none]
  refine forall₂_congr (fun j _ => ?_)
  cases s.racks.get j <;> simp

/-- An id is known where a rack or an entry of the admission queue has it (02 R29). -/
theorem State.knownId_iff {id : Nat} : s.knownId id = true ↔
    (∃ k < 24, ∃ r ∈ s.racks.get k, r.id = id) ∨ ∃ e ∈ s.queue, e.id = id := by
  rw [State.knownId, Bool.or_eq_true, Option.isSome_iff_ne_none, ne_eq, State.slotOf_eq_none]
  simp

/-- The open order of hoist A for a slot, or else that of hoist B (06 R107). -/
theorem State.orderFor_eq (k : Nat) : s.orderFor k =
    ((s.hoistA.order.filter (fun o => decide (o.slot = k))).map (Prod.mk Hoist.a)).or
      ((s.hoistB.order.filter (fun o => decide (o.slot = k))).map (Prod.mk Hoist.b)) := by
  unfold State.orderFor
  cases ha : s.hoistA.order with
  | none =>
    cases s.hoistB.order with
    | none => rfl
    | some p => by_cases hp : p.slot = k <;> simp [hp]
  | some o =>
    cases s.hoistB.order with
    | none => by_cases ho : o.slot = k <;> simp [ho]
    | some p => by_cases ho : o.slot = k <;> by_cases hp : p.slot = k <;> simp [Option.filter_some, ho, hp]

theorem State.orderFor_eq_none {k : Nat} : s.orderFor k = none ↔ ∀ g, ∀ y ∈ (s.hoist g).order, y.slot ≠ k := by
  have both : (∀ g, ∀ y ∈ (s.hoist g).order, y.slot ≠ k) ↔
      (∀ y ∈ s.hoistA.order, y.slot ≠ k) ∧ ∀ y ∈ s.hoistB.order, y.slot ≠ k :=
    ⟨fun h => ⟨h .a, h .b⟩, fun h g => by cases g; exacts [h.1, h.2]⟩
  rw [State.orderFor_eq, both, Option.or_eq_none_iff]
  simp

theorem State.orderFor_eq_some {k : Nat} {h : Hoist} {o : Order} : s.orderFor k = some (h, o) ↔
    (s.hoist h).order = some o ∧ o.slot = k ∧ (h = .b → ∀ y ∈ s.hoistA.order, y.slot ≠ k) := by
  rw [State.orderFor_eq, Option.or_eq_some_iff]
  cases h <;> simp [State.hoist, and_comm, and_assoc, and_left_comm]

end Sys2Proof.Machine
end

section
/-! PROOFS. The line margin, the admission test, and the ADMITs that are refused or queued (02 R29, R30, R32, 05 R90,
R103). -/

namespace Sys2Proof.Machine

/-! ### The line margin (05 R103) -/

/-- The least of the values f gives for the numbers below n, with the lowest number that gives it. -/
def LeastMargin (f : Nat → Option Int) (n : Nat) : Option (Int × Nat) → Prop
  | none => ∀ j < n, f j = none
  | some (m, k) => k < n ∧ f k = some m ∧ ∀ j < n, ∀ v ∈ f j, m < v ∨ (m = v ∧ k ≤ j)

/-- The least of one value more. -/
theorem LeastMargin.succ {f : Nat → Option Int} {n : Nat} {best : Option (Int × Nat)} (h : LeastMargin f n best) :
    LeastMargin f (n + 1) (lesserMargin best (f n, n)) := by
  cases hv : f n with
  | none =>
    cases best with
    | none => exact fun j hj => (Nat.lt_succ_iff_lt_or_eq.mp hj).elim (h j) (fun e => e ▸ hv)
    | some b =>
      obtain ⟨hk, fk, least⟩ := h
      refine ⟨Nat.lt_succ_of_lt hk, fk, fun j hj v hf => ?_⟩
      obtain hlt | rfl := Nat.lt_succ_iff_lt_or_eq.mp hj
      · exact least j hlt v hf
      · rw [hv] at hf; cases hf
  | some x =>
    cases best with
    | none =>
      refine ⟨Nat.lt_succ_self n, hv, fun j hj v hf => ?_⟩
      obtain hlt | rfl := Nat.lt_succ_iff_lt_or_eq.mp hj
      · rw [h j hlt] at hf; cases hf
      · rw [hv] at hf; exact .inr ⟨Option.some.inj hf, Nat.le_refl j⟩
    | some b =>
      obtain ⟨hk, fk, least⟩ := h
      unfold lesserMargin
      dsimp only
      split
      · next hx =>
        refine ⟨Nat.lt_succ_self n, hv, fun j hj v hf => ?_⟩
        obtain hlt | rfl := Nat.lt_succ_iff_lt_or_eq.mp hj
        · exact .inl (by have := least j hlt v hf; omega)
        · rw [hv] at hf; exact .inr ⟨Option.some.inj hf, Nat.le_refl j⟩
      · next hx =>
        refine ⟨Nat.lt_succ_of_lt hk, fk, fun j hj v hf => ?_⟩
        obtain hlt | rfl := Nat.lt_succ_iff_lt_or_eq.mp hj
        · exact least j hlt v hf
        · rw [hv] at hf; obtain rfl := Option.some.inj hf; omega

theorem leastMargin_fold (f : Nat → Option Int) (n : Nat) :
    LeastMargin f n (((List.range n).map (fun j => (f j, j))).foldl lesserMargin none) := by
  induction n with
  | zero => exact fun j hj => absurd hj (Nat.not_lt_zero j)
  | succ n ih => rw [List.range_succ, List.map_append, List.foldl_append]; exact ih.succ

namespace LeastMargin

variable {f : Nat → Option Int} {n : Nat} {best : Option (Int × Nat)}

theorem none_iff (h : LeastMargin f n best) : best = none ↔ ∀ j < n, f j = none := by
  cases best with
  | none => exact ⟨fun _ => h, fun _ => rfl⟩
  | some b =>
    obtain ⟨hk, fk, -⟩ := h
    exact ⟨nofun, fun none => by rw [none _ hk] at fk; cases fk⟩

theorem some_iff (h : LeastMargin f n best) {m : Int} {k : Nat} (hk : k < n) :
    best = some (m, k) ↔ f k = some m ∧ ∀ j < n, ∀ v ∈ f j, m < v ∨ (m = v ∧ k ≤ j) := by
  constructor
  · rintro rfl; exact h.2
  · rintro ⟨fk, least⟩
    cases best with
    | none => rw [h k hk] at fk; cases fk
    | some b =>
      obtain ⟨hb, fb, leastB⟩ := h
      have one := least b.2 hb b.1 fb
      have two := leastB k hk m fk
      exact congrArg some (Prod.ext (show b.1 = m by omega) (show b.2 = k by omega))

end LeastMargin

variable {s : State}

/-- What a rack adds to the line margin, with the latest lift tick written out (05 R90, R103). -/
theorem State.rackMargin_eq (r : Rack) : s.rackMargin r = (s.currentStep r).bind (fun st =>
    if (r.st = .immersed ∨ r.st = .due) ∧ st.cls = .critical ∧ st.tolerance ≠ 65535 then
      some ((if r.st = .immersed then s.tick + BitVec.ofNat 32 (s.remainingTicks r) else r.dueTick.getD s.tick) +
        BitVec.ofNat 32 st.tolerance - s.tick).toInt
    else none) := by
  unfold State.rackMargin State.latestLift
  cases s.currentStep r with
  | none => rfl
  | some st =>
    by_cases hb : r.st = .immersed ∨ r.st = .due <;> by_cases hc : st.cls = .critical <;>
      by_cases ht : st.tolerance = 65535 <;>
      simp [Rack.inBath, Config.unlimited, tickDiff, later, hb, hc, ht]

theorem State.lineMargin_least : LeastMargin (fun j => (s.racks.get j).bind s.rackMargin) 24 s.lineMargin := by
  have e : s.lineMargin =
      ((List.range 24).map (fun j => ((s.racks.get j).bind s.rackMargin, j))).foldl lesserMargin none := by
    rw [State.lineMargin, Table.zipIdx_eq, List.map_map]
    refine congrArg (List.foldl lesserMargin none) (List.map_congr_left (fun j _ => ?_))
    simp only [Function.comp]
    cases s.racks.get j <;> rfl
  rw [e]
  exact leastMargin_fold _ 24

/-! ### The admission test (02 R30) -/

theorem State.usedFrom_one {recipe b : Nat} :
    s.usedFrom recipe 1 b = true ↔ ∃ st ∈ (s.recipes.get recipe).steps, st.bath = b := by
  simp [State.usedFrom]

theorem State.marginAllows_iff :
    s.marginAllows = true ↔ ∀ m ∈ s.lineMargin, (s.dispatcher.admitMargin : Int) ≤ m.1 := by
  unfold State.marginAllows
  cases s.lineMargin <;> simp

theorem State.areaFits_iff (e : QueueEntry) : s.areaFits e = true ↔
    ∀ b < 8, (∃ st ∈ (s.recipes.get e.recipe).steps, st.bath = b) →
      (s.baths.get b).areaInFlight + e.area ≤
        (if (s.baths.get b).threshold = 0 then 65535 else (s.baths.get b).threshold) := by
  have one (b : Nat) : (!s.usedFrom e.recipe 1 b ||
      decide ((s.baths.get b).areaInFlight + e.area ≤ (s.baths.get b).areaLimit)) = true ↔
      ((∃ st ∈ (s.recipes.get e.recipe).steps, st.bath = b) →
        (s.baths.get b).areaInFlight + e.area ≤ (s.baths.get b).areaLimit) := by
    rw [← State.usedFrom_one]
    cases s.usedFrom e.recipe 1 b <;> simp
  simp only [State.areaFits, Config.baths, List.all_eq_true, List.mem_range, one]
  rfl

theorem State.loadSeated_iff (load : Nat) :
    s.loadSeated load = true ↔ ((s.stations.get load).sensing = true → s.level load = true) := by
  unfold State.loadSeated
  cases (s.stations.get load).sensing <;> simp

/-- The five items of R30. -/
theorem State.admissionTest_iff (e : QueueEntry) : s.admissionTest e = true ↔
    (∃ k < 24, s.racks.get k = none) ∧ (s.line.st = .run ∨ s.line.st = .hold) ∧
      (∀ m ∈ s.lineMargin, (s.dispatcher.admitMargin : Int) ≤ m.1) ∧
      (∀ b < 8, (∃ st ∈ (s.recipes.get e.recipe).steps, st.bath = b) → (s.baths.get b).areaInFlight + e.area ≤
        (if (s.baths.get b).threshold = 0 then 65535 else (s.baths.get b).threshold)) ∧
      ((s.stations.get e.load).sensing = true → s.level e.load = true) := by
  simp only [State.admissionTest, Bool.and_eq_true, State.freeSlot_isSome, Bool.or_eq_true, decide_eq_true_eq,
    State.marginAllows_iff, State.areaFits_iff, State.loadSeated_iff, and_assoc]

/-! ### ADMIT refused or queued (02 R29, R32) -/

theorem admitFieldsOk_iff (e : QueueEntry) : admitFieldsOk e = true ↔ 1 ≤ e.id ∧ e.id ≤ 65534 ∧ e.recipe ≤ 15 ∧
    e.load ≤ 31 ∧ 1 ≤ e.area ∧ e.area ≤ 4095 ∧ -30 ≤ e.adjust ∧ e.adjust ≤ 100 := by
  simp [admitFieldsOk, rackIdOk_iff, recipeOk_iff, stationOk_iff, and_assoc]

theorem Station.takesAdmit_iff (x : Station) :
    x.takesAdmit = true ↔ x.kind = .load ∧ x.inService = true ∧ (x.occ = .empty ∨ x.occ = .foreign) := by
  simp [Station.takesAdmit, and_assoc]

theorem bnot_iff_not {b : Bool} {p : Prop} (h : b = true ↔ p) : (!b) = true ↔ ¬p := by
  rw [Bool.not_eq_true', ← Bool.not_eq_true, h]

/-- The checks of R29 in their order. -/
theorem State.admitRefusal_eq (e : QueueEntry) : s.admitRefusal e =
    if s.line.st = .standby then some .wrongState
    else if ¬(1 ≤ e.id ∧ e.id ≤ 65534 ∧ e.recipe ≤ 15 ∧ e.load ≤ 31 ∧ 1 ≤ e.area ∧ e.area ≤ 4095 ∧ -30 ≤ e.adjust ∧
      e.adjust ≤ 100) then some .badValue
    else if (∃ k : Nat, k < 24 ∧ ∃ r ∈ s.racks.get k, r.id = e.id) ∨ (∃ x ∈ s.queue, x.id = e.id) then some .duplicate
    else if (s.recipes.get e.recipe).st ≠ .ready then some .noRecipe
    else if ¬((s.stations.get e.load).kind = .load ∧ (s.stations.get e.load).inService = true ∧
      ((s.stations.get e.load).occ = .empty ∨ (s.stations.get e.load).occ = .foreign)) then some .busy
    else if (s.stations.get e.load).sensing = true ∧ s.level e.load = false then some .notLoaded
    else none := by
  have seated : (!s.loadSeated e.load) = true ↔ (s.stations.get e.load).sensing = true ∧ s.level e.load = false := by
    rw [bnot_iff_not (State.loadSeated_iff _), Classical.not_imp, Bool.not_eq_true]
  simp only [State.admitRefusal, bnot_iff_not (admitFieldsOk_iff e), State.knownId_iff,
    bnot_iff_not (Station.takesAdmit_iff _), seated]

theorem exec_admitRack_refused (h : s.TakesRequests) {e : QueueEntry} {code : ReplyCode}
    (refused : s.admitRefusal e = some code) :
    exec (.admitRack e.id e.recipe e.load e.area e.adjust) s = .next (s.reply 0x40 code []).driveOutputs := by
  refine exec_request_replies h rfl rfl h.2.1 ?_
  have slotted : (s.setRequestSlot (some (.good (.admitRack e.id e.recipe e.load e.area e.adjust)))).admitRefusal e =
      some code := refused
  show handleAdmit e _ = _
  simp only [handleAdmit, slotted]

/-- An ADMIT that passes its checks and is not admitted at once joins the queue or finds it full (02 R29, R32). -/
theorem exec_admitRack_waits (h : s.TakesRequests) {e : QueueEntry} (passes : s.admitRefusal e = none)
    (waits : s.queue ≠ [] ∨ s.admissionTest e = false) :
    exec (.admitRack e.id e.recipe e.load e.area e.adjust) s = .next (State.driveOutputs
      (if 8 ≤ s.queue.length then s.reply 0x40 .full [] else (s.joinQueue e).reply 0x40 .queued [])) := by
  have notNow : ¬(s.queue = [] ∧ s.admissionTest e = true) := fun now =>
    waits.elim (· now.1) (fun f => by rw [now.2] at f; cases f)
  have handled (t : State) (passes : t.admitRefusal e = none) (notNow : ¬(t.queue = [] ∧ t.admissionTest e = true)) :
      handleAdmit e t = if t.queue.length < 8 then (t.joinQueue e).reply 0x40 .queued []
        else t.reply 0x40 .full [] := by
    simp only [handleAdmit, passes, if_neg notNow]
  by_cases full : 8 ≤ s.queue.length
  · rw [if_pos full]
    exact exec_request_replies h rfl rfl h.2.1 ((handled (s.setRequestSlot _) passes notNow).trans (if_neg (by exact not_lt.mpr full)))
  · rw [if_neg full]
    exact exec_request_replies (t := s.joinQueue e) h rfl rfl h.2.1
      ((handled (s.setRequestSlot _) passes notNow).trans (if_pos (by exact not_le.mp full)))

/-- Settles O33: the items of the test, the least margin by the fold over the slots, and ADMIT by its checks. -/
theorem admissionTestAndRefusals : Obligations.AdmissionTestAndRefusals := by
  refine ⟨fun s e => State.admissionTest_iff e, fun s m k hk => ?margin,
    fun s id recipe load area adjust code h => ⟨State.admitRefusal_eq ⟨id, recipe, load, area, adjust⟩, fun first =>
      exec_admitRack_refused (e := ⟨id, recipe, load, area, adjust⟩) h ((State.admitRefusal_eq _).trans first)⟩,
    fun s e h passes waits => exec_admitRack_waits h passes waits⟩
  simp only [← State.rackMargin_eq]
  refine ⟨State.lineMargin_least.none_iff.trans (forall₂_congr (fun j _ => ?_)),
    (State.lineMargin_least.some_iff hk).trans (and_congr_right (fun _ => forall₂_congr (fun j _ => ?_)))⟩
  · cases s.racks.get j <;> simp
  · cases s.racks.get j <;> simp

end Sys2Proof.Machine
end

section
/-! PROOFS. The state a command ends in, set against the one its meaning has brought about: all but the link and the
output levels is the same (10 R179, 11 R191, R195). -/

namespace Sys2Proof.Machine

variable {s w t : State}

/-- From w to t all but the link and the output lines is the same. -/
structure State.Kept (w t : State) : Prop where
  tick       : t.tick = w.tick
  stations   : t.stations = w.stations
  marks      : t.marks = w.marks
  windows    : t.windows = w.windows
  baths      : t.baths = w.baths
  recipes    : t.recipes = w.recipes
  racks      : t.racks = w.racks
  seqCounter : t.seqCounter = w.seqCounter
  queue      : t.queue = w.queue
  requests   : t.requests = w.requests
  dispatcher : t.dispatcher = w.dispatcher
  hoistA     : t.hoistA = w.hoistA
  hoistB     : t.hoistB = w.hoistB
  span       : t.span = w.span
  gens       : t.gens = w.gens
  line       : t.line = w.line
  inputs     : t.io.inputs = w.io.inputs

namespace State.Kept

theorem of_eq (h : t = { w with link := t.link, io := { w.io with outputs := t.io.outputs } }) : w.Kept t := by
  rw [h]; constructor <;> rfl

theorem hoist (h : w.Kept t) (g : Hoist) : t.hoist g = w.hoist g := by cases g; exacts [h.hoistA, h.hoistB]

end State.Kept

/-- A command out of RESET that drives the outputs ends in what its meaning brings about. -/
theorem liveDriven_ends (h : s.resetHeld = false) (f : State → State) :
    ∃ t, liveDriven s f = .next t ∧ (f s).Kept t ∧ t.link = (f s).link :=
  ⟨_, liveDriven_next h f, .of_eq rfl, rfl⟩

/-- A request that is taken and changes more than the link ends in what its handler brings about, with the slot
emptied. -/
theorem exec_request_ends (h : s.TakesRequests) {i : Instr} (hi : i.isRequest = true) (hq : i.isQuery = false)
    (e : handleRequest i (s.setRequestSlot (some (.good i))) = w) :
    ∃ t, exec i s = .next t ∧ w.Kept t ∧ t.link = w.link.setSlot 3 none := by
  subst e
  exact ⟨_, exec_request_taken h hi hq, .of_eq rfl, rfl⟩

/-- The state t ends a request whose handler has brought about w, with the notices and the messages of w, and a reply
after them. -/
structure State.AnsweredFrom (w t : State) (kind : Nat) (code : ReplyCode) : Prop where
  kept     : w.Kept t
  answered : t.Answered kind code []
  notices  : w.link.KeepsNotices t.link
  queued   : ∀ c, c ≠ 3 → t.queued c = w.queued c

/-- A request that is taken, acts and replies. -/
theorem exec_request_answers (h : s.TakesRequests) {i : Instr} (hi : i.isRequest = true) (hq : i.isQuery = false)
    {kind : Nat} {code : ReplyCode}
    (e : handleRequest i (s.setRequestSlot (some (.good i))) = w.reply kind code []) :
    ∃ t, exec i s = .next t ∧ w.AnsweredFrom t kind code := by
  refine ⟨w.answered kind code [], ?_, .of_eq rfl, w.answered_answered kind code, w.answered_keepsNotices kind code [],
    fun c hc => w.answered_queued kind code [] hc⟩
  rw [exec_request_taken h hi hq, e]
  rfl

end Sys2Proof.Machine
end

section
/-! PROOFS. What the choice of a destination, the creation of a request and the retries of BLOCKED requests change
(05 R84, R86 to R89). -/

namespace Sys2Proof.Machine

/-- A rack record with its destination left out, which is all of it that the dispatcher writes. -/
def Rack.undirected (r : Rack) : Rack := { r with dest := none }

/-- A request with its destination and its state left out, which is all of it that a retry writes. -/
def Request.undirected (q : Request) : Request := { q with dest := none, st := .blocked }

variable {s t u : State}

/-! ### The destination chosen (05 R88) -/

/-- The nearest free station is one of the free stations wanted. -/
theorem nearest_mem {source : Nat} (l : List Nat) {best : Option Nat} {d : Nat}
    (h : l.foldl (nearer source) best = some d) : best = some d ∨ d ∈ l := by
  induction l generalizing best with
  | nil => exact .inl h
  | cons n l ih =>
    obtain e | mem := ih h
    · have here : best = some d ∨ d = n := by
        cases best with
        | none => exact .inr (Option.some.inj e).symm
        | some m =>
          unfold nearer at e
          dsimp only at e
          split at e
          · exact .inr (Option.some.inj e).symm
          · exact .inl e
      exact here.imp id (fun (e : d = n) => e ▸ List.mem_cons_self)
    · exact .inr (List.mem_cons_of_mem _ mem)

theorem State.nearestFree_some {w : Wanted} {source d : Nat} (h : s.nearestFree w source = some d) :
    d < 32 ∧ (s.stations.get d).isFree = true ∧ (s.stations.get d).fits w = true := by
  obtain e | mem := nearest_mem _ h
  · cases e
  · simpa [Table.mem_indices] using mem

theorem Station.isFree_iff (x : Station) : x.isFree = true ↔ x.occ = .empty ∧ x.inService = true := by
  simp [Station.isFree]

/-- What the choice of a destination can do: nothing without a request and a rack, a station RESERVED and the request
READY, or the request BLOCKED (05 R88). -/
theorem State.chooseDestination_cases (s : State) (k : Nat) :
    ((s.requests.get k = none ∨ s.racks.get k = none) ∧ s.chooseDestination k = s) ∨
    ∃ q r, s.requests.get k = some q ∧ s.racks.get k = some r ∧
      ((s.nearestFree (s.wanted r) q.source = none ∧
          s.chooseDestination k = s.setRequest k (some { q with dest := none, st := .blocked })) ∨
        ∃ d, s.nearestFree (s.wanted r) q.source = some d ∧ s.chooseDestination k =
          ((s.setOcc d (.reservedRack k)).setRack k (some { r with dest := some d })).setRequest k
            (some { q with dest := some d, st := .ready })) := by
  unfold State.chooseDestination
  cases hq : s.requests.get k with
  | none => exact .inl ⟨.inl rfl, rfl⟩
  | some q =>
    cases hr : s.racks.get k with
    | none => exact .inl ⟨.inr rfl, rfl⟩
    | some r =>
      refine .inr ⟨q, r, rfl, rfl, ?_⟩
      dsimp only
      cases s.nearestFree (s.wanted r) q.source with
      | none => exact .inl ⟨rfl, rfl⟩
      | some d => exact .inr ⟨d, rfl, rfl⟩

/-- A record that is there has a number of the table. -/
theorem Table.lt_of_get_some {α : Type} {n : Nat} {t : Table (Option α) n} {k : Nat} {a : α}
    (h : t.get k = some a) : k < n := by
  by_contra hk
  rw [t.get_outside (by omega)] at h
  cases h

theorem State.chooseDestination_racks_ne {j k : Nat} (h : j ≠ k) :
    (s.chooseDestination k).racks.get j = s.racks.get j := by
  obtain ⟨-, e⟩ | ⟨q, r, -, -, ⟨-, e⟩ | ⟨d, -, e⟩⟩ := s.chooseDestination_cases k <;> rw [e]
  · rfl
  · exact Table.get_set_ne _ (Ne.symm h) _

theorem State.chooseDestination_requests_ne {j k : Nat} (h : j ≠ k) :
    (s.chooseDestination k).requests.get j = s.requests.get j := by
  obtain ⟨-, e⟩ | ⟨q, r, -, -, ⟨-, e⟩ | ⟨d, -, e⟩⟩ := s.chooseDestination_cases k <;> rw [e]
  · exact Table.get_set_ne _ (Ne.symm h) _
  · exact Table.get_set_ne _ (Ne.symm h) _

theorem State.chooseDestination_rack (k : Nat) :
    ((s.chooseDestination k).racks.get k).map Rack.undirected = (s.racks.get k).map Rack.undirected := by
  obtain ⟨-, e⟩ | ⟨q, r, -, hr, ⟨-, e⟩ | ⟨d, -, e⟩⟩ := s.chooseDestination_cases k <;> rw [e]
  · rfl
  · show Option.map _ ((s.racks.set k _).get k) = _
    rw [Table.get_set_self _ (Table.lt_of_get_some hr), hr]
    rfl

/-- A request has been given a destination or waits for one in slot k: READY with a station RESERVED for the slot, or
BLOCKED without one (05 R88). -/
def State.Directed (s : State) (k : Nat) (q : Request) : Prop :=
  q.st = .blocked ∧ q.dest = none ∨ q.st = .ready ∧ ∃ d ∈ q.dest, (s.stations.get d).occ = .reservedRack k

theorem State.chooseDestination_request {k : Nat} {q : Request} {r : Rack} (hq : s.requests.get k = some q)
    (hr : s.racks.get k = some r) : ∃ p ∈ (s.chooseDestination k).requests.get k,
      p.undirected = q.undirected ∧ (s.chooseDestination k).Directed k p := by
  have hk := Table.lt_of_get_some hq
  obtain ⟨n | n, -⟩ | ⟨q', r', hq', -, ⟨-, e⟩ | ⟨d, hd, e⟩⟩ := s.chooseDestination_cases k
  · rw [hq] at n; cases n
  · rw [hr] at n; cases n
  all_goals
    obtain rfl : q = q' := Option.some.inj (hq.symm.trans hq')
    rw [e]
    refine ⟨_, Table.get_set_self _ hk _, rfl, ?_⟩
  · exact .inl ⟨rfl, rfl⟩
  · exact .inr ⟨rfl, d, rfl, congrArg Station.occ (Table.get_set_self _ (State.nearestFree_some hd).1 _)⟩

theorem State.chooseDestination_none {k : Nat} (h : s.requests.get k = none) : s.chooseDestination k = s := by
  obtain ⟨-, e⟩ | ⟨q, r, hq, -, -⟩ := s.chooseDestination_cases k
  · exact e
  · rw [h] at hq; cases hq

/-- The station that a choice of destination writes was EMPTY, and is RESERVED for the rack. -/
theorem State.chooseDestination_station (k n : Nat) :
    (s.chooseDestination k).stations.get n = s.stations.get n ∨
      (s.stations.get n).occ = .empty ∧ s.requests.get k ≠ none ∧
        (s.chooseDestination k).stations.get n = { s.stations.get n with occ := .reservedRack k } := by
  obtain ⟨-, e⟩ | ⟨q, r, hq, -, ⟨-, e⟩ | ⟨d, hd, e⟩⟩ := s.chooseDestination_cases k <;> rw [e]
  · exact .inl rfl
  · exact .inl rfl
  · obtain ⟨hlt, free, -⟩ := State.nearestFree_some hd
    by_cases hn : d = n
    · subst hn
      exact .inr ⟨((Station.isFree_iff _).mp free).1, by simp [hq], Table.get_set_self _ hlt _⟩
    · exact .inl (Table.get_set_ne _ hn _)

/-- A choice of destination writes stations, racks and requests only. -/
theorem State.chooseDestination_eq (k : Nat) : s.chooseDestination k = { s with
    stations := (s.chooseDestination k).stations, racks := (s.chooseDestination k).racks
    requests := (s.chooseDestination k).requests } := by
  obtain ⟨-, e⟩ | ⟨q, r, -, -, ⟨-, e⟩ | ⟨d, -, e⟩⟩ := s.chooseDestination_cases k <;> rw [e] <;> rfl

/-! ### A request created (05 R84, R86, R87) -/

/-- The request a rack is created, before its destination is chosen (05 R84). -/
def State.freshRequest (s : State) (r : Rack) : Request :=
  { source := r.station.getD 0, dest := none, cls := s.requestClass r, created := s.tick, st := .blocked, markA := none
    markB := none }

/-- A request created for the rack r of slot k, from s to t: the rack keeps all but its destination, and nothing else
changes but a station RESERVED for the slot (05 R84, R88). -/
structure State.RequestMade (s t : State) (k : Nat) (r : Rack) : Prop where
  rack     : (t.racks.get k).map Rack.undirected = some r.undirected
  request  : ∃ q ∈ t.requests.get k, q.undirected = s.freshRequest r ∧ t.Directed k q
  others   : ∀ j, j ≠ k → t.racks.get j = s.racks.get j ∧ t.requests.get j = s.requests.get j
  stations : ∀ n, t.stations.get n = s.stations.get n ∨
    (s.stations.get n).occ = .empty ∧ t.stations.get n = { s.stations.get n with occ := .reservedRack k }
  rest     : t = { s with stations := t.stations, racks := t.racks, requests := t.requests }

theorem State.createRequest_eq {k : Nat} {r : Rack} (h : s.racks.get k = some r) :
    s.createRequest k = (s.setRequest k (some (s.freshRequest r))).chooseDestination k := by
  simp only [State.createRequest, h, State.freshRequest]

theorem State.createRequest_none {k : Nat} (h : s.racks.get k = none) : s.createRequest k = s := by
  simp only [State.createRequest, h]

theorem State.createRequest_made {k : Nat} {r : Rack} (h : s.racks.get k = some r) :
    s.RequestMade (s.createRequest k) k r := by
  have here : (s.setRequest k (some (s.freshRequest r))).requests.get k = some (s.freshRequest r) :=
    Table.get_set_self _ (Table.lt_of_get_some h) _
  rw [State.createRequest_eq h]
  refine ⟨(State.chooseDestination_rack k).trans (congrArg (Option.map Rack.undirected) h),
    State.chooseDestination_request here h, fun j hj => ⟨State.chooseDestination_racks_ne hj,
      (State.chooseDestination_requests_ne hj).trans (Table.get_set_ne _ (Ne.symm hj) _)⟩,
    fun n => (State.chooseDestination_station k n).imp id (fun e => ⟨e.1, e.2.2⟩), State.chooseDestination_eq k⟩

/-! ### Retries of BLOCKED requests (05 R89) -/

/-- Retries of BLOCKED requests, from s to t: racks keep all but their destination, requests all but destination and
state, and a station changes only from EMPTY to RESERVED for a slot with a request; passes may be owed, and the rest is
the same (05 R88, R89). -/
structure State.Retried (s t : State) : Prop where
  racks    : ∀ k, (t.racks.get k).map Rack.undirected = (s.racks.get k).map Rack.undirected
  requests : ∀ k, (t.requests.get k).map Request.undirected = (s.requests.get k).map Request.undirected
  stations : ∀ n, t.stations.get n = s.stations.get n ∨ (s.stations.get n).occ = .empty ∧
    ∃ k, s.requests.get k ≠ none ∧ t.stations.get n = { s.stations.get n with occ := .reservedRack k }
  passes   : s.dispatcher.passesOwed ≤ t.dispatcher.passesOwed
  rest     : t = { s with
    stations := t.stations, racks := t.racks, requests := t.requests
    dispatcher := { s.dispatcher with passesOwed := t.dispatcher.passesOwed } }

namespace State.Retried

theorem refl (s : State) : s.Retried s :=
  ⟨fun _ => rfl, fun _ => rfl, fun _ => .inl rfl, Nat.le_refl _, rfl⟩

theorem request_none (h : s.Retried t) (k : Nat) : t.requests.get k = none ↔ s.requests.get k = none := by
  rw [← Option.map_eq_none_iff, h.requests, Option.map_eq_none_iff]

theorem rack_none (h : s.Retried t) (k : Nat) : t.racks.get k = none ↔ s.racks.get k = none := by
  rw [← Option.map_eq_none_iff, h.racks, Option.map_eq_none_iff]

theorem trans (h : s.Retried t) (g : t.Retried u) : s.Retried u where
  racks k := (g.racks k).trans (h.racks k)
  requests k := (g.requests k).trans (h.requests k)
  stations n := by
    obtain e | ⟨empty, k, hk, e⟩ := h.stations n
    · rw [← e]
      exact (g.stations n).imp id (fun ⟨empty, k, hk, e'⟩ => ⟨empty, k, mt (h.request_none k).mpr hk, e'⟩)
    · obtain e' | ⟨empty', -⟩ := g.stations n
      · exact .inr ⟨empty, k, hk, e'.trans e⟩
      · rw [e] at empty'; cases empty'
  passes := h.passes.trans g.passes
  rest := by rw [g.rest, h.rest]

theorem chooseDestination (s : State) (k : Nat) : s.Retried (s.chooseDestination k) where
  racks j := by
    by_cases h : j = k
    · subst h; exact State.chooseDestination_rack j
    · rw [State.chooseDestination_racks_ne h]
  requests j := by
    by_cases h : j = k
    · subst h
      cases hq : s.requests.get j with
      | none => rw [State.chooseDestination_none hq, hq]
      | some q =>
        cases hr : s.racks.get j with
        | none =>
          obtain ⟨-, e⟩ | ⟨_, _, -, h, -⟩ := s.chooseDestination_cases j
          · rw [e, hq]
          · rw [hr] at h; cases h
        | some r =>
          obtain ⟨p, hp, e, -⟩ := State.chooseDestination_request hq hr
          rw [hp]
          exact congrArg some e
    · rw [State.chooseDestination_requests_ne h]
  stations n := (State.chooseDestination_station k n).imp id (fun ⟨empty, hk, e⟩ => ⟨empty, k, hk, e⟩)
  passes := by simp
  rest := (State.chooseDestination_eq k).trans (by simp)

theorem triggerPass (s : State) : s.Retried s.triggerPass :=
  { refl s with passes := Nat.le_succ _, rest := rfl }

theorem retryOne (s : State) (k : Nat) : s.Retried (s.retryOne k) := by
  have chosen := chooseDestination s k
  unfold State.retryOne
  dsimp only
  split
  · split
    · exact chosen.trans (triggerPass _)
    · exact chosen
  · exact chosen

theorem foldl (l : List Nat) (s : State) : s.Retried (l.foldl State.retryOne s) := by
  induction l generalizing s with
  | nil => exact refl s
  | cons k l ih => exact (retryOne s k).trans (ih _)

theorem retryBlocked (s : State) (n : Nat) : s.Retried (s.retryBlocked n) := by
  unfold State.retryBlocked
  dsimp only
  split
  · exact foldl _ s
  · exact refl s

theorem retryIf (s : State) (n : Option Nat) : s.Retried (s.retryIf n) := by
  cases n with
  | none => exact refl s
  | some n => exact retryBlocked s n

theorem baths (h : s.Retried t) : t.baths = s.baths := by rw [h.rest]
theorem recipes (h : s.Retried t) : t.recipes = s.recipes := by rw [h.rest]
theorem marks (h : s.Retried t) : t.marks = s.marks := by rw [h.rest]
theorem windows (h : s.Retried t) : t.windows = s.windows := by rw [h.rest]
theorem line (h : s.Retried t) : t.line = s.line := by rw [h.rest]
theorem tick (h : s.Retried t) : t.tick = s.tick := by rw [h.rest]
theorem queue (h : s.Retried t) : t.queue = s.queue := by rw [h.rest]
theorem link (h : s.Retried t) : t.link = s.link := by rw [h.rest]
theorem span (h : s.Retried t) : t.span = s.span := by rw [h.rest]
theorem hoist (h : s.Retried t) (g : Hoist) : t.hoist g = s.hoist g := by rw [h.rest]; cases g <;> rfl

/-- A station that was not EMPTY is as it was. -/
theorem station_kept (h : s.Retried t) {n : Nat} (hn : (s.stations.get n).occ ≠ .empty) :
    t.stations.get n = s.stations.get n :=
  (h.stations n).elim id (fun ⟨empty, _⟩ => absurd empty hn)

/-- Retries write occupancies only. -/
theorem station_form (h : s.Retried t) (n : Nat) (o : Occupancy) :
    { t.stations.get n with occ := o } = { s.stations.get n with occ := o } := by
  obtain e | ⟨-, k, -, e⟩ := h.stations n <;> rw [e]

/-- A station is OCCUPIED after retries only where it was before. -/
theorem occupied (h : s.Retried t) {n k : Nat} (e : (t.stations.get n).occ = .occupied k) :
    (s.stations.get n).occ = .occupied k := by
  obtain e' | ⟨-, j, -, e'⟩ := h.stations n
  · rw [← e', e]
  · rw [e'] at e; cases e

/-- A station is RESERVED for a slot without a request after retries only where it was before. -/
theorem reserved (h : s.Retried t) {n k : Nat} (e : (t.stations.get n).occ = .reservedRack k)
    (hk : s.requests.get k = none) : (s.stations.get n).occ = .reservedRack k := by
  obtain e' | ⟨-, j, hj, e'⟩ := h.stations n
  · rw [← e', e]
  · rw [e'] at e
    obtain rfl := Occupancy.reservedRack.inj e
    exact absurd hk hj

end State.Retried

end Sys2Proof.Machine
end

section
/-! PROOFS. One admission and the retest of the admission queue, which repeats it (02 R27, R31, R39, R40, 05 R86). -/

namespace Sys2Proof.Machine

variable {s t u : State}

/-! ### Areas in flight (02 R39) -/

theorem State.raiseArea_areaInFlight (p : Nat → Bool) (area : Nat) {b : Nat} (hb : b < 8) :
    ((s.raiseArea p area).baths.get b).areaInFlight =
      (s.baths.get b).areaInFlight + (if p b = true then area else 0) := by
  rw [State.raiseArea_baths, Table.get_mapIdx _ _ hb]
  split <;> simp

theorem State.lowerArea_areaInFlight (p : Nat → Bool) (area : Nat) {b : Nat} (hb : b < 8) :
    ((s.lowerArea p area).baths.get b).areaInFlight =
      (s.baths.get b).areaInFlight - (if p b = true then area else 0) := by
  rw [State.lowerArea_baths, Table.get_mapIdx _ _ hb]
  split <;> simp

/-- A change of areas in flight writes nothing else of a bath. -/
theorem Table.mapIdx_form {β : Type} (part : Bath → β) {f : Nat → Bath → Bath} (h : ∀ b x, part (f b x) = part x)
    (t : Table Bath 8) (b : Nat) : part ((t.mapIdx f).get b) = part (t.get b) := by
  by_cases hb : b < 8
  · rw [Table.get_mapIdx _ _ hb, h]
  · rw [Table.get_outside _ (by omega), Table.get_outside _ (by omega)]

theorem State.raiseArea_form {β : Type} (part : Bath → β) (h : ∀ x a, part { x with areaInFlight := a } = part x)
    (p : Nat → Bool) (area b : Nat) : part ((s.raiseArea p area).baths.get b) = part (s.baths.get b) := by
  rw [State.raiseArea_baths]
  refine Table.mapIdx_form part (fun b x => ?_) _ b
  split
  · exact h x _
  · rfl

theorem State.lowerArea_form {β : Type} (part : Bath → β) (h : ∀ x a, part { x with areaInFlight := a } = part x)
    (p : Nat → Bool) (area b : Nat) : part ((s.lowerArea p area).baths.get b) = part (s.baths.get b) := by
  rw [State.lowerArea_baths]
  refine Table.mapIdx_form part (fun b x => ?_) _ b
  split
  · exact h x _
  · rfl

/-! ### One admission (02 R31) -/

/-- The ADMITTED notice of an entry admitted into slot k (02 R27). -/
def QueueEntry.admittedNotice (e : QueueEntry) (seq : Sequence) (k : Nat) : OutMsg :=
  .rack (.admitted seq e.load) e.id k .atLoad 0 (some e.load)

/-- The entry e admitted into the free slot k, from s to t, but for its notice: the record of R31 in the slot, its
request, its station OCCUPIED, the areas of its recipe's baths raised and a pass triggered; nothing else changes but a
station RESERVED for the slot (02 R31, R39, 05 R86). -/
structure State.AdmittedAt (s t : State) (e : QueueEntry) (k : Nat) : Prop where
  rack     : (t.racks.get k).map Rack.undirected = some (e.rack (nextSequence s.seqCounter))
  request  : ∃ q ∈ t.requests.get k, q.source = e.load ∧ q.cls = .openEnded ∧ q.markA = none ∧ q.markB = none ∧
    t.Directed k q
  others   : ∀ j, j ≠ k → t.racks.get j = s.racks.get j ∧ t.requests.get j = s.requests.get j
  load     : e.load < 32 → (t.stations.get e.load).occ = .occupied k
  stations : ∀ n, ∃ o, t.stations.get n = { s.stations.get n with occ := o } ∧
    (o = (s.stations.get n).occ ∨ o = .occupied k ∨ o = .reservedRack k)
  baths    : t.baths = (s.raiseArea (s.usedFrom e.recipe 1) e.area).baths
  rest     : t = { s with
    stations := t.stations, baths := t.baths, racks := t.racks, seqCounter := nextSequence s.seqCounter
    requests := t.requests, dispatcher := { s.dispatcher with passesOwed := s.dispatcher.passesOwed + 1 } }

/-- The record of R31 in slot k, its station OCCUPIED and the areas raised, with the request still to come. -/
def State.seatEntry (s : State) (e : QueueEntry) (k : Nat) : State :=
  ({ s.setRack k (some (e.rack (nextSequence s.seqCounter))) with seqCounter := nextSequence s.seqCounter }.setOcc
    e.load (.occupied k)).raiseArea (s.usedFrom e.recipe 1) e.area

theorem State.placeAdmitted_eq (s : State) (e : QueueEntry) (k : Nat) :
    s.placeAdmitted e k = ((s.seatEntry e k).createRequest k).triggerPass := rfl

theorem State.seatEntry_station (s : State) (e : QueueEntry) (k n : Nat) :
    ∃ o, (s.seatEntry e k).stations.get n = { s.stations.get n with occ := o } ∧
      (o = (s.stations.get n).occ ∨ o = .occupied k) := by
  have written : (s.seatEntry e k).stations.get n =
      (s.stations.set e.load { s.stations.get e.load with occ := .occupied k }).get n := rfl
  rw [written, Table.get_set]
  split
  · next h => exact ⟨.occupied k, by rw [h.1], .inr rfl⟩
  · exact ⟨_, rfl, .inl rfl⟩

theorem State.placeAdmitted_admittedAt (s : State) (e : QueueEntry) {k : Nat} (hk : k < 24) :
    s.AdmittedAt (s.placeAdmitted e k) e k := by
  have rack : (s.seatEntry e k).racks.get k = some (e.rack (nextSequence s.seqCounter)) := Table.get_set_self _ hk _
  obtain ⟨rack, ⟨q, hq, form, directed⟩, others, stations, rest⟩ := State.createRequest_made rack
  rw [State.placeAdmitted_eq]
  refine ⟨rack, ⟨q, hq, congrArg Request.source form, ?cls, congrArg Request.markA form, congrArg Request.markB form,
    directed⟩, fun j hj => ?others, fun hl => ?load, fun n => ?stations, ?baths, ?rest⟩
  case cls => exact congrArg Request.cls form
  case others =>
    obtain ⟨racks, requests⟩ := others j hj
    exact ⟨racks.trans (Table.get_set_ne _ (Ne.symm hj) _), requests⟩
  case load =>
    have seated : ((s.seatEntry e k).stations.get e.load).occ = .occupied k :=
      congrArg Station.occ (Table.get_set_self _ hl _)
    obtain same | ⟨empty, -⟩ := stations e.load
    · exact (congrArg Station.occ same).trans seated
    · rw [seated] at empty; cases empty
  case stations =>
    obtain ⟨o, seated, ho⟩ := s.seatEntry_station e k n
    obtain same | ⟨-, reserved⟩ := stations n
    · exact ⟨o, same.trans seated, ho.imp id .inl⟩
    · exact ⟨.reservedRack k, by rw [State.triggerPass_stations, reserved, seated], .inr (.inr rfl)⟩
  case baths => exact State.createRequest_baths _ _
  case rest => rw [rest]; rfl

/-! ### The retest of the queue (02 R40) -/

/-- The head e of the queue admitted into slot k, with its notice (02 R27, R31, R40). -/
def State.admitHead (s : State) (e : QueueEntry) (rest : List QueueEntry) (k : Nat) : State :=
  (({ s with queue := rest } : State).placeAdmitted e k).noticeAdmitted k

/-- The ADMITTED notice tells of the record of R31, whatever destination it has been given. -/
theorem State.noticeAdmitted_eq {e : QueueEntry} {seq : Sequence} {k : Nat}
    (h : (t.racks.get k).map Rack.undirected = some (e.rack seq)) :
    t.noticeAdmitted k = t.notify (e.admittedNotice seq k) := by
  obtain ⟨r, hr, form⟩ := Option.map_eq_some_iff.mp h
  have fields {β : Type} (part : Rack → β) (hp : ∀ x : Rack, part x.undirected = part x) :
      part r = part (e.rack seq) := (hp r).symm.trans (congrArg part form)
  unfold State.noticeAdmitted State.rackNotice
  simp only [hr, fields Rack.seq (fun _ => rfl), fields Rack.load (fun _ => rfl), fields Rack.id (fun _ => rfl),
    fields Rack.st (fun _ => rfl), fields Rack.stepIdx (fun _ => rfl), fields Rack.station (fun _ => rfl)]
  rfl

theorem State.AdmittedAt.link {e : QueueEntry} {k : Nat} (h : s.AdmittedAt t e k) : t.link = s.link := by
  rw [h.rest]

/-- An admission reads nothing of the link. -/
theorem State.AdmittedAt.relink {e : QueueEntry} {k : Nat} (h : s.AdmittedAt t e k) (l : Link) :
    { s with link := l }.AdmittedAt { t with link := l } e k :=
  { h with rest := by conv_lhs => rw [h.rest] }

/-- The state from which the head e of the queue is admitted into a slot, with its notice queued. -/
def State.lessHead (s : State) (e : QueueEntry) (rest : List QueueEntry) (k : Nat) : State :=
  { s with queue := rest, link := s.link.notify (e.admittedNotice (nextSequence s.seqCounter) k) }

theorem State.admitHead_admittedAt (e : QueueEntry) (rest : List QueueEntry) {k : Nat} (hk : k < 24) :
    (s.lessHead e rest k).AdmittedAt (s.admitHead e rest k) e k := by
  have admitted := State.placeAdmitted_admittedAt { s with queue := rest } e hk
  have link : ({ s with queue := rest }.placeAdmitted e k).link = s.link := State.placeAdmitted_link _ e k
  unfold State.admitHead
  rw [State.noticeAdmitted_eq admitted.rack, State.notify, link]
  exact admitted.relink _

/-- The first entry admitted by a retest is followed by the retest of the rest. -/
theorem State.retestFrom_admits {n : Nat} {e : QueueEntry} {rest : List QueueEntry} {k : Nat}
    (hq : s.queue = e :: rest) (ht : s.admissionTest e = true) (hk : s.freeSlot = some k) :
    s.retestFrom (n + 1) = (s.admitHead e rest k).retestFrom n := by
  simp only [State.retestFrom, hq, ht, hk, if_true, State.admitHead]

theorem State.retestFrom_fails {n : Nat} {e : QueueEntry} {rest : List QueueEntry} (hq : s.queue = e :: rest)
    (ht : s.admissionTest e = false) : s.retestFrom n = s := by
  cases n with
  | zero => rfl
  | succ n => simp [State.retestFrom, hq, ht]

theorem State.retestFrom_nil {n : Nat} (hq : s.queue = []) : s.retestFrom n = s := by
  cases n with
  | zero => rfl
  | succ n => simp [State.retestFrom, hq]

theorem State.freeSlot_of_test {e : QueueEntry} (h : s.admissionTest e = true) : ∃ k, s.freeSlot = some k := by
  simp only [State.admissionTest, Bool.and_eq_true] at h
  exact Option.isSome_iff_exists.mp h.1.1.1.1

theorem State.admitHead_queue (e : QueueEntry) (rest : List QueueEntry) (k : Nat) :
    (s.admitHead e rest k).queue = rest :=
  (State.noticeAdmitted_queue _ k).trans (State.placeAdmitted_queue _ e k)

/-- What every admission of a retest keeps, the retest keeps; at its end the queue is empty or its head fails the
test (02 R40). -/
theorem State.retestFrom_keeps {P : State → Prop} (step : ∀ t e rest k, t.queue = e :: rest →
      t.admissionTest e = true → t.freeSlot = some k → P t → P (t.admitHead e rest k)) (n : Nat)
    (hn : s.queue.length ≤ n) (hs : P s) :
    P (s.retestFrom n) ∧ ∀ x ∈ (s.retestFrom n).queue.head?, (s.retestFrom n).admissionTest x = false := by
  induction n generalizing s with
  | zero =>
    have hq : s.queue = [] := List.length_eq_zero_iff.mp (by omega)
    exact ⟨hs, fun x hx => by rw [State.retestFrom_nil hq, hq] at hx; cases hx⟩
  | succ n ih =>
    cases hq : s.queue with
    | nil => rw [State.retestFrom_nil hq, hq]; exact ⟨hs, nofun⟩
    | cons e rest =>
      cases ht : s.admissionTest e with
      | false =>
        rw [State.retestFrom_fails hq ht, hq]
        exact ⟨hs, fun x hx => by obtain rfl := Option.some.inj hx; exact ht⟩
      | true =>
        obtain ⟨k, hk⟩ := State.freeSlot_of_test ht
        rw [State.retestFrom_admits hq ht hk]
        refine ih ?_ (step s e rest k hq ht hk hs)
        rw [State.admitHead_queue]
        rw [hq, List.length_cons] at hn
        omega

theorem State.retestHead_keeps {P : State → Prop} (step : ∀ t e rest k, t.queue = e :: rest →
      t.admissionTest e = true → t.freeSlot = some k → P t → P (t.admitHead e rest k)) (hs : P s) : P s.retestHead :=
  (State.retestFrom_keeps step _ (Nat.le_refl _) hs).1

theorem State.retestHead_ends : ∀ x ∈ s.retestHead.queue.head?, s.retestHead.admissionTest x = false :=
  (State.retestFrom_keeps (P := fun _ => True) (fun _ _ _ _ _ _ _ _ => trivial) _ (Nat.le_refl _) trivial).2

/-- A retest writes only what admissions write. -/
theorem State.retestHead_eq (s : State) : s.retestHead = { s with
    queue := s.retestHead.queue, racks := s.retestHead.racks, requests := s.retestHead.requests
    stations := s.retestHead.stations, baths := s.retestHead.baths, seqCounter := s.retestHead.seqCounter
    dispatcher := { s.dispatcher with passesOwed := s.retestHead.dispatcher.passesOwed }
    link := s.retestHead.link } := by
  obtain ⟨queue, racks, requests, stations, baths, seqCounter, passes, link, e⟩ :=
    State.retestHead_keeps (s := s) (P := fun t => ∃ queue racks requests stations baths seqCounter passes link, t =
      { s with
        queue := queue, racks := racks, requests := requests, stations := stations, baths := baths
        seqCounter := seqCounter, dispatcher := { s.dispatcher with passesOwed := passes }, link := link })
      (fun t e rest k _ _ hk ⟨_, _, _, _, _, _, _, _, h⟩ => by
        have admitted := State.admitHead_admittedAt (s := t) e rest (State.freeSlot_eq_some.mp hk).1
        rw [admitted.rest]
        subst h
        exact ⟨_, _, _, _, _, _, _, _, rfl⟩)
      ⟨_, _, _, _, _, _, _, _, rfl⟩
  rw [e]

/-- A slot that a rack holds keeps its rack and its request over a retest. -/
theorem State.retestHead_slot {k : Nat} (hk : s.racks.get k ≠ none) :
    s.retestHead.racks.get k = s.racks.get k ∧ s.retestHead.requests.get k = s.requests.get k := by
  refine State.retestHead_keeps (P := fun t => t.racks.get k = s.racks.get k ∧ t.requests.get k = s.requests.get k)
    (fun t e rest j _ _ hj ⟨racks, requests⟩ => ?_) ⟨rfl, rfl⟩
  obtain ⟨lt, free, -⟩ := State.freeSlot_eq_some.mp hj
  have ne : k ≠ j := fun h => hk (racks.symm.trans (h ▸ free))
  obtain ⟨racks', requests'⟩ := (State.admitHead_admittedAt e rest lt).others k ne
  exact ⟨racks'.trans racks, requests'.trans requests⟩

/-- A retest admits from the head, one pass triggered for each entry (02 R40, 05 R86). -/
theorem State.retestHead_queue (s : State) : ∃ n, n ≤ s.queue.length ∧ s.retestHead.queue = s.queue.drop n ∧
    s.retestHead.dispatcher.passesOwed = s.dispatcher.passesOwed + n := by
  refine State.retestHead_keeps (P := fun t => ∃ n, n ≤ s.queue.length ∧ t.queue = s.queue.drop n ∧
    t.dispatcher.passesOwed = s.dispatcher.passesOwed + n) (fun t e rest k hq _ hk ⟨n, hn, queue, passes⟩ => ?_)
    ⟨0, Nat.zero_le _, rfl, rfl⟩
  have more : n < s.queue.length := by
    by_contra h
    rw [queue, List.drop_eq_nil_of_le (by omega)] at hq
    cases hq
  refine ⟨n + 1, more, ?_, ?_⟩
  · rw [State.admitHead_queue, ← List.drop_drop, ← queue, hq]; rfl
  · rw [(State.admitHead_admittedAt e rest (State.freeSlot_eq_some.mp hk).1).rest]
    show t.dispatcher.passesOwed + 1 = _
    omega

/-- A rack in a slot that was free before a retest is an entry of the queue (02 R31, R40). -/
theorem State.retestHead_new {k : Nat} {x : Rack} (hk : s.racks.get k = none) (hx : s.retestHead.racks.get k = some x) :
    x.st = .atLoad ∧ x.stepIdx = 0 ∧ ∃ e ∈ s.queue, e.id = x.id ∧ e.load = x.load := by
  refine (State.retestHead_keeps (P := fun t => (∃ n, t.queue = s.queue.drop n) ∧ ∀ x, t.racks.get k = some x →
    x.st = .atLoad ∧ x.stepIdx = 0 ∧ ∃ e ∈ s.queue, e.id = x.id ∧ e.load = x.load)
    (fun t e rest j hq _ hj ⟨⟨n, queue⟩, racks⟩ => ?_) ⟨⟨0, rfl⟩, fun x h => ?_⟩).2 x hx
  · have admitted := State.admitHead_admittedAt e rest (State.freeSlot_eq_some.mp hj).1 (s := t)
    have mem : e ∈ s.queue := List.mem_of_mem_drop (queue ▸ hq ▸ List.mem_cons_self : e ∈ s.queue.drop n)
    refine ⟨⟨n + 1, ?_⟩, fun x hx => ?_⟩
    · rw [State.admitHead_queue, ← List.drop_drop, ← queue, hq]; rfl
    · by_cases hkj : k = j
      · subst hkj
        have form := admitted.rack
        rw [hx] at form
        have form := Option.some.inj form
        exact ⟨congrArg Rack.st form, congrArg Rack.stepIdx form, e, mem, (congrArg Rack.id form).symm,
          (congrArg Rack.load form).symm⟩
      · exact racks x ((admitted.others k hkj).1.symm.trans hx)
  · rw [hk] at h; cases h

/-- A retest whose head passes admits it and retests the rest. -/
theorem State.retestHead_admits {e : QueueEntry} {rest : List QueueEntry} {k : Nat} (hq : s.queue = e :: rest)
    (ht : s.admissionTest e = true) (hk : s.freeSlot = some k) :
    s.retestHead = (s.admitHead e rest k).retestHead := by
  rw [State.retestHead, hq, List.length_cons, State.retestFrom_admits hq ht hk, State.retestHead, State.admitHead_queue]

/-- A retest that admits nothing changes nothing. -/
theorem State.retestHead_same (h : s.retestHead.queue.length = s.queue.length) : s.retestHead = s := by
  cases hq : s.queue with
  | nil => exact State.retestHead_nil hq
  | cons e rest =>
    cases ht : s.admissionTest e with
    | false => exact State.retestHead_fails hq ht
    | true =>
      obtain ⟨k, hk⟩ := State.freeSlot_of_test ht
      obtain ⟨n, -, queue, -⟩ := (s.admitHead e rest k).retestHead_queue
      rw [State.retestHead_admits hq ht hk, queue, State.admitHead_queue, hq, List.length_drop, List.length_cons] at h
      omega

theorem State.retestHead_keepsNotices (s : State) : s.link.KeepsNotices s.retestHead.link := by
  refine State.retestHead_keeps (P := fun t => s.link.KeepsNotices t.link) (fun t e rest j _ _ hj h => ?_) (.refl _)
  rw [(State.admitHead_admittedAt e rest (State.freeSlot_eq_some.mp hj).1).rest]
  exact h.trans (t.link.notify_keepsNotices _)

/-! ### ADMIT admitted at once (02 R31) -/

/-- A reply and a notice queued while the request stands in the slot, which is then emptied. -/
theorem Link.reply_notify_within {l : Link} (h : l.slot 3 = none) (f : Option SlotFrame) (kind : Nat)
    (code : ReplyCode) (contents : List Byte) (m : OutMsg) :
    (((l.setSlot 3 f).reply kind code contents).notify m).setSlot 3 none = (l.reply kind code contents).notify m := by
  rw [Link.reply_setSlot, Link.notify_setSlot, Link.setSlot_setSlot, Link.setSlot_none]
  rw [Link.slot_notify, Link.slot_reply, h]

/-- A request admitted at once: the entry in the lowest free slot, its recipe counted, the reply and then the notice
(02 R31). -/
theorem exec_admitRack_admits (h : s.TakesRequests) {e : QueueEntry} {k : Nat} (passes : s.admitRefusal e = none)
    (hq : s.queue = []) (ht : s.admissionTest e = true) (hk : s.freeSlot = some k) :
    ∃ w t, exec (.admitRack e.id e.recipe e.load e.area e.adjust) s = .next t ∧ s.AdmittedAt w e k ∧
      (w.raiseRefs e.recipe).Kept t ∧
      t.link = (s.link.reply 0x40 .ok []).notify (e.admittedNotice (nextSequence s.seqCounter) k) := by
  generalize hu : s.setRequestSlot (some (.good (.admitRack e.id e.recipe e.load e.area e.adjust))) = u
  generalize hw : u.placeAdmitted e k = w
  have admitted : u.AdmittedAt w e k := hw ▸ State.placeAdmitted_admittedAt u e (State.freeSlot_eq_some.mp hk).1
  have seq : s.seqCounter = u.seqCounter := by rw [← hu]; rfl
  have slotted : { u with link := s.link } = s := by rw [← hu]; rfl
  have passes : u.admitRefusal e = none := hu ▸ passes
  have now : u.queue = [] ∧ u.admissionTest e = true := hu ▸ ⟨hq, ht⟩
  have free : u.freeSlot = some k := hu ▸ hk
  have noticed : ((w.raiseRefs e.recipe).reply 0x40 .ok []).noticeAdmitted k = _ :=
    State.noticeAdmitted_eq admitted.rack
  have handled : handleRequest (.admitRack e.id e.recipe e.load e.area e.adjust) u =
      ((w.raiseRefs e.recipe).reply 0x40 .ok []).notify (e.admittedNotice (nextSequence s.seqCounter) k) := by
    rw [seq, ← noticed, ← hw]
    show handleAdmit e u = _
    simp only [handleAdmit, passes, now, free, and_self, if_true]
  obtain ⟨t, run, kept, link⟩ := exec_request_ends h rfl rfl (hu ▸ handled)
  refine ⟨{ w with link := s.link }, t, run, slotted ▸ admitted.relink s.link, { kept with }, link.trans ?_⟩
  show ((w.link.reply 0x40 .ok []).notify _).setSlot 3 none = _
  rw [admitted.link, ← hu]
  exact Link.reply_notify_within h.2.1 _ _ _ _ _

theorem State.raiseRefs_get (s : State) {n : Nat} (hn : n < 16) :
    ((s.raiseRefs n).recipes.get n).refs = (s.recipes.get n).refs + 1 :=
  congrArg Recipe.refs (Table.get_set_self _ hn _)

theorem State.areaInFlight_of_admitted {e : QueueEntry} {k : Nat} (h : s.AdmittedAt t e k) {b : Nat} (hb : b < 8) :
    (t.baths.get b).areaInFlight = (s.baths.get b).areaInFlight +
      (if ∃ st ∈ (s.recipes.get e.recipe).steps, st.bath = b then e.area else 0) := by
  rw [h.baths, State.raiseArea_areaInFlight _ _ hb]
  simp only [State.usedFrom_one]

/-- The record of R31 in the slot. -/
theorem State.AdmittedAt.record {e : QueueEntry} {k : Nat} (h : s.AdmittedAt t e k) :
    ∃ r ∈ t.racks.get k, r.undirected = e.rack (nextSequence s.seqCounter) :=
  Option.map_eq_some_iff.mp h.rack

/-- An ADMIT that passes its checks names a load station and a recipe of the tables (02 R29). -/
theorem State.admitRefusal_none {e : QueueEntry} (h : s.admitRefusal e = none) : e.load < 32 ∧ e.recipe < 16 := by
  by_contra out
  rw [State.admitRefusal_eq] at h
  split at h
  · cases h
  · split at h
    · cases h
    · next fields => exact fields (by omega)

/-- Settles O34: one admission for ADMIT, and the retest by its first admission and what the others keep. -/
theorem admitAdmitted : Obligations.AdmitAdmitted := by
  refine ⟨fun s e k h passes hq ht free lower hk => ?now, fun s e k hk => ⟨s.retestHead_eq, s.retestHead_queue,
    State.retestHead_ends, fun head => ?stays, fun head test free lower => ?retest⟩⟩
  case now =>
    obtain ⟨w, t, run, admitted, kept, link⟩ :=
      exec_admitRack_admits h passes hq ht (State.freeSlot_eq_some.mpr ⟨hk, free, lower⟩)
    obtain ⟨load, recipe⟩ := State.admitRefusal_none passes
    have same {β : Type} (part : State → β) : part w = part _ := congrArg part admitted.rest
    have stations : t.stations = w.stations := kept.stations
    have racks : t.racks = w.racks := kept.racks
    have requests : t.requests = w.requests := kept.requests
    obtain ⟨q, hqk, source, cls, markA, markB, directed⟩ := admitted.request
    refine ⟨t, run, racks ▸ admitted.record, kept.seqCounter.trans (same State.seqCounter),
      ⟨q, requests ▸ hqk, source, cls, markA, markB, ?directed⟩, stations ▸ admitted.load load, fun b hb => ?areas, ?refs,
      congrArg Dispatcher.passesOwed (kept.dispatcher.trans (same State.dispatcher)),
      fun j _ hj => racks ▸ requests ▸ admitted.others j hj, link, (kept.queue.trans (same State.queue)).trans hq,
      kept.line.trans (same State.line), kept.hoistA.trans (same State.hoistA), kept.hoistB.trans (same State.hoistB),
      kept.span.trans (same State.span), kept.gens.trans (same State.gens),
      kept.inputs.trans (congrArg StationIo.inputs (same State.io)), kept.tick.trans (same State.tick)⟩
    case directed => rw [stations]; exact directed
    case areas => rw [kept.baths]; exact State.areaInFlight_of_admitted admitted hb
    case refs =>
      rw [kept.recipes, State.raiseRefs_get w recipe, same State.recipes]
  case stays =>
    cases hq : s.queue with
    | nil => exact State.retestHead_nil hq
    | cons x rest =>
      rw [hq] at head
      exact State.retestHead_fails hq (Bool.eq_false_iff.mpr (fun f => head (congrArg some f)))
  case retest =>
    obtain ⟨rest, hq⟩ := List.head?_eq_some_iff.mp head
    have first := State.retestHead_admits hq test (State.freeSlot_eq_some.mpr ⟨hk, free, lower⟩)
    have admitted := State.admitHead_admittedAt (s := s) e rest hk
    obtain ⟨r, hr, record⟩ := admitted.record
    obtain ⟨racks, requests⟩ := State.retestHead_slot (s := s.admitHead e rest k) (k := k) (by rw [hr]; nofun)
    obtain ⟨q, hqk, source, cls, markA, markB, directed⟩ := admitted.request
    obtain ⟨n, -, queue, -⟩ := (s.admitHead e rest k).retestHead_queue
    have length : s.retestHead.queue.length ≤ rest.length := by
      rw [first, queue, State.admitHead_queue, List.length_drop]; omega
    refine ⟨by rw [hq]; exact Nat.lt_succ_of_le length, ⟨r, first ▸ racks.trans hr, record⟩,
      ⟨q, first ▸ requests.trans hqk, source, cls, markA, markB,
        directed.imp id (fun ⟨ready, d, hd, _⟩ => ⟨ready, by rw [hd]; nofun⟩)⟩, fun once => ?_⟩
    have only : s.retestHead = s.admitHead e rest k := by
      rw [first] at once ⊢
      refine State.retestHead_same ?_
      rw [State.admitHead_queue]
      rw [hq, List.length_cons] at once
      omega
    rw [only]
    exact ⟨congrArg State.seqCounter admitted.rest, congrArg State.link admitted.rest, admitted.load,
      fun b hb => State.areaInFlight_of_admitted admitted hb, fun j _ hj => admitted.others j hj⟩

end Sys2Proof.Machine
end

section
/-! PROOFS. The closing of an order, and the freeing of a rack's record: the cancel on freeing, what the freeing hands
back, and the retries and the retest that follow it (02 R34, R35, R40, 06 R108, R121, 07 R138, R139). -/

namespace Sys2Proof.Machine

variable {s t u w : State}

/-! ### An order closed (06 R108) -/

theorem State.sendSpan_link (s : State) (h : Hoist) : (s.sendSpan h).link =
    s.link.send h.channel ((s.spanOf h).message (nextNumber (s.seqOf h))) := by
  have e : (s.sendSpan h).link = ((s.setSeq h (nextNumber (s.seqOf h))).sendHoist h
      (.span (s.spanOf h).ends.1 (s.spanOf h).ends.2 (nextNumber (s.seqOf h)))).link := by
    unfold State.sendSpan
    cases h <;> dsimp only <;> (repeat' split) <;> rfl
  rw [e, Span.ends_message]
  cases h <;> rfl

theorem State.sendSpan_keepsNotices (s : State) (h : Hoist) : s.link.KeepsNotices (s.sendSpan h).link := by
  rw [State.sendSpan_link]
  exact s.link.send_keepsNotices (by cases h <;> decide) _

theorem State.beginShrinking_keepsNotices (s : State) : s.link.KeepsNotices s.beginShrinking.link := by
  have sent := ((s.setHandover { s.span.handover with stage := .shrinking }).setSpan s.span.handover.taker.other
    s.span.handover.narrowed).sendSpan_keepsNotices s.span.handover.taker.other
  have same : ((s.setHandover { s.span.handover with stage := .shrinking }).setSpan s.span.handover.taker.other
    s.span.handover.narrowed).link = s.link := by cases s.span.handover.taker <;> rfl
  rw [same] at sent
  exact sent

theorem State.becomeIdle_keepsNotices (s : State) (h : Hoist) : s.link.KeepsNotices (s.becomeIdle h).link := by
  have closed : ((s.setHoist h { s.hoist h with st := .idle, order := none, timer := none }).triggerPass).link =
      s.link := by cases h <;> rfl
  obtain ⟨-, e⟩ | ⟨-, e⟩ := s.becomeIdle_cases h <;> rw [e]
  · rw [closed]; exact .refl _
  · exact closed ▸ State.beginShrinking_keepsNotices _

theorem State.beginShrinking_hoist (s : State) (g : Hoist) : s.beginShrinking.hoist g = s.hoist g := by
  cases g
  · exact s.beginShrinking_hoistA
  · exact s.beginShrinking_hoistB

theorem State.becomeIdle_hoist (s : State) (h g : Hoist) :
    (s.becomeIdle h).hoist g = if g = h then (s.hoist h).idled else s.hoist g := by
  have closed : ((s.setHoist h { s.hoist h with st := .idle, order := none, timer := none }).triggerPass).hoist g =
      if g = h then (s.hoist h).idled else s.hoist g := by cases h <;> cases g <;> rfl
  obtain ⟨-, e⟩ | ⟨-, e⟩ := s.becomeIdle_cases h <;> rw [e]
  · exact closed
  · rw [State.beginShrinking_hoist]; exact closed

theorem State.becomeIdle_passes (s : State) (h : Hoist) :
    (s.becomeIdle h).dispatcher.passesOwed = s.dispatcher.passesOwed + 1 := by
  obtain ⟨-, e⟩ | ⟨-, e⟩ := s.becomeIdle_cases h <;> rw [e]
  · cases h <;> rfl
  · rw [State.beginShrinking_dispatcher]; cases h <;> rfl

/-- The bound request of the handover replaced after an order has closed (07 R135). -/
theorem State.OrderClosed.rebound {h : Hoist} {b c : Option Nat} (closed : s.OrderClosed t h b)
    (span : u.span = { t.span with handover := { t.span.handover with bound := c } }) : s.OrderClosed u h c := by
  have spans (g : Hoist) : u.spanOf g = t.spanOf g := by cases g <;> simp only [State.spanOf, span]
  have seqs (g : Hoist) : u.seqOf g = t.seqOf g := by cases g <;> simp only [State.seqOf, span]
  refine ⟨fun waits => ?_, fun stays => ?_⟩
  · obtain ⟨narrowed, taker, sequence, record, settings⟩ := closed.1 waits
    refine ⟨(spans h).trans narrowed, ?_, (seqs h).trans sequence, ?_, ?_⟩
    · rw [spans, seqs]; exact taker
    · rw [seqs, span, record]
    · rw [span]; exact settings
  · rw [span, closed.2 stays]

/-- The bound request of the handover after an order has closed is as before (07 R138). -/
theorem State.OrderClosed.bound {h : Hoist} {b : Option Nat} (closed : s.OrderClosed t h b) :
    t.span.handover.bound = b := by
  by_cases waits : s.WaitsFor h
  · rw [(closed.1 waits).record]
  · rw [closed.2 waits]

/-- An order's closing reads nothing of the link or of the requests, so that it may be told of a state that differs
there. -/
theorem State.OrderClosed.of_same {h : Hoist} {b : Option Nat} (closed : s.OrderClosed t h b) (span : u.span = s.span)
    (timing : ∀ g, (u.hoist g).timing = (s.hoist g).timing) (line : u.line = s.line) : u.OrderClosed t h b := by
  have spans (g : Hoist) : u.spanOf g = s.spanOf g := by cases g <;> simp only [State.spanOf, span]
  have seqs (g : Hoist) : u.seqOf g = s.seqOf g := by cases g <;> simp only [State.seqOf, span]
  have waitsFor : u.WaitsFor h ↔ s.WaitsFor h := by unfold State.WaitsFor; rw [span]
  refine ⟨fun waits => ?_, fun stays => ?_⟩
  · obtain ⟨narrowed, taker, sequence, record, settings⟩ := closed.1 (waitsFor.mp waits)
    exact ⟨span ▸ narrowed, by rw [spans, seqs]; exact taker, by rw [seqs]; exact sequence,
      by rw [span, timing, line]; exact record, by rw [span]; exact settings⟩
  · rw [span]; exact closed.2 (mt waitsFor.mpr stays)

/-- A request leaves the move queue, and the handover loses it (05 R102, 07 R135). -/
theorem State.removeRequest_requests_eq (s : State) (k : Nat) :
    (s.removeRequest k).requests = s.requests.set k none := by
  unfold State.removeRequest; dsimp only; split <;> rfl

theorem State.removeRequest_span_eq (s : State) (k : Nat) : (s.removeRequest k).span =
    { s.span with handover := { s.span.handover with bound := s.boundWithout k } } := by
  unfold State.removeRequest State.boundWithout
  dsimp only
  split <;> rfl

/-! ### The cancel on freeing (02 R35, 06 R121) -/

theorem Hoist.channel_ne {g h : Hoist} (hg : g ≠ h) : g.channel ≠ h.channel := by
  cases g <;> cases h <;> first | decide | exact absurd rfl hg

/-- The open order of a freed rack closes with CANCEL, and the request leaves the move queue (02 R35, 05 R102). -/
theorem State.cancelled_on_freeing {slot : Nat} {h : Hoist} {o : Order} (e : s.orderFor slot = some (h, o)) :
    s.CancelledOnFreeing ((s.cancelOnFreeing slot).removeRequest slot) slot h o := by
  have cancelled : s.cancelOnFreeing slot = (s.sendHoist h (.cancel o.number)).becomeIdle h := by
    simp only [State.cancelOnFreeing, e]
  rw [cancelled]
  generalize hu : s.sendHoist h (.cancel o.number) = u
  have span : s.span = u.span := by rw [← hu]; rfl
  have hoists (g : Hoist) : u.hoist g = s.hoist g := by rw [← hu]; exact State.sendHoist_hoist s h g _
  have queued (c : Nat) := s.sendHoist_queued h (.cancel o.number) c
  rw [hu] at queued
  have room : u.link.held h.channel =
      if s.link.held h.channel < 4 then s.link.held h.channel + 1 else s.link.held h.channel := by
    rw [← hu]; exact s.link.held_send (by cases h <;> decide) _
  have idle (g : Hoist) : ((u.becomeIdle h).removeRequest slot).hoist g = (u.becomeIdle h).hoist g := by
    cases g <;> simp [State.hoist]
  have same (c : Nat) : ((u.becomeIdle h).removeRequest slot).queued c = (u.becomeIdle h).queued c := by
    unfold State.queued; rw [State.removeRequest_link]
  have seq : ((u.becomeIdle h).removeRequest slot).seqOf h = (u.becomeIdle h).seqOf h := by
    cases h <;> simp only [State.seqOf, State.removeRequest_span_eq]
  have closed : s.OrderClosed (u.becomeIdle h) h s.span.handover.bound := by
    have own := u.becomeIdle_orderClosed h
    rw [← span] at own
    exact own.of_same span (fun g => by rw [hoists]) (by rw [← hu]; rfl)
  have sequence (waits : s.WaitsFor h) : nextNumber (u.seqOf h) = ((u.becomeIdle h).removeRequest slot).seqOf h := by
    rw [seq, (closed.1 waits).sequence]
    cases h <;> simp only [State.seqOf, span] <;> rfl
  have waitsFor : u.WaitsFor h ↔ s.WaitsFor h := by unfold State.WaitsFor; rw [span]
  obtain ⟨stays, waits⟩ := u.becomeIdle_queued h h.channel
  refine ⟨?hoist, ⟨?other, ?otherQueue⟩, ?cancel, ?pass, ?span⟩
  case hoist => rw [idle, State.becomeIdle_hoist, if_pos rfl, hoists]; rfl
  case other => rw [idle, State.becomeIdle_hoist, if_neg (Hoist_other_ne h), hoists]
  case otherQueue =>
    have ne := Hoist.channel_ne (Hoist_other_ne h)
    obtain ⟨stays, waits⟩ := u.becomeIdle_queued h h.other.channel
    have sent : u.queued h.other.channel = s.queued h.other.channel := by
      rw [queued, if_neg (fun c => ne c.1), List.append_nil]
    rw [same]
    by_cases w : u.WaitsFor h
    · rw [waits w, if_neg (fun c => ne c.1), List.append_nil, sent]
    · rw [stays w, sent]
  case cancel =>
    have first : u.queued h.channel =
        s.queued h.channel ++ (if s.link.held h.channel < 4 then [.cancel o.number] else []) := by
      rw [queued]; simp only [true_and]
    rw [same]
    by_cases w : s.WaitsFor h
    · refine ⟨_, (waits (waitsFor.mpr w)).trans (congrArg (· ++ _) first), fun _ few => ?_, fun many => ?_⟩
      · rw [if_pos ⟨rfl, by rw [room]; split <;> omega⟩, sequence w, ← span]
      · obtain n | many := many
        · exact absurd w n
        · exact if_neg (fun c => by rw [room] at c; split at c <;> omega)
    · exact ⟨[], (stays (mt waitsFor.mp w)).trans (by rw [first, List.append_nil]), fun c => absurd c w, fun _ => rfl⟩
  case pass =>
    rw [State.removeRequest_dispatcher, State.becomeIdle_passes, ← hu]
    exact Nat.lt_succ_self _
  case span =>
    refine closed.rebound ?_
    rw [State.removeRequest_span_eq]
    unfold State.boundWithout
    rw [closed.bound]

/-! ### A record dropped (02 R35) -/

theorem State.emptyStation_get (s : State) (n : Option Nat) (m : Nat) : (s.emptyStation n).stations.get m =
    if n = some m then { s.stations.get m with occ := .empty } else s.stations.get m := by
  cases n with
  | none => rfl
  | some n =>
    show (s.stations.set n { s.stations.get n with occ := .empty }).get m = _
    rw [Table.get_set]
    by_cases h : n = m
    · subst h
      by_cases hn : n < 32
      · simp [hn]
      · simp [hn, Table.get_outside _ (by omega : 32 ≤ n)]; rfl
    · simp [h]

theorem State.unfinishedIn_congr (h : t.recipes = s.recipes) (r : Rack) : t.unfinishedIn r = s.unfinishedIn r := by
  funext b
  simp only [State.unfinishedIn, State.usedFrom, State.firstUnfinished, State.stepCount, h]

/-- What the dropping of the record r of slot k writes, from s to t, but for hoists, spans and the link (02 R35). -/
structure State.Dropped (s t : State) (k : Nat) (r : Rack) : Prop where
  racks    : t.racks = s.racks.set k none
  requests : t.requests = s.requests.set k none
  stations : ∀ n, t.stations.get n =
    if r.station = some n ∨ r.dest = some n then { s.stations.get n with occ := .empty } else s.stations.get n
  baths    : t.baths = (s.lowerArea (s.unfinishedIn r) r.area).baths
  recipes  : t.recipes = (s.lowerRefs r.recipe).recipes
  left     : t.marks = (s.leaveIf r.station).marks ∧ t.windows = (s.leaveIf r.station).windows

theorem State.dropRack_dropped (s : State) (k : Nat) (r : Rack) (ev : Option RackEvent) :
    s.Dropped (s.dropRack k r ev) k r where
  racks := s.dropRack_racks k r ev
  requests := by simp [State.dropRack, State.removeRequest_requests_eq]
  stations n := by
    have e : (s.dropRack k r ev).stations = ((s.emptyStation r.station).emptyStation r.dest).stations := by
      simp only [State.dropRack, State.setRack_stations, State.noticeIf_stations, State.lowerRefs_stations,
        State.lowerArea_stations, State.leaveIf_stations]
      cases r.station <;> cases r.dest <;> simp [State.emptyStation]
    rw [e, State.emptyStation_get, State.emptyStation_get]
    by_cases hd : r.dest = some n <;> by_cases hs : r.station = some n <;> simp [hd, hs]
  baths := by
    simp [State.dropRack, State.lowerArea]
    rw [State.unfinishedIn_congr (s := s) (by simp)]
  recipes := s.dropRack_recipes k r ev
  left := by cases hs : r.station <;> simp [State.dropRack, State.leaveIf, State.leaveStation, hs]

theorem State.dropRack_hoist (s : State) (k : Nat) (r : Rack) (ev : Option RackEvent) (g : Hoist) :
    (s.dropRack k r ev).hoist g = ((s.cancelOnFreeing k).removeRequest k).hoist g := by
  cases g <;> simp [State.dropRack, State.hoist]

theorem State.dropRack_span (s : State) (k : Nat) (r : Rack) (ev : Option RackEvent) :
    (s.dropRack k r ev).span = ((s.cancelOnFreeing k).removeRequest k).span := by
  simp [State.dropRack]

theorem State.dropRack_dispatcher (s : State) (k : Nat) (r : Rack) (ev : Option RackEvent) :
    (s.dropRack k r ev).dispatcher = ((s.cancelOnFreeing k).removeRequest k).dispatcher := by
  simp [State.dropRack]

theorem State.noticeIf_keepsNotices (s : State) (ev : Option RackEvent) (k : Nat) (r : Rack) :
    s.link.KeepsNotices (s.noticeIf ev k r).link := by
  cases ev with
  | none => exact .refl _
  | some e => exact s.link.notify_keepsNotices _

theorem State.noticeIf_queued (s : State) (ev : Option RackEvent) (k : Nat) (r : Rack) {c : Nat} (hc : c ≠ 3) :
    (s.noticeIf ev k r).queued c = s.queued c := by
  cases ev with
  | none => rfl
  | some e => exact congrArg (fun x : Channel => x.queue.map (·.msg)) (s.link.notify_get_ne (Ne.symm hc) _)

theorem State.cancelOnFreeing_keepsNotices (s : State) (k : Nat) :
    s.link.KeepsNotices (s.cancelOnFreeing k).link := by
  unfold State.cancelOnFreeing
  split
  · next h o _ =>
    have sent : s.link.KeepsNotices (s.sendHoist h (.cancel o.number)).link :=
      s.link.send_keepsNotices (by cases h <;> decide) _
    exact sent.trans (State.becomeIdle_keepsNotices _ h)
  · exact .refl _

theorem State.dropRack_keepsNotices (s : State) (k : Nat) (r : Rack) (ev : Option RackEvent) :
    s.link.KeepsNotices (s.dropRack k r ev).link := by
  refine (s.cancelOnFreeing_keepsNotices k).trans ?_
  unfold State.dropRack
  dsimp only
  rw [State.setRack_link]
  refine .trans (.of_same ?_ ?_) (State.noticeIf_keepsNotices _ ev k r) <;> simp

theorem State.dropRack_queued (s : State) (k : Nat) (r : Rack) (ev : Option RackEvent) {c : Nat} (hc : c ≠ 3) :
    (s.dropRack k r ev).queued c = ((s.cancelOnFreeing k).removeRequest k).queued c := by
  unfold State.dropRack
  dsimp only
  refine (State.noticeIf_queued _ ev k r hc).trans ?_
  simp [State.queued]

/-! ### A record freed (02 R34, R35, R40) -/

theorem State.freeRack_eq {k : Nat} {r : Rack} (hr : s.racks.get k = some r) (ev : Option RackEvent) :
    s.freeRack k ev = (((s.dropRack k r ev).retryIf r.station).retryIf r.dest).retestHead := by
  simp only [State.freeRack, hr]

theorem State.retestHead_hoist (s : State) (g : Hoist) : s.retestHead.hoist g = s.hoist g := by
  cases g
  · exact s.retestHead_hoistA
  · exact s.retestHead_hoistB

/-- A retest queues notices only. -/
theorem State.retestHead_channel (s : State) {c : Nat} (hc : c ≠ 3) :
    s.retestHead.link.channels.get c = s.link.channels.get c := by
  refine State.retestHead_keeps (P := fun t => t.link.channels.get c = s.link.channels.get c)
    (fun t e rest j _ _ hj h => ?_) rfl
  rw [(State.admitHead_admittedAt e rest (State.freeSlot_eq_some.mp hj).1).link]
  exact (t.link.notify_get_ne (Ne.symm hc) _).trans h

theorem State.retestHead_queued (s : State) {c : Nat} (hc : c ≠ 3) : s.retestHead.queued c = s.queued c := by
  unfold State.queued; rw [s.retestHead_channel hc]

theorem State.retestHead_passes (s : State) : s.dispatcher.passesOwed ≤ s.retestHead.dispatcher.passesOwed := by
  obtain ⟨n, -, -, passes⟩ := s.retestHead_queue
  omega

/-- What follows the cancel on freeing leaves hoists, spans and hoist messages alone. -/
theorem State.OrderFreed.of_later {k : Nat} (h : s.OrderFreed t k) (hoists : ∀ g, u.hoist g = t.hoist g)
    (span : u.span = t.span) (queued : ∀ c, c ≠ 3 → u.queued c = t.queued c)
    (passes : t.dispatcher.passesOwed ≤ u.dispatcher.passesOwed) : s.OrderFreed u k := by
  obtain ⟨closes, stays⟩ := h
  refine ⟨fun h o e => ?_, fun e => ?_⟩
  · obtain ⟨hoist, ⟨other, otherQueue⟩, cancel, pass, closed⟩ := closes h o e
    have seq : u.seqOf h = t.seqOf h := by cases h <;> simp only [State.seqOf, span]
    have hc : h.channel ≠ 3 := by cases h <;> decide
    have ho : h.other.channel ≠ 3 := by cases h <;> decide
    exact ⟨(hoists h).trans hoist, ⟨(hoists _).trans other, (queued _ ho).trans otherQueue⟩,
      by rw [queued _ hc, seq]; exact cancel, pass.trans_le passes,
      closed.rebound (by rw [span, ← closed.bound])⟩
  · obtain ⟨a, b, qa, qb, same⟩ := stays e
    exact ⟨(hoists .a).trans a, (hoists .b).trans b, (queued 0 (by decide)).trans qa, (queued 1 (by decide)).trans qb,
      span.trans same⟩

theorem State.orderFreed_on_freeing (s : State) (k : Nat) :
    s.OrderFreed ((s.cancelOnFreeing k).removeRequest k) k := by
  refine ⟨fun h o e => State.cancelled_on_freeing e, fun e => ?_⟩
  have same : s.cancelOnFreeing k = s := by simp only [State.cancelOnFreeing, e]
  rw [same]
  exact ⟨by simp, by simp, by simp [State.queued], by simp [State.queued], State.removeRequest_span_eq s k⟩

/-- The freeing of a record closes its open order, or leaves the hoists and the spans alone (02 R35, 06 R121). -/
theorem State.freeRack_orderFreed {k : Nat} {r : Rack} (hr : s.racks.get k = some r) (ev : Option RackEvent) :
    s.OrderFreed (s.freeRack k ev) k := by
  rw [State.freeRack_eq hr]
  generalize hy : s.dropRack k r ev = y
  have first := (State.Retried.retryIf y r.station)
  have second := (State.Retried.retryIf (y.retryIf r.station) r.dest)
  refine (s.orderFreed_on_freeing k).of_later (fun g => ?_) ?_ (fun c hc => ?_) ?_
  · rw [State.retestHead_hoist, ← State.dropRack_hoist s k r ev, hy]
    cases g <;> simp [State.hoist]
  · rw [State.retestHead_span, ← State.dropRack_span s k r ev, hy]
    simp
  · rw [State.retestHead_queued _ hc, ← State.dropRack_queued s k r ev hc, hy]
    simp [State.queued]
  · rw [← State.dropRack_dispatcher s k r ev, hy]
    exact (first.trans second).passes.trans (State.retestHead_passes _)

/-- What is told before the retest of a freeing stays told. -/
theorem State.freeRack_keepsNotices {k : Nat} {r : Rack} (hr : s.racks.get k = some r) (ev : Option RackEvent) :
    (s.dropRack k r ev).link.KeepsNotices (s.freeRack k ev).link := by
  rw [State.freeRack_eq hr]
  refine .trans (.of_same ?_ ?_) (State.retestHead_keepsNotices _) <;> simp

/-- After a freeing the slot is free or holds an entry the retest has admitted (02 R35, R40). -/
theorem State.freeRack_slot {k : Nat} {r x : Rack} (hr : s.racks.get k = some r) (ev : Option RackEvent)
    (hx : (s.freeRack k ev).racks.get k = some x) :
    x.st = .atLoad ∧ x.stepIdx = 0 ∧ ∃ e ∈ s.queue, e.id = x.id ∧ e.load = x.load := by
  rw [State.freeRack_eq hr] at hx
  have retried := (State.Retried.retryIf (s.dropRack k r ev) r.station).trans (.retryIf _ r.dest)
  have free : (((s.dropRack k r ev).retryIf r.station).retryIf r.dest).racks.get k = none := by
    rw [retried.rack_none, (s.dropRack_dropped k r ev).racks]
    exact Table.get_set_self _ (Table.lt_of_get_some hr) _
  have entry := State.retestHead_new free hx
  simpa using entry

theorem State.lowerRefs_refs (s : State) (n : Nat) :
    ((s.lowerRefs n).recipes.get n).refs = (s.recipes.get n).refs - 1 := by
  by_cases hn : n < 16
  · rw [State.lowerRefs_get s n hn, if_pos rfl]
  · rw [Table.get_outside _ (by omega), Table.get_outside _ (by omega)]; rfl

theorem State.leaveIf_left (s : State) {n : Nat} (hn : n < 32) :
    (s.leaveIf (some n)).marks.get n = .out ∧ (s.leaveIf (some n)).windows.get n = none :=
  ⟨Table.get_set_self _ hn _, Table.get_set_self _ hn _⟩

/-- The dropping of a record, with retries after it, hands back what R35 says (02 R34, R35, R39, 10 R177). -/
theorem State.Dropped.freed {k : Nat} {r : Rack} {event : RackEvent} (dropped : s.Dropped w k r) (hk : k < 24)
    (line : w.line = s.line) (tick : w.tick = s.tick) (queue : w.queue = s.queue) (retried : w.Retried t)
    (told : t.Told event k r) : s.Freed t k r event := by
  have free : w.requests.get k = none := by rw [dropped.requests]; exact Table.get_set_self _ hk _
  have emptied {n : Nat} (h : r.station = some n ∨ r.dest = some n) : (w.stations.get n).occ = .empty := by
    rw [dropped.stations, if_pos h]
  constructor
  case record =>
    rw [retried.rack_none, dropped.racks]
    exact Table.get_set_self _ hk _
  case request => exact (retried.request_none k).mpr free
  case station =>
    intro n hn occ
    have := retried.occupied occ
    rw [emptied (.inl hn)] at this
    cases this
  case dest =>
    intro n hn occ
    have := retried.reserved occ free
    rw [emptied (.inr hn)] at this
    cases this
  case kept =>
    intro n _ h1 h2 filled
    have same : w.stations.get n = s.stations.get n := by
      rw [dropped.stations, if_neg (not_or.mpr ⟨h1, h2⟩)]
    rw [retried.station_kept (by rw [same]; exact filled), same]
  case areas =>
    intro b hb
    rw [retried.baths, dropped.baths, State.lowerArea_areaInFlight _ _ hb]
  case count => rw [retried.recipes, dropped.recipes, State.lowerRefs_refs]
  case others =>
    intro j _ hj
    refine (retried.racks j).trans ?_
    rw [dropped.racks, Table.get_set_ne _ (Ne.symm hj)]
    rfl
  case line => rw [retried.line, line]
  case tick => rw [retried.tick, tick]
  case queue => rw [retried.queue, queue]
  case left =>
    intro n hn lt
    rw [retried.marks, retried.windows, dropped.left.1, dropped.left.2, Option.mem_def.mp hn]
    exact s.leaveIf_left lt
  case told => exact told

/-- The freeing of a record while no ADMIT waits hands back what R35 says. -/
theorem State.freeRack_freed {k : Nat} {r : Rack} {event : RackEvent} (hr : s.racks.get k = some r)
    (hq : s.queue = []) {ev : Option RackEvent} (told : (s.freeRack k ev).Told event k r) :
    s.Freed (s.freeRack k ev) k r event := by
  have retried := (State.Retried.retryIf (s.dropRack k r ev) r.station).trans (.retryIf _ r.dest)
  have done : s.freeRack k ev = ((s.dropRack k r ev).retryIf r.station).retryIf r.dest := by
    rw [State.freeRack_eq hr]
    exact State.retestHead_nil (by simp [hq])
  rw [done] at told ⊢
  exact (s.dropRack_dropped k r ev).freed (Table.lt_of_get_some hr) (s.dropRack_line k r ev) (s.dropRack_tick k r ev)
    (s.dropRack_queue k r ev) retried told

/-- The freeing of a record with an event tells it. -/
theorem State.freeRack_told {k : Nat} {r : Rack} (hr : s.racks.get k = some r) (event : RackEvent) :
    (s.freeRack k (some event)).Told event k r :=
  (s.dropRack_told k r event).mono (State.freeRack_keepsNotices hr _)

/-! ### Freed by a request (02 R37, R38) -/

theorem State.setRequestSlot_queued (s : State) (f : Option SlotFrame) (c : Nat) :
    (s.setRequestSlot f).queued c = s.queued c :=
  congrArg (List.map Queued.msg) (s.link.setSlot_queue 3 c f)

/-- The request in its slot does not matter to the freeing of an order. -/
theorem State.OrderFreed.of_slotted {f : Option SlotFrame} {k : Nat} (h : (s.setRequestSlot f).OrderFreed t k) :
    s.OrderFreed t k := by
  obtain ⟨closes, stays⟩ := h
  refine ⟨fun h o e => ?_, fun e => ?_⟩
  · obtain ⟨hoist, ⟨other, otherQueue⟩, cancel, pass, closed⟩ := closes h o e
    rw [State.setRequestSlot_queued] at otherQueue cancel
    rw [State.setRequestSlot_link, Link.held_setSlot] at cancel
    exact ⟨hoist, ⟨other, otherQueue⟩, cancel, pass, closed.of_same rfl (fun _ => rfl) rfl⟩
  · obtain ⟨a, b, qa, qb, same⟩ := stays e
    rw [State.setRequestSlot_queued] at qa qb
    exact ⟨a, b, qa, qb, same⟩

theorem State.Freed.of_slotted {f : Option SlotFrame} {k : Nat} {r : Rack} {event : RackEvent}
    (h : (s.setRequestSlot f).Freed t k r event) : s.Freed t k r event := { h with }

/-- What a freeing hands back is handed back in the state the command ends in. -/
theorem State.Freed.of_kept {k : Nat} {r : Rack} {event : RackEvent} (h : s.Freed w k r event) (kept : w.Kept t)
    (notices : w.link.KeepsNotices t.link) : s.Freed t k r event where
  record := kept.racks ▸ h.record
  request := kept.requests ▸ h.request
  station := kept.stations ▸ h.station
  dest := kept.stations ▸ h.dest
  kept := kept.stations ▸ h.kept
  areas := kept.baths ▸ h.areas
  count := kept.recipes ▸ h.count
  others := kept.racks ▸ h.others
  line := kept.line.trans h.line
  tick := kept.tick.trans h.tick
  queue := kept.queue.trans h.queue
  left := kept.marks ▸ kept.windows ▸ h.left
  told := h.told.mono notices

theorem State.OrderFreed.of_kept {k : Nat} (h : s.OrderFreed w k) (kept : w.Kept t)
    (queued : ∀ c, c ≠ 3 → t.queued c = w.queued c) : s.OrderFreed t k :=
  h.of_later kept.hoist kept.span queued (Nat.le_of_eq (congrArg Dispatcher.passesOwed kept.dispatcher.symm))

/-- A request that frees the rack of slot k, with the event it tells (02 R35, R37, R38). -/
theorem exec_request_frees (h : s.TakesRequests) {i : Instr} (hi : i.isRequest = true) (hq : i.isQuery = false)
    {k kind : Nat} {r : Rack} (event : RackEvent) (hr : s.racks.get k = some r)
    (e : handleRequest i (s.setRequestSlot (some (.good i))) =
      ((s.setRequestSlot (some (.good i))).freeRack k (some event)).reply kind .ok []) :
    ∃ t, exec i s = .next t ∧ t.Answered kind .ok [] ∧ t.Told event k r ∧ s.OrderFreed t k ∧
      (∀ x ∈ t.racks.get k, x.st = .atLoad ∧ x.stepIdx = 0 ∧ ∃ e ∈ s.queue, e.id = x.id ∧ e.load = x.load) ∧
      (s.queue = [] → s.Freed t k r event) := by
  have slotted : (s.setRequestSlot (some (.good i))).racks.get k = some r := hr
  have told := State.freeRack_told slotted event
  have order := State.freeRack_orderFreed slotted (some event)
  have slot (x : Rack) := State.freeRack_slot slotted (some event) (x := x)
  have freed (none : s.queue = []) := State.freeRack_freed slotted (s := s.setRequestSlot _) none told
  generalize (s.setRequestSlot (some (.good i))).freeRack k (some event) = w at *
  obtain ⟨t, run, kept, answered, notices, queued⟩ := exec_request_answers h hi hq e
  refine ⟨t, run, answered, told.mono notices, (order.of_kept kept queued).of_slotted, fun x hx => ?_, fun none => ?_⟩
  · rw [kept.racks] at hx
    exact slot x hx
  · exact ((freed none).of_kept kept notices).of_slotted

/-! ### RACK REMOVE (02 R38) -/

theorem rackIdOk_bad {id : Nat} (h : id = 0 ∨ 65534 < id) : (!rackIdOk id) = true := by
  rw [bnot_iff_not (rackIdOk_iff id)]; omega

theorem rackIdOk_good {id : Nat} (h1 : 1 ≤ id) (h2 : id ≤ 65534) : (!rackIdOk id) = false := by
  rw [Bool.not_eq_false', rackIdOk_iff]; exact ⟨h1, h2⟩

theorem State.inHoistHands_iff (k : Nat) (r : Rack) : s.inHoistHands k r = true ↔
    r.st = .carried ∨ (s.orderFor k).map (fun p => p.2.phase) = some .released := by
  unfold State.inHoistHands State.orderPhase
  rw [Bool.or_eq_true]
  exact or_congr decide_eq_true_iff decide_eq_true_iff

/-- Settles O37: the checks of R38 in their order, then the freeing. -/
theorem rackRemoveResults : Obligations.RackRemoveResults := by
  intro s id k r h
  refine ⟨fun bad => exec_request_replies h rfl rfl h.2.1 (if_pos (rackIdOk_bad bad)), fun h1 h2 => ?_⟩
  have good := rackIdOk_good h1 h2
  generalize hu : s.setRequestSlot (some (.good (.rackRemove id))) = u
  have slotOf : u.slotOf id = s.slotOf id := hu ▸ rfl
  have racks : u.racks = s.racks := hu ▸ rfl
  have hands (r : Rack) : u.inHoistHands k r = s.inHoistHands k r := hu ▸ rfl
  refine ⟨fun none => ?unknown, fun hs hr hk => ⟨fun held => ?held, fun h3 h4 => ?freed⟩⟩
  case unknown =>
    refine exec_request_replies h rfl rfl h.2.1 ?_
    rw [hu]
    simp [handleRequest, handleRackRemove, good, slotOf, none]
  case held =>
    refine exec_request_replies h rfl rfl h.2.1 ?_
    rw [hu]
    simp [handleRequest, handleRackRemove, good, slotOf, hs, racks, hr, hands, (State.inHoistHands_iff k r).mpr held]
  case freed =>
    have free : s.inHoistHands k r = false := by
      rw [← Bool.not_eq_true, State.inHoistHands_iff]; exact not_or.mpr ⟨h3, h4⟩
    obtain ⟨t, run, answered, told, order, slot, freed⟩ := exec_request_frees h rfl rfl (.removed .remove) hr (by
      rw [hu]
      simp [handleRequest, handleRackRemove, good, slotOf, hs, racks, hr, hands, free]
      rfl)
    exact ⟨t, run, answered, told, slot, freed, order⟩

end Sys2Proof.Machine
end
section
/-! PROOFS. WITHDRAW of a queue entry and of a rack that is still AT_LOAD (02 R35, R37, R40). -/

namespace Sys2Proof.Machine

variable {s t u w : State}

/-- A rack never needs a LOAD station next, so that nothing retries at one (05 R88, R89). -/
theorem State.retryBlocked_load {n : Nat} (h : (s.stations.get n).kind = .load) : s.retryBlocked n = s := by
  have unfit (w : Wanted) : (s.stations.get n).fits w = false := by cases w <;> simp [Station.fits, h]
  have none (k : Nat) : s.blockedFor (s.stations.get n) k = false := by
    unfold State.blockedFor
    split
    · rw [unfit, Bool.and_false]
    · rfl
  have empty : s.urgencyOrder.filter (s.blockedFor (s.stations.get n)) = [] :=
    List.filter_eq_nil_iff.mpr fun k _ => by simp [none]
  simp only [State.retryBlocked, empty, List.foldl_nil, ite_self]

/-- The state after the entry e of a LOAD station is withdrawn (02 R37). -/
def State.withdrawn (s : State) (e : QueueEntry) : State :=
  let foreign := (s.stations.get e.load).sensing = true ∧ s.level e.load = true
  { s with
    queue := s.queue.filter (fun x => decide (x.id ≠ e.id))
    stations := s.stations.set e.load { s.stations.get e.load with occ := if foreign then .foreign else .empty }
    recipes := s.recipes.set e.recipe { s.recipes.get e.recipe with refs := (s.recipes.get e.recipe).refs - 1 }
    link := if foreign then s.link.notify (.station e.load .foreign .foreign) else s.link }

theorem State.withdrawEntry_withdrawn {e : QueueEntry} (hk : (s.stations.get e.load).kind = .load) (hl : e.load < 32)
    (f : Option SlotFrame) :
    (s.setRequestSlot f).withdrawEntry e = (s.withdrawn e).setRequestSlot f := by
  have set (o : Occupancy) : ((s.stations.set e.load { s.stations.get e.load with occ := o }).get e.load) =
      { s.stations.get e.load with occ := o } := Table.get_set_self _ hl _
  unfold State.withdrawEntry State.withdrawn
  dsimp only
  by_cases seated : (s.stations.get e.load).sensing = true ∧ s.level e.load = true
  · rw [if_pos (by rw [Bool.and_eq_true]; exact seated)]
    simp only [if_pos seated]
    simp only [State.stationNotice, State.setOcc, State.setStation, State.setRequestSlot, State.lowerRefs,
      State.setRecipe, State.notify, Link.notify_setSlot, set]
  · rw [if_neg (by rw [Bool.and_eq_true]; exact seated), State.retryBlocked_load (by
      simp only [State.setOcc, State.setStation, State.setRequestSlot, set]; exact hk)]
    simp only [if_neg seated]
    rfl

/-- The first entry of the queue that carries an id. -/
theorem queue_find?_entry {l : List QueueEntry} {j id : Nat} {e : QueueEntry} (he : l[j]? = some e) (hid : e.id = id)
    (first : ∀ i < j, l[i]?.map (·.id) ≠ some id) : l.find? (fun x => decide (x.id = id)) = some e := by
  obtain ⟨hj, get⟩ := List.getElem?_eq_some_iff.mp he
  refine List.find?_eq_some_iff_getElem.mpr ⟨by simpa using hid, j, hj, get, fun i hi => ?_⟩
  have other := first i hi
  rw [List.getElem?_eq_getElem (hi.trans hj)] at other
  simpa using other

theorem State.withdrawable_iff (k : Nat) (r : Rack) : s.withdrawable k r = true ↔
    r.st = .atLoad ∧ ((s.orderFor k).map (fun p => p.2.phase) = none ∨
      (s.orderFor k).map (fun p => p.2.phase) = some .sent) := by
  unfold State.withdrawable State.orderPhase
  rw [Bool.and_eq_true, Bool.or_eq_true]
  exact and_congr decide_eq_true_iff (or_congr decide_eq_true_iff decide_eq_true_iff)

/-- WITHDRAW of a queue entry (02 R37). -/
theorem exec_withdraw_entry (h : s.TakesRequests) {j id : Nat} {e : QueueEntry} (good : (!rackIdOk id) = false)
    (he : s.queue[j]? = some e) (hid : e.id = id) (first : ∀ i < j, s.queue[i]?.map (·.id) ≠ some id)
    (hk : (s.stations.get e.load).kind = .load) (hl : e.load < 32) :
    exec (.withdraw id) s = .next ((s.withdrawn e).reply 0x41 .ok []).driveOutputs := by
  refine exec_request_replies h rfl rfl ?slot ?handled
  case slot =>
    show (ite _ _ _ : Link).slot 3 = none
    split
    · exact (Link.slot_notify _ _ _).trans h.2.1
    · exact h.2.1
  case handled =>
    have found : (s.setRequestSlot (some (.good (.withdraw id)))).queue.find? (fun x => decide (x.id = id)) = some e :=
      queue_find?_entry he hid first
    show handleWithdraw id _ = _
    simp only [handleWithdraw, good, Bool.false_eq_true, if_false, found, State.withdrawEntry_withdrawn hk hl]

/-- Settles O36: the look-ups of 02 R21 and 06 R107, then the checks of 02 R37 in their order. -/
theorem withdrawResults : Obligations.WithdrawResults := by
  refine ⟨fun s id k h o => ⟨State.slotOf_eq_none, State.slotOf_eq_some, State.orderFor_eq_none, State.orderFor_eq_some⟩,
    ?_⟩
  intro s id k j e r h
  refine ⟨fun bad => exec_request_replies h rfl rfl h.2.1 (if_pos (rackIdOk_bad bad)), fun h1 h2 => ?_⟩
  have good := rackIdOk_good h1 h2
  refine ⟨fun he hid first hk hl => ?entry, fun outside => ?rack⟩
  case entry =>
    subst hid
    exact exec_withdraw_entry h good he rfl first hk hl
  case rack =>
    have missing : s.queue.find? (fun x => decide (x.id = id)) = none :=
      List.find?_eq_none.mpr fun x hx => by simpa using outside x hx
    generalize hu : s.setRequestSlot (some (.good (.withdraw id))) = u
    have slotOf : u.slotOf id = s.slotOf id := hu ▸ rfl
    have racks : u.racks = s.racks := hu ▸ rfl
    have queue : u.queue = s.queue := hu ▸ rfl
    have frees (r : Rack) : u.withdrawable k r = s.withdrawable k r := hu ▸ rfl
    refine ⟨fun none => ?unknown, fun hs hr => ⟨fun held => ?held, fun h3 h4 _ => ?freed⟩⟩
    case unknown =>
      refine exec_request_replies h rfl rfl h.2.1 ?_
      rw [hu]
      simp [handleRequest, handleWithdraw, good, queue, missing, slotOf, none]
    case held =>
      have stays : s.withdrawable k r = false := by
        rw [← Bool.not_eq_true, State.withdrawable_iff]
        tauto
      refine exec_request_replies h rfl rfl h.2.1 ?_
      rw [hu]
      simp [handleRequest, handleWithdraw, good, queue, missing, slotOf, hs, racks, hr, frees, stays]
    case freed =>
      obtain ⟨t, run, answered, told, order, slot, freed⟩ := exec_request_frees h rfl rfl (.removed .withdraw) hr (by
        rw [hu]
        simp [handleRequest, handleWithdraw, good, queue, missing, slotOf, hs, racks, hr, frees,
          (State.withdrawable_iff k r).mpr ⟨h3, h4⟩]
        rfl)
      exact ⟨t, run, answered, told, order, slot, freed⟩

end Sys2Proof.Machine
end
section
/-! PROOFS. SEATED and RELEASED act by the occupancy of the station (02 R36, 10 R175, R176). -/

namespace Sys2Proof.Machine

variable {s t u w : State}

theorem State.setOcc_get (s : State) {n : Nat} (hn : n < 32) (o : Occupancy) :
    (s.setOcc n o).stations.get n = { s.stations.get n with occ := o } := Table.get_set_self _ hn _

/-- A station's occupancy set, with the notice that tells it. -/
theorem State.setOcc_notice (s : State) {n : Nat} (hn : n < 32) (ev : StationEvent) (o : Occupancy) :
    (s.setOcc n o).stationNotice ev n = { s with
      stations := s.stations.set n { s.stations.get n with occ := o }
      link := s.link.notify (.station n ev o) } := by
  unfold State.stationNotice
  rw [s.setOcc_get hn]
  rfl

/-! ### A station's seat event by its occupancy (10 R175, R176) -/

theorem State.seatedAt_empty {n : Nat} (h : (s.stations.get n).occ = .empty) :
    s.seatedAt n = (s.setOcc n .foreign).stationNotice .foreign n := by simp only [State.seatedAt, h]

theorem State.seatedAt_foreign {n : Nat} (h : (s.stations.get n).occ = .foreign) : s.seatedAt n = s := by
  simp only [State.seatedAt, h]

theorem State.seatedAt_occupied {n k : Nat} (h : (s.stations.get n).occ = .occupied k) :
    s.seatedAt n = s.setWindow n none := by simp only [State.seatedAt, h]

theorem State.headIs_iff (id : Nat) : s.headIs id = true ↔ s.queue.head?.map (·.id) = some id := by
  unfold State.headIs
  cases s.queue <;> simp

theorem State.seatedAt_reservedEntry {n id : Nat} (h : (s.stations.get n).occ = .reservedEntry id) :
    s.seatedAt n = if s.queue.head?.map (·.id) = some id then s.retestHead else s := by
  simp only [State.seatedAt, h]
  exact if_congr (State.headIs_iff id) rfl rfl

theorem State.seatedAt_reservedRack {n k : Nat} (h : (s.stations.get n).occ = .reservedRack k) :
    s.seatedAt n = if (s.racks.get k).map (·.st) = some .carried then s else s.stationNotice .intruded n := by
  simp only [State.seatedAt, h]
  cases s.racks.get k <;> simp

theorem State.releasedAt_foreign {n : Nat} (h : (s.stations.get n).occ = .foreign) :
    s.releasedAt n = ((s.setOcc n .empty).stationNotice .empty n).retryBlocked n := by simp only [State.releasedAt, h]

/-- At a station no rack stands in and nothing foreign does, a release only changes the level (10 R176). -/
theorem State.releasedAt_idle {n k id : Nat} (h : (s.stations.get n).occ = .empty ∨
    (s.stations.get n).occ = .reservedRack k ∨ (s.stations.get n).occ = .reservedEntry id) : s.releasedAt n = s := by
  obtain h | h | h := h <;> simp only [State.releasedAt, h]

section
variable {n k : Nat} {r : Rack}

theorem State.releasedAt_immersed (h : (s.stations.get n).occ = .occupied k) (hr : s.racks.get k = some r)
    (st : r.st = .immersed ∨ r.st = .due) : s.releasedAt n = s.bathReleased k := by
  obtain st | st := st <;> simp only [State.releasedAt, h, hr, st]

theorem State.releasedAt_atLoad (h : (s.stations.get n).occ = .occupied k) (hr : s.racks.get k = some r)
    (st : r.st = .atLoad) : s.releasedAt n = s.loadReleased k := by
  simp only [State.releasedAt, h, hr, st]

theorem State.releasedAt_atUnload (h : (s.stations.get n).occ = .occupied k) (hr : s.racks.get k = some r)
    (st : r.st = .atUnload) : s.releasedAt n = s.freeRack k (some (.done true)) := by
  simp only [State.releasedAt, h, hr, st]

theorem State.loadReleased_released (h : (s.orderFor k).map (fun p => p.2.phase) = some .released) :
    s.loadReleased k = s := by
  obtain ⟨⟨g, o⟩, e, phase⟩ := Option.map_eq_some_iff.mp h
  have phase : o.phase = .released := phase
  simp [State.loadReleased, e, phase]

theorem State.loadReleased_frees (h : (s.orderFor k).map (fun p => p.2.phase) = none ∨
    (s.orderFor k).map (fun p => p.2.phase) = some .sent ∨
    (s.orderFor k).map (fun p => p.2.phase) = some .accepted) :
    s.loadReleased k = s.freeRack k (some (.removed .loadReleased)) := by
  unfold State.loadReleased
  cases e : s.orderFor k with
  | none => rfl
  | some p => exact if_pos (by simpa [e] using h)

theorem State.bathReleased_released (h : (s.orderFor k).map (fun p => p.2.phase) = some .released) :
    s.bathReleased k = s := by
  obtain ⟨⟨g, o⟩, e, phase⟩ := Option.map_eq_some_iff.mp h
  have phase : o.phase = .released := phase
  simp [State.bathReleased, e, phase]

theorem State.bathReleased_early (h1 : (s.orderFor k).map (fun p => p.2.phase) ≠ some .released)
    (h2 : (s.orderFor k).map (fun p => p.2.phase) ≠ some .lifted) :
    s.bathReleased k = s.addFlag k .unexpectedRelease := by
  unfold State.bathReleased
  cases e : s.orderFor k with
  | none => rfl
  | some p =>
    obtain ⟨g, o⟩ := p
    rw [e] at h1 h2
    refine if_pos ?_
    cases phase : o.phase <;> simp [phase] at h1 h2 ⊢

end

/-! ### The events (10 R173, log 4) -/

theorem State.pinEvent_same {n : Nat} {level : Bool}
    (h : (s.io.inputs.get n).enabled = false ∨ (s.io.inputs.get n).level = level) : s.pinEvent n level = s := by
  refine if_neg fun takes => ?_
  obtain ⟨-, enabled, differs⟩ := takes
  obtain h | h := h
  · rw [h] at enabled; cases enabled
  · exact differs h

theorem State.pinEvent_taken {n : Nat} (hn : n < 32) {level : Bool} (enabled : (s.io.inputs.get n).enabled = true)
    (differs : (s.io.inputs.get n).level ≠ level) :
    s.pinEvent n level = if (s.stations.get n).sensing then
      (if level then (s.setLevel n level).seatedAt n else (s.setLevel n level).releasedAt n) else s.setLevel n level := by
  have inRange : n < Config.inputs := hn.trans (by decide)
  have seat : n < Config.stations := hn
  rw [State.pinEvent, if_pos ⟨inRange, enabled, differs⟩, State.inputEvent, if_pos seat]
  cases level
  · show State.releaseEvent _ n = _
    rw [State.releaseEvent]
    rfl
  · show State.seatEvent _ n = _
    rw [State.seatEvent]
    rfl

theorem exec_seated (h : s.resetHeld = false) {n : Nat} (hn : n < 32) (e : s.pinEvent n true = w) :
    exec (.seated n) s = .next w.driveOutputs := by
  have ok : stationOk n = true := by simp [stationOk]; omega
  show liveDriven s _ = _
  rw [liveDriven_next h, if_pos ok, e]

theorem exec_released (h : s.resetHeld = false) {n : Nat} (hn : n < 32) (e : s.pinEvent n false = w) :
    exec (.released n) s = .next w.driveOutputs := by
  have ok : stationOk n = true := by simp [stationOk]; omega
  show liveDriven s _ = _
  rw [liveDriven_next h, if_pos ok, e]

/-- A released seat whose event frees the rack of slot k, with the event it tells (02 R35, R36). -/
theorem exec_released_frees (h : s.resetHeld = false) {n k : Nat} {r : Rack} {event : RackEvent} (hn : n < 32)
    (hr : s.racks.get k = some r) (hq : s.queue = [])
    (e : s.pinEvent n false = (s.setLevel n false).freeRack k (some event)) :
    ∃ t, exec (.released n) s = .next t ∧
      (s.Freed t k r event ∧ s.OrderFreed t k ∧ t.io.inputs = (s.setLevel n false).io.inputs) := by
  generalize hu : s.setLevel n false = u at e ⊢
  have rack : u.racks.get k = some r := hu ▸ hr
  have queue : u.queue = [] := hu ▸ hq
  have freed := State.freeRack_freed rack queue (State.freeRack_told rack event)
  have order := State.freeRack_orderFreed rack (some event)
  have inputs : (u.freeRack k (some event)).io.inputs = u.io.inputs := by rw [State.freeRack_io]
  generalize u.freeRack k (some event) = w at *
  obtain ⟨t, run, kept, link⟩ := liveDriven_ends h (fun _ => w)
  have done := (exec_released h hn e).trans ((liveDriven_next h fun _ => w).symm.trans run)
  have fromW : u.Freed t k r event := freed.of_kept kept (.of_same (by rw [link]) (by rw [link]))
  have orderT : u.OrderFreed t k := order.of_kept kept fun c _ => by unfold State.queued; rw [link]
  refine ⟨t, done, ?_, ?_, kept.inputs.trans inputs⟩
  · subst hu; exact { fromW with }
  · subst hu
    obtain ⟨closes, stays⟩ := orderT
    refine ⟨fun g o e => ?_, fun e => stays e⟩
    obtain ⟨hoist, other, cancel, pass, closed⟩ := closes g o e
    exact ⟨hoist, other, cancel, pass, closed.of_same rfl (fun _ => rfl) rfl⟩

/-- Settles O53: an event that is not taken leaves the state, and one that is acts by the station's occupancy. -/
theorem seatsByOccupancy : Obligations.SeatsByOccupancy := by
  refine ⟨fun s n k id h hn => ⟨fun off => exec_seated h hn (State.pinEvent_same off), fun enabled level => ?seated⟩,
    fun s n k id r h hn => ⟨fun off => exec_released h hn (State.pinEvent_same off), fun enabled level => ?released⟩⟩
  case seated =>
    have taken := State.pinEvent_taken hn enabled (level := true) (by rw [level]; decide)
    rw [if_pos (rfl : true = true)] at taken
    generalize hu : s.setLevel n true = u at taken
    have stations : u.stations = s.stations := hu ▸ rfl
    refine ⟨fun off => ?off, fun sensing => ?on⟩
    case off =>
      refine exec_seated h hn (taken.trans ?_)
      split
      · next sensing =>
        obtain off | occ := off
        · rw [off] at sensing; cases sensing
        · exact (State.seatedAt_foreign (stations ▸ occ)).trans hu.symm
      · exact hu.symm
    case on =>
      rw [if_pos sensing] at taken
      refine ⟨fun occ => exec_seated h hn ?_, fun occ => exec_seated h hn ?_, fun occ => exec_seated h hn ?_,
        fun occ => exec_seated h hn ?_⟩
      · rw [taken, State.seatedAt_empty (stations ▸ occ), State.setOcc_notice _ hn, ← hu]; rfl
      · rw [taken, State.seatedAt_reservedEntry (stations ▸ occ), ← hu]; rfl
      · rw [taken, State.seatedAt_reservedRack (stations ▸ occ), State.stationNotice, stations, occ, ← hu]; rfl
      · rw [taken, State.seatedAt_occupied (stations ▸ occ), ← hu]; rfl
  case released =>
    have taken := State.pinEvent_taken hn enabled (level := false) (by rw [level]; decide)
    rw [if_neg Bool.false_ne_true] at taken
    generalize hu : s.setLevel n false = u at taken
    have stations : u.stations = s.stations := hu ▸ rfl
    have racks : u.racks = s.racks := hu ▸ rfl
    have orderFor : u.orderFor k = s.orderFor k := hu ▸ rfl
    refine ⟨fun off => ?off, fun sensing occ => ?foreign, fun sensing occ _ hr => ?occupied⟩
    case off =>
      refine exec_released h hn (taken.trans ?_)
      split
      · next sensing =>
        obtain off | idle := off
        · rw [off] at sensing; cases sensing
        · exact (State.releasedAt_idle (stations ▸ idle)).trans hu.symm
      · exact hu.symm
    case foreign =>
      rw [if_pos sensing] at taken
      refine exec_released h hn ?_
      rw [taken, State.releasedAt_foreign (stations ▸ occ), State.setOcc_notice _ hn, ← hu]; rfl
    case occupied =>
      rw [if_pos sensing] at taken
      have occU : (u.stations.get n).occ = .occupied k := stations ▸ occ
      have hrU : u.racks.get k = some r := racks ▸ hr
      refine ⟨fun st phase => exec_released h hn ?_, fun st p1 p2 => exec_released h hn ?_,
        fun st phase => exec_released h hn ?_, fun st phase hq => exec_released_frees h hn hr hq ?_,
        fun st hq => exec_released_frees h hn hr hq ?_⟩
      · rw [taken, State.releasedAt_immersed occU hrU st, State.bathReleased_released (orderFor ▸ phase), ← hu]; rfl
      · rw [taken, State.releasedAt_immersed occU hrU st, State.bathReleased_early (orderFor ▸ p1) (orderFor ▸ p2),
          State.addFlag, hrU, ← hu]
        rfl
      · rw [taken, State.releasedAt_atLoad occU hrU st, State.loadReleased_released (orderFor ▸ phase), ← hu]; rfl
      · rw [taken, State.releasedAt_atLoad occU hrU st, State.loadReleased_frees (orderFor ▸ phase), hu]
      · rw [taken, State.releasedAt_atUnload occU hrU st, hu]

end Sys2Proof.Machine
end
section
/-! PROOFS. A rack begun in a step at a bath station (04 R73, 08 R152), and a rack placed by hand (02 R41, R42). -/

namespace Sys2Proof.Machine

variable {s t u w : State}

/-! ### A step begun (04 R73, 08 R152) -/

/-- A cause that does not halt the line writes the line's record and queues a notice, no more (09 R160, R170). -/
theorem State.addCause_rest {c : Cause} (hc : c.isHalt = false) :
    s.addCause c = { s with line := (s.addCause c).line, link := (s.addCause c).link } := by
  have moved (v : State) : v.moveFor c = { v with line := (v.moveFor c).line } := by
    unfold State.moveFor
    rw [hc]
    cases h : v.line.st <;> rfl
  unfold State.addCause
  split
  · rfl
  · dsimp only
    rw [moved]
    rfl

theorem State.addCause_link {c : Cause} (hc : c.isHalt = false) :
    (s.addCause c).link = s.link ∨ ∃ m, (s.addCause c).link = s.link.notify m := by
  have moved (v : State) : (v.moveFor c).link = v.link := by
    unfold State.moveFor
    rw [hc]
    cases h : v.line.st <;> rfl
  unfold State.addCause
  split
  · exact .inl rfl
  · exact .inr ⟨_, by show (State.moveFor _ c).link.notify _ = _; rw [moved]⟩

theorem State.moveFor_line {c : Cause} (hc : c.isHalt = false) :
    (s.moveFor c).line = if s.line.st = .run then { s.line with st := .hold } else s.line := by
  unfold State.moveFor
  rw [hc]
  cases h : s.line.st <;> rfl

/-- What a cause makes of the line's record does not depend on the rest of the state. -/
theorem State.addCause_line_congr {c : Cause} (hc : c.isHalt = false) (h : t.line = s.line) :
    (t.addCause c).line = (s.addCause c).line := by
  unfold State.addCause
  rw [h]
  split
  · exact h
  · show (State.moveFor _ c).line = (State.moveFor _ c).line
    rw [State.moveFor_line hc, State.moveFor_line hc]

theorem State.mem_addCause {c : Cause} (hc : c.isHalt = false) : c ∈ (s.addCause c).line.causes := by
  unfold State.addCause
  split
  · assumption
  · show c ∈ (State.moveFor _ c).line.causes
    rw [State.moveFor_line hc]
    split <;> exact (Cause.mem_addTo _ _ _).mpr (.inl rfl)

/-- A step k of a recipe begun at station n, from s to t: the station may be WAITING and the line may have TEMP_STALE
(04 R73, 08 R152). -/
structure State.Begun (s t : State) (recipe k n : Nat) : Prop where
  marks   : t.marks =
    if (s.recipeStep recipe k).map (·.agitate) = some true then s.marks.set n .waiting else s.marks
  line    : t.line =
    if (s.recipeStep recipe k).any (fun st => decide (st.comp ≠ .none)) = true ∧
      (s.baths.get (s.stations.get n).bath).status = .lapsed then (s.addCause .tempStale).line else s.line
  rest    : t = { s with marks := t.marks, line := t.line, link := t.link }
  notices : s.link.KeepsNotices t.link
  queued  : ∀ c, c ≠ 3 → t.queued c = s.queued c

theorem State.beginImmersion_begun (recipe k n : Nat) : s.Begun (s.beginImmersion recipe k n) recipe k n := by
  unfold State.beginImmersion
  cases hst : s.recipeStep recipe k with
  | none => exact ⟨by simp [hst], by simp [hst], rfl, .refl _, fun _ _ => rfl⟩
  | some st =>
    dsimp only
    generalize hm : (if (st.compensated && decide ((s.baths.get (s.stations.get n).bath).status = .lapsed)) = true then
      s.addCause .tempStale else s) = m
    have warned : (st.compensated && decide ((s.baths.get (s.stations.get n).bath).status = .lapsed)) = true ↔
        ((s.recipeStep recipe k).any (fun st => decide (st.comp ≠ .none)) = true ∧
          (s.baths.get (s.stations.get n).bath).status = .lapsed) := by
      simp [hst, RecipeStep.compensated]
    have line : m.line = if (s.recipeStep recipe k).any (fun st => decide (st.comp ≠ .none)) = true ∧
        (s.baths.get (s.stations.get n).bath).status = .lapsed then (s.addCause .tempStale).line else s.line := by
      rw [← hm, apply_ite State.line]
      exact if_congr warned rfl rfl
    have rest : m = { s with line := m.line, link := m.link } := by
      rw [← hm]
      split
      · exact State.addCause_rest rfl
      · rfl
    have link : m.link = s.link ∨ ∃ x, m.link = s.link.notify x := by
      rw [← hm]
      split
      · exact State.addCause_link rfl
      · exact .inl rfl
    have notices : s.link.KeepsNotices m.link := by
      obtain e | ⟨x, e⟩ := link <;> rw [e]
      · exact .refl _
      · exact s.link.notify_keepsNotices x
    have queued (c : Nat) (hc : c ≠ 3) : m.queued c = s.queued c := by
      unfold State.queued
      obtain e | ⟨x, e⟩ := link <;> rw [e]
      rw [s.link.notify_get_ne (Ne.symm hc) x]
    have marks : m.marks = s.marks := by rw [rest]
    by_cases agitates : st.agitate = true
    · rw [if_pos agitates]
      refine ⟨?_, line, ?_, notices, queued⟩
      · rw [if_pos (by simp [hst, agitates])]
        show m.marks.set n .waiting = _
        rw [marks]
      · refine (congrArg (fun v : State => v.setMark n .waiting) rest).trans ?_
        simp only [State.setMark, marks]
    · rw [if_neg agitates]
      refine ⟨?_, line, ?_, notices, queued⟩
      · rw [if_neg (by simp [hst, agitates]), marks]
      · refine rest.trans ?_
        simp only [marks]

end Sys2Proof.Machine
end
section
/-! PROOFS. RACK PLACE: its refusals, and a stranded rack placed by hand (02 R39, R41, R42). -/

namespace Sys2Proof.Machine

variable {s t u w : State}

/-! ### The baths of the unfinished steps (02 R39) -/

theorem State.usedFrom_iff {recipe k b : Nat} : s.usedFrom recipe k b = true ↔
    ∃ i, k ≤ i + 1 ∧ ∃ st ∈ (s.recipes.get recipe).steps[i]?, st.bath = b := by
  unfold State.usedFrom
  rw [List.any_eq_true]
  constructor
  · rintro ⟨st, mem, e⟩
    obtain ⟨i, hi⟩ := List.mem_iff_getElem?.mp mem
    rw [List.getElem?_drop] at hi
    exact ⟨k - 1 + i, by omega, st, hi, of_decide_eq_true e⟩
  · rintro ⟨i, hi, st, mem, e⟩
    refine ⟨st, List.mem_iff_getElem?.mpr ⟨i - (k - 1), ?_⟩, decide_eq_true e⟩
    rw [List.getElem?_drop, show k - 1 + (i - (k - 1)) = i by omega]
    exact mem

/-- No step is used from a number past the last one on. -/
theorem State.usedFrom_past {recipe k : Nat} (h : (s.recipes.get recipe).steps.length < k) (b : Nat) :
    s.usedFrom recipe k b = false := by
  rw [← Bool.not_eq_true, State.usedFrom_iff]
  rintro ⟨i, hi, st, mem, -⟩
  have := (List.getElem?_eq_some_iff.mp (Option.mem_def.mp mem)).1
  omega

/-- The table of R39 for the first unfinished step of a rack of a recipe of n steps. -/
theorem State.unfinishedIn_iff {r : Rack} {b : Nat} (load : r.st = .atLoad → r.stepIdx = 0)
    (bath : r.st = .immersed ∨ r.st = .due → r.stepIdx ≠ 0) (lifted : r.st ≠ .stranded → (r.lifted = true ↔ r.st = .carried)) :
    s.unfinishedIn r b = true ↔ ∃ n ∈ (match r.st with
        | .atLoad => some 1
        | .immersed | .due => some r.stepIdx
        | .carried => some (r.stepIdx + 1)
        | .stranded => some (if r.lifted = true then r.stepIdx + 1 else max r.stepIdx 1)
        | .atUnload => none : Option Nat), s.usedFrom r.recipe n b = true := by
  have first (n : Nat) (h : s.firstUnfinished r = n) : s.unfinishedIn r b = true ↔
      ∃ m ∈ some n, s.usedFrom r.recipe m b = true := by
    unfold State.unfinishedIn
    rw [h]
    simp
  cases hst : r.st <;> simp only [hst, ne_eq, reduceCtorEq, not_false_eq_true, not_true_eq_false, true_or, or_true,
    or_self, forall_const, false_implies, iff_true, iff_false, Bool.not_eq_true] at load bath lifted ⊢
  case atLoad => exact first 1 (by simp [State.firstUnfinished, hst, lifted, load])
  case immersed => exact first _ (by simp [State.firstUnfinished, hst, lifted, bath])
  case due => exact first _ (by simp [State.firstUnfinished, hst, lifted, bath])
  case carried => exact first _ (by simp [State.firstUnfinished, hst, lifted])
  case stranded =>
    refine first _ ?_
    simp only [State.firstUnfinished, hst, reduceCtorEq, if_false]
    split
    · rfl
    · split <;> omega
  case atUnload =>
    have past : s.unfinishedIn r b = false := by
      unfold State.unfinishedIn
      rw [State.firstUnfinished, if_pos hst]
      exact State.usedFrom_past (Nat.lt_succ_self _) b
    simp [past]

/-! ### The checks (02 R41) -/

theorem State.placeFits_iff {r : Rack} {j n : Nat} : s.placeFits r j n = true ↔
    if j = 0 then (s.stations.get n).kind = .load
    else if j = (s.recipes.get r.recipe).steps.length + 1 then (s.stations.get n).kind = .unload
    else (s.stations.get n).kind = .bath ∧
      some (s.stations.get n).bath = (s.recipes.get r.recipe).steps[j - 1]?.map (·.bath) := by
  unfold State.placeFits State.stepCount
  dsimp only
  by_cases h0 : j = 0
  · simp [h0]
  by_cases h1 : j = (s.recipes.get r.recipe).steps.length + 1
  · simp [h1]
  rw [if_neg h0, if_neg h1, if_neg h0, if_neg h1, State.recipeStep, if_neg h0]
  cases (s.recipes.get r.recipe).steps[j - 1]? <;> simp

theorem Station.takesPlace_iff (x : Station) :
    x.takesPlace = true ↔ x.inService = true ∧ (x.occ = .empty ∨ x.occ = .foreign) := by
  simp [Station.takesPlace]

theorem State.placeOverflows_iff {r : Rack} {j : Nat} : s.placeOverflows r j = true ↔
    ∃ b : Nat, b < 8 ∧ s.usedFrom r.recipe (if j = 0 then 1 else j) b = true ∧ s.unfinishedIn r b = false ∧
      65535 < (s.baths.get b).areaInFlight + r.area := by
  simp [State.placeOverflows, State.placeAdds, placedFrom, Config.baths, and_assoc]

theorem rackPlace_fields (id j n : Nat) : placeFieldsOk id j n = true ↔ 1 ≤ id ∧ id ≤ 65534 ∧ j ≤ 13 ∧ n ≤ 31 := by
  rw [placeFieldsOk, Bool.and_eq_true, Bool.and_eq_true, rackIdOk_iff]
  simp [stationOk, Config.stations]
  omega

theorem State.placeRefusal_eq (r : Rack) (j n : Nat) : s.placeRefusal r j n =
    if r.st ≠ .stranded then some .wrongState
    else if (s.recipes.get r.recipe).steps.length + 1 < j then some .badValue
    else if ¬(if j = 0 then (s.stations.get n).kind = .load
      else if j = (s.recipes.get r.recipe).steps.length + 1 then (s.stations.get n).kind = .unload
      else (s.stations.get n).kind = .bath ∧
        some (s.stations.get n).bath = (s.recipes.get r.recipe).steps[j - 1]?.map (·.bath)) then some .badValue
    else if ¬((s.stations.get n).inService = true ∧ ((s.stations.get n).occ = .empty ∨ (s.stations.get n).occ = .foreign))
      then some .wrongState
    else if ∃ b : Nat, b < 8 ∧ s.usedFrom r.recipe (if j = 0 then 1 else j) b = true ∧ s.unfinishedIn r b = false ∧
      65535 < (s.baths.get b).areaInFlight + r.area then some .full
    else none := by
  simp only [State.placeRefusal, State.stepCount, bnot_iff_not State.placeFits_iff,
    bnot_iff_not (Station.takesPlace_iff _), State.placeOverflows_iff]

theorem State.placeRefusal_none {r : Rack} {j n : Nat} (h : s.placeRefusal r j n = none) : r.st = .stranded := by
  by_contra other
  rw [State.placeRefusal, if_pos other] at h
  cases h

/-! ### A rack set down by hand (02 R39, R42) -/

/-- The record of R42 for the rack r placed into step j at station n. -/
def State.placedRecord (s : State) (r : Rack) (j n : Nat) : Rack :=
  r.placeBack (s.stepCount r) j n (s.targetOf r j) s.tick

/-- The rack r of slot k stands at station n, with its record and the areas of the baths of its unfinished steps
rewritten (02 R39, R42). -/
def State.setDown (s : State) (k : Nat) (r : Rack) (j n : Nat) : State :=
  (((s.setOcc n (.occupied k)).setRack k (some (s.placedRecord r j n))).raiseArea (fun b => s.placeAdds r j b) r.area
    ).lowerArea (fun b => s.placeDrops r j b) r.area

theorem State.placeByHand_unload {k n j : Nat} {r : Rack} (h : j = s.stepCount r + 1) :
    s.placeByHand k r j n = (s.setDown k r j n).arriveUnload k (s.placedRecord r j n) n := if_pos h

theorem State.placeByHand_bath {k n j : Nat} {r : Rack} (h : j ≠ s.stepCount r + 1) :
    s.placeByHand k r j n = ((if j = 0 then s.setDown k r j n else (s.setDown k r j n).beginImmersion r.recipe j n
      ).createRequest k).triggerPass := if_neg h

section
variable {k n j : Nat} {r : Rack}

theorem State.setDown_rest : s.setDown k r j n =
    { s with
      stations := s.stations.set n { s.stations.get n with occ := .occupied k }
      racks := s.racks.set k (some (s.placedRecord r j n))
      baths := (s.setDown k r j n).baths } := rfl

theorem State.setDown_area {b : Nat} (hb : b < 8) : ((s.setDown k r j n).baths.get b).areaInFlight =
    if s.usedFrom r.recipe (if j = 0 then 1 else j) b = true ∧ s.unfinishedIn r b = false then
      (s.baths.get b).areaInFlight + r.area
    else if s.usedFrom r.recipe (if j = 0 then 1 else j) b = false ∧ s.unfinishedIn r b = true then
      (s.baths.get b).areaInFlight - r.area
    else (s.baths.get b).areaInFlight := by
  unfold State.setDown
  rw [State.lowerArea_areaInFlight _ _ hb, State.raiseArea_areaInFlight _ _ hb]
  show (s.baths.get b).areaInFlight + _ - _ = _
  unfold State.placeAdds State.placeDrops placedFrom
  cases s.usedFrom r.recipe (if j = 0 then 1 else j) b <;> cases s.unfinishedIn r b <;> simp

theorem State.setDown_status (b : Nat) : ((s.setDown k r j n).baths.get b).status = (s.baths.get b).status :=
  (State.lowerArea_form Bath.status (fun _ _ => rfl) _ _ b).trans
    (State.raiseArea_form Bath.status (fun _ _ => rfl) _ _ b)

/-- The flags of R42: MANUAL_PLACED, and those the rack had in the step it was stranded in where it is placed back into
it. -/
theorem State.placedRecord_flags (f : StepFlag) : f ∈ (s.placedRecord r j n).flags ↔
    f = .manualPlaced ∨ (j = r.stepIdx ∧ ((r.lifted = false ∧ f ∈ r.flags) ∨ (r.lifted = true ∧
      ∃ x ∈ r.history.find? (fun x => decide (x.step = j)), f ∈ x.flags))) := by
  show f ∈ StepFlag.manualPlaced.addTo _ ↔ _
  rw [StepFlag.mem_addTo]
  refine or_congr Iff.rfl ?_
  by_cases same : j = r.stepIdx
  · subst same
    simp only [decide_true, if_true, true_and, Rack.strandedFlags]
    cases hl : r.lifted
    · simp
    · cases r.history.find? (fun x => decide (x.step = r.stepIdx)) <;> simp
  · simp [same]

theorem State.placedRecord_st (h : j ≤ s.stepCount r) : (s.placedRecord r j n).st =
    if j = 0 then .atLoad
    else if (s.placedRecord r j n).target ≤ (s.placedRecord r j n).acc then .due else .immersed := by
  show placedState _ _ _ _ = _
  unfold placedState
  rw [if_neg (show ¬j = s.stepCount r + 1 by omega)]
  rfl

theorem State.placedRecord_target : (s.placedRecord r j n).target = if j = 0 then 0 else
    (match (s.recipes.get r.recipe).steps[j - 1]? with | some st => st.target r.adjust | none => 0) := by
  show s.targetOf r j = _
  unfold State.targetOf State.recipeStep
  by_cases h : j = 0
  · simp [h]
  · cases (s.recipes.get r.recipe).steps[j - 1]? <;> simp [h]

/-- What the placement of the rack r of slot k into step j, short of the unload visit, at station n makes of s (02 R39,
R42, 04 R73, 05 R86, 08 R152). -/
structure State.PlacedInStep (s t : State) (k : Nat) (r : Rack) (j n : Nat) : Prop where
  rack    : ∃ r' ∈ t.racks.get k, r'.undirected = s.placedRecord r j n
  seat    : (t.stations.get n).occ = .occupied k
  request : ∃ q ∈ t.requests.get k, q.source = n ∧ (q.st = .ready ∨ q.st = .blocked)
  baths   : t.baths = (s.setDown k r j n).baths
  marks   : t.marks = if j ≠ 0 ∧ (s.recipes.get r.recipe).steps[j - 1]?.map (·.agitate) = some true then
    s.marks.set n .waiting else s.marks
  line    : t.line = if j ≠ 0 ∧ (s.recipes.get r.recipe).steps[j - 1]?.any (fun st => decide (st.comp ≠ .none)) = true ∧
    (s.baths.get (s.stations.get n).bath).status = .lapsed then (s.addCause .tempStale).line else s.line
  pass    : s.dispatcher.passesOwed < t.dispatcher.passesOwed
  others  : ∀ i < 24, i ≠ k → t.racks.get i = s.racks.get i ∧ t.requests.get i = s.requests.get i
  windows : t.windows = s.windows
  tick    : t.tick = s.tick
  gens    : t.gens = s.gens
  recipes : t.recipes = s.recipes
  queue   : t.queue = s.queue

/-- The rack set down at n begins step j there, unless it is back at its load visit. -/
def State.stepBegun (s : State) (k : Nat) (r : Rack) (j n : Nat) : State :=
  if j = 0 then s.setDown k r j n else (s.setDown k r j n).beginImmersion r.recipe j n

theorem State.stepBegun_marks : (s.stepBegun k r j n).marks =
    if j ≠ 0 ∧ (s.recipes.get r.recipe).steps[j - 1]?.map (·.agitate) = some true then s.marks.set n .waiting
    else s.marks := by
  unfold State.stepBegun
  by_cases h : j = 0
  · rw [if_pos h, if_neg (fun c => c.1 h)]; rfl
  · rw [if_neg h, ((s.setDown k r j n).beginImmersion_begun r.recipe j n).marks]
    refine if_congr ?_ rfl rfl
    show Option.map _ (State.recipeStep _ _ _) = _ ↔ _
    rw [State.recipeStep, if_neg h]
    exact (and_iff_right h).symm

theorem State.stepBegun_line (hn : n < 32) : (s.stepBegun k r j n).line =
    if j ≠ 0 ∧ (s.recipes.get r.recipe).steps[j - 1]?.any (fun st => decide (st.comp ≠ .none)) = true ∧
      (s.baths.get (s.stations.get n).bath).status = .lapsed then (s.addCause .tempStale).line else s.line := by
  have seat : (s.setDown k r j n).stations.get n = { s.stations.get n with occ := .occupied k } :=
    Table.get_set_self _ hn _
  have bath : ((s.setDown k r j n).stations.get n).bath = (s.stations.get n).bath := by
    rw [seat]
  unfold State.stepBegun
  by_cases h : j = 0
  · rw [if_pos h, if_neg (fun c => c.1 h)]; rfl
  · rw [if_neg h, ((s.setDown k r j n).beginImmersion_begun r.recipe j n).line, bath, State.setDown_status]
    refine if_congr ?_ (State.addCause_line_congr rfl rfl) rfl
    rw [State.recipeStep, if_neg h]
    exact (and_iff_right h).symm

theorem State.stepBegun_rest : s.stepBegun k r j n = { s.setDown k r j n with
    marks := (s.stepBegun k r j n).marks
    line := (s.stepBegun k r j n).line
    link := (s.stepBegun k r j n).link } := by
  unfold State.stepBegun
  by_cases h : j = 0
  · rw [if_pos h]
  · rw [if_neg h]; exact ((s.setDown k r j n).beginImmersion_begun r.recipe j n).rest

theorem State.placeByHand_placedInStep (hk : k < 24) (hn : n < 32) (hj : j ≤ s.stepCount r) :
    s.PlacedInStep (s.placeByHand k r j n) k r j n := by
  rw [State.placeByHand_bath (show j ≠ s.stepCount r + 1 by omega)]
  show s.PlacedInStep ((s.stepBegun k r j n).createRequest k).triggerPass k r j n
  have marks := State.stepBegun_marks (s := s) (k := k) (r := r) (j := j) (n := n)
  have line := State.stepBegun_line (s := s) (k := k) (r := r) (j := j) hn
  have rest := State.stepBegun_rest (s := s) (k := k) (r := r) (j := j) (n := n)
  generalize s.stepBegun k r j n = v at *
  have racks : v.racks = s.racks.set k (some (s.placedRecord r j n)) := by rw [rest]; rfl
  have stations : v.stations = s.stations.set n { s.stations.get n with occ := .occupied k } := by rw [rest]; rfl
  have requests : v.requests = s.requests := by rw [rest]; rfl
  have made : v.RequestMade (v.createRequest k) k (s.placedRecord r j n) :=
    State.createRequest_made (by rw [racks]; exact Table.get_set_self _ hk _)
  have seat : v.stations.get n = { s.stations.get n with occ := .occupied k } := by
    rw [stations]; exact Table.get_set_self _ hn _
  constructor
  case rack => exact Option.map_eq_some_iff.mp made.rack
  case seat =>
    obtain e | ⟨empty, -⟩ := made.stations n
    · exact (congrArg Station.occ e).trans (congrArg Station.occ seat)
    · rw [seat] at empty; cases empty
  case request =>
    obtain ⟨q, hq, fresh, directed⟩ := made.request
    have source : q.source = n := congrArg Request.source fresh
    exact ⟨q, hq, source, directed.elim (fun h => .inr h.1) (fun h => .inl h.1)⟩
  case baths => simp [show v.baths = _ by rw [rest]]
  case marks => simpa using marks
  case line => simpa using line
  case pass => simp [State.triggerPass, show v.dispatcher = s.dispatcher by rw [rest]; rfl]
  case others =>
    intro i _ hi
    obtain ⟨rackKept, requestKept⟩ := made.others i hi
    refine ⟨rackKept.trans ?_, requestKept.trans (by rw [requests])⟩
    rw [racks]
    exact Table.get_set_ne _ (Ne.symm hi) _
  case windows => simp [show v.windows = s.windows by rw [rest]; rfl]
  case tick => simp [show v.tick = s.tick by rw [rest]; rfl]
  case gens => simp [show v.gens = s.gens by rw [rest]; rfl]
  case recipes => simp [show v.recipes = s.recipes by rw [rest]; rfl]
  case queue => simp [show v.queue = s.queue by rw [rest]; rfl]

/-! ### A rack placed at its unload visit (02 R27, R34, R42) -/

theorem State.Told.of_same {ev : RackEvent} {x : Rack} (h : t.Told ev k r) (id : r.id = x.id) (st : r.st = x.st)
    (step : r.stepIdx = x.stepIdx) : t.Told ev k x := by
  have same (m : OutMsg) : m.tells ev k x = m.tells ev k r := by cases m <;> simp [OutMsg.tells, id, st, step]
  unfold State.Told
  simp only [same]
  exact h

theorem State.placedRecord_unload (h : j = s.stepCount r + 1) : (s.placedRecord r j n).st = .atUnload ∧
    (s.placedRecord r j n).target = 0 ∧ (s.placedRecord r j n).dueTick = none := by
  have st : (s.placedRecord r j n).st = .atUnload := by
    show placedState _ _ _ _ = _
    rw [placedState, if_neg (by omega), if_pos h]
  refine ⟨st, ?_, ?_⟩
  · have past : (s.recipes.get r.recipe).steps[j - 1]? = none :=
      List.getElem?_eq_none (by rw [h]; exact Nat.le_refl _)
    rw [State.placedRecord_target, past]
    split <;> rfl
  · show (if (s.placedRecord r j n).st = .due then some s.tick else none) = none
    rw [st]
    rfl

/-- A placement past the last step takes the rack's area off every bath of its unfinished steps (02 R39). -/
theorem State.setDown_area_unload (h : j = s.stepCount r + 1) {b : Nat} (hb : b < 8) :
    ((s.setDown k r j n).baths.get b).areaInFlight =
      (s.baths.get b).areaInFlight - (if s.unfinishedIn r b = true then r.area else 0) := by
  have past : s.usedFrom r.recipe (if j = 0 then 1 else j) b = false := by
    refine State.usedFrom_past ?_ b
    rw [if_neg (by omega), h]
    exact Nat.lt_succ_self _
  rw [State.setDown_area hb, past]
  cases s.unfinishedIn r b <;> simp

/-- A rack at its unload visit has no unfinished step left. -/
theorem State.unfinishedIn_atUnload {x : Rack} (h : x.st = .atUnload) (b : Nat) : s.unfinishedIn x b = false := by
  unfold State.unfinishedIn
  rw [State.firstUnfinished, if_pos h]
  exact State.usedFrom_past (Nat.lt_succ_self _) b

theorem State.freeRack_notices {x : Rack} (hx : s.racks.get k = some x) (ev : Option RackEvent) :
    s.link.KeepsNotices (s.freeRack k ev).link :=
  (s.dropRack_keepsNotices k x ev).trans (State.freeRack_keepsNotices hx ev)

/-- The record freed without sensing at the unload visit, with DONE telling of it before (02 R34). -/
theorem State.arriveUnload_frees {x : Rack} (off : (s.stations.get n).sensing = false) (hx : s.racks.get k = some x)
    (hq : s.queue = []) : s.Freed (s.arriveUnload k x n) k x (.done true) := by
  have arrived : s.arriveUnload k x n = (s.rackNotice (.done true) k x (some n)).freeRack k none := if_neg (by simp [off])
  rw [arrived]
  have told := (s.told_rackNotice (.done true) k x (some n)).mono
    (State.freeRack_notices (s := s.rackNotice (.done true) k x (some n)) hx none)
  exact { State.freeRack_freed (s := s.rackNotice (.done true) k x (some n)) hx hq told with }

theorem State.arriveUnload_told {x : Rack} (hx : s.racks.get k = some x) :
    (s.arriveUnload k x n).Told (.done (!(s.stations.get n).sensing)) k x := by
  unfold State.arriveUnload
  cases (s.stations.get n).sensing
  · exact (s.told_rackNotice (.done true) k x (some n)).mono
      (State.freeRack_notices (s := s.rackNotice (.done true) k x (some n)) hx none)
  · exact s.told_rackNotice (.done false) k x (some n)

/-- A rack without an open order arrives at its unload visit and leaves the hoists alone. -/
theorem State.arriveUnload_hoist {x : Rack} (hx : s.racks.get k = some x) (none : s.orderFor k = none) (g : Hoist) :
    (s.arriveUnload k x n).hoist g = s.hoist g := by
  unfold State.arriveUnload
  split
  · rfl
  · obtain ⟨a, b, -⟩ := (State.freeRack_orderFreed (s := s.rackNotice (.done true) k x (some n)) hx Option.none).2 none
    cases g
    · exact a
    · exact b

end

/-! ### RACK PLACE (02 R41, R42) -/

theorem exec_rackPlace_refused (h : s.TakesRequests) {id j n k : Nat} {r : Rack} {code : ReplyCode}
    (good : placeFieldsOk id j n = true) (hs : s.slotOf id = some k) (hr : s.racks.get k = some r)
    (refused : s.placeRefusal r j n = some code) :
    exec (.rackPlace id j n) s = .next (s.reply 0x43 code []).driveOutputs := by
  refine exec_request_replies h rfl rfl h.2.1 ?_
  generalize hu : s.setRequestSlot (some (.good (.rackPlace id j n))) = u
  have slotOf : u.slotOf id = s.slotOf id := hu ▸ rfl
  have racks : u.racks = s.racks := hu ▸ rfl
  have same : u.placeRefusal r j n = s.placeRefusal r j n := hu ▸ rfl
  show handleRackPlace id j n u = _
  simp [handleRackPlace, good, slotOf, hs, racks, hr, same, refused]

theorem exec_rackPlace_taken (h : s.TakesRequests) {id j n k : Nat} {r : Rack}
    (good : placeFieldsOk id j n = true) (hs : s.slotOf id = some k) (hr : s.racks.get k = some r)
    (passes : s.placeRefusal r j n = none) :
    ∃ t, exec (.rackPlace id j n) s = .next t ∧
      ((s.setRequestSlot (some (.good (.rackPlace id j n)))).placeByHand k r j n).AnsweredFrom t 0x43 .ok := by
  refine exec_request_answers h rfl rfl ?_
  generalize hu : s.setRequestSlot (some (.good (.rackPlace id j n))) = u
  have slotOf : u.slotOf id = s.slotOf id := hu ▸ rfl
  have racks : u.racks = s.racks := hu ▸ rfl
  have same : u.placeRefusal r j n = s.placeRefusal r j n := hu ▸ rfl
  show handleRackPlace id j n u = _
  simp [handleRackPlace, good, slotOf, hs, racks, hr, same, passes]

theorem rackPlace_inStep (h : s.TakesRequests) {id j n k : Nat} {r : Rack} (good : placeFieldsOk id j n = true)
    (hs : s.slotOf id = some k) (hr : s.racks.get k = some r) (passes : s.placeRefusal r j n = none) (hk : k < 24)
    (hn : n < 32) (hj : j ≤ s.stepCount r) :
    ∃ t, exec (.rackPlace id j n) s = .next t ∧ t.Answered 0x43 .ok [] ∧ s.PlacedInStep t k r j n := by
  have placed := State.placeByHand_placedInStep (s := s.setRequestSlot (some (.good (.rackPlace id j n)))) (r := r)
    hk hn hj
  obtain ⟨t, run, kept, answered, -, -⟩ := exec_rackPlace_taken h good hs hr passes
  generalize (s.setRequestSlot (some (.good (.rackPlace id j n)))).placeByHand k r j n = w at *
  refine ⟨t, run, answered, ?_⟩
  constructor
  case rack => rw [kept.racks]; exact placed.rack
  case seat => rw [kept.stations]; exact placed.seat
  case request => rw [kept.requests]; exact placed.request
  case baths => rw [kept.baths]; exact placed.baths
  case marks => rw [kept.marks]; exact placed.marks
  case line =>
    rw [kept.line, placed.line]
    exact if_congr Iff.rfl (State.addCause_line_congr rfl rfl) rfl
  case pass => rw [kept.dispatcher]; exact placed.pass
  case others => rw [kept.racks, kept.requests]; exact placed.others
  case windows => exact kept.windows.trans placed.windows
  case tick => exact kept.tick.trans placed.tick
  case gens => exact kept.gens.trans placed.gens
  case recipes => exact kept.recipes.trans placed.recipes
  case queue => exact kept.queue.trans placed.queue

theorem Rack.directed_of_undirected {x y : Rack} (h : x.undirected = y) : ∃ d, x = { y with dest := d } := by
  subst h
  exact ⟨x.dest, rfl⟩

section
variable {k n j : Nat} {r : Rack}

/-- What a placement at an UNLOAD station ends in (02 R27, R34, R39, R42). -/
structure State.PlacedAtUnload (s t : State) (k : Nat) (r : Rack) (j n : Nat) : Prop where
  hoists : t.hoistA = s.hoistA ∧ t.hoistB = s.hoistB
  tick   : t.tick = s.tick
  gens   : t.gens = s.gens
  line   : t.line = s.line
  told   : t.Told (.done (!(s.stations.get n).sensing)) k { r with st := .atUnload, stepIdx := j }
  stays  : (s.stations.get n).sensing = true →
    t.requests = s.requests ∧ t.queue = s.queue ∧ (t.stations.get n).occ = .occupied k ∧ t.windows = s.windows ∧
    t.racks.get k = some (s.placedRecord r j n) ∧ t.baths = (s.setDown k r j n).baths
  freed  : (s.stations.get n).sensing = false → s.queue = [] →
    (s.setDown k r j n).Freed t k (s.placedRecord r j n) (.done true)

theorem State.placeByHand_atUnload (hk : k < 24) (hn : n < 32) (h : j = s.stepCount r + 1)
    (ho : s.orderFor k = none) : s.PlacedAtUnload (s.placeByHand k r j n) k r j n := by
  rw [State.placeByHand_unload h]
  have here : (s.setDown k r j n).racks.get k = some (s.placedRecord r j n) := Table.get_set_self _ hk _
  have seat : (s.setDown k r j n).stations.get n = { s.stations.get n with occ := .occupied k } :=
    Table.get_set_self _ hn _
  have sensing : ((s.setDown k r j n).stations.get n).sensing = (s.stations.get n).sensing := by rw [seat]
  have order : (s.setDown k r j n).orderFor k = none := ho
  constructor
  case hoists => exact ⟨State.arriveUnload_hoist here order .a, State.arriveUnload_hoist here order .b⟩
  case tick => rw [State.arriveUnload_tick]; rfl
  case gens => rw [State.arriveUnload_gens]; rfl
  case line => rw [State.arriveUnload_line]; rfl
  case told =>
    have told := State.arriveUnload_told (n := n) here
    rw [sensing] at told
    exact told.of_same rfl (State.placedRecord_unload h).1 rfl
  case stays =>
    intro on
    have arrived : (s.setDown k r j n).arriveUnload k (s.placedRecord r j n) n =
        (s.setDown k r j n).rackNotice (.done false) k (s.placedRecord r j n) (some n) := if_pos (sensing.trans on)
    rw [arrived]
    refine ⟨rfl, rfl, ?_, rfl, here, rfl⟩
    show ((s.setDown k r j n).stations.get n).occ = _
    rw [seat]
  case freed =>
    intro off hq
    exact State.arriveUnload_frees (sensing.trans off) here hq

theorem State.PlacedAtUnload.of_slotted {f : Option SlotFrame} (h : (s.setRequestSlot f).PlacedAtUnload t k r j n) :
    s.PlacedAtUnload t k r j n := by
  obtain ⟨hoists, tick, gens, line, told, stays, freed⟩ := h
  exact ⟨hoists, tick, gens, line, told, stays, fun off hq => { freed off hq with }⟩

theorem State.PlacedAtUnload.of_kept (h : s.PlacedAtUnload w k r j n) (kept : w.Kept t)
    (notices : w.link.KeepsNotices t.link) : s.PlacedAtUnload t k r j n where
  hoists := ⟨kept.hoistA.trans h.hoists.1, kept.hoistB.trans h.hoists.2⟩
  tick := kept.tick.trans h.tick
  gens := kept.gens.trans h.gens
  line := kept.line.trans h.line
  told := h.told.mono notices
  stays on := by
    rw [kept.requests, kept.queue, kept.stations, kept.windows, kept.racks, kept.baths]
    exact h.stays on
  freed off hq := (h.freed off hq).of_kept kept notices

end

/-- Settles O38: the checks of R41 in their order, the table of R39, and R42 at each kind of station. -/
theorem rackPlaceResults : Obligations.RackPlaceResults := by
  refine ⟨fun s id j n k r code h => ⟨fun bad => ?bad, fun h1 h2 h3 h4 => ⟨fun none => ?unknown, fun hs hr =>
      ⟨State.placeRefusal_eq r j n, fun first => ?refused⟩⟩⟩,
    fun s r k b => ⟨State.usedFrom_iff, fun load bath lifted =>
      (State.unfinishedIn_iff load bath lifted).trans (exists_congr fun n => and_congr_right fun _ =>
        State.usedFrom_iff)⟩,
    fun s id j n k r h h1 h2 h3 h4 hk hs hr passes hj => ?inStep,
    fun s id j n k r h h1 h2 h3 h4 hk hs hr passes hj hq ho => ?unload⟩
  case bad =>
    refine exec_request_replies h rfl rfl h.2.1 (if_pos ?_)
    rw [bnot_iff_not (rackPlace_fields id j n)]
    exact bad
  case unknown =>
    have good := (rackPlace_fields id j n).mpr ⟨h1, h2, h3, h4⟩
    refine exec_request_replies h rfl rfl h.2.1 ?_
    have slotted : (s.setRequestSlot (some (.good (.rackPlace id j n)))).slotOf id = .none := none
    show handleRackPlace id j n _ = _
    simp only [handleRackPlace, good, Bool.not_true, Bool.false_eq_true, if_false, slotted]
  case refused =>
    exact exec_rackPlace_refused h ((rackPlace_fields id j n).mpr ⟨h1, h2, h3, h4⟩) hs hr
      ((State.placeRefusal_eq r j n).trans first)
  case inStep =>
    have good := (rackPlace_fields id j n).mpr ⟨h1, h2, h3, h4⟩
    obtain ⟨t, run, answered, placed⟩ :=
      rackPlace_inStep h good hs hr passes hk (Nat.lt_succ_of_le h4) hj
    obtain ⟨r', hr', e⟩ := placed.rack
    obtain ⟨d, rfl⟩ := Rack.directed_of_undirected e
    have same : decide (j = r.stepIdx) = true ↔ j = r.stepIdx := decide_eq_true_iff
    exact ⟨t, run, answered, ⟨_, hr', rfl, rfl, rfl, rfl, rfl, rfl, if_congr same rfl rfl, if_congr same rfl rfl,
      State.placedRecord_target (n := n),
      State.placedRecord_st (n := n) hj, rfl, fun f _ => State.placedRecord_flags (s := s) (n := n) f⟩, placed.seat,
      placed.request, fun b hb => by rw [placed.baths]; exact State.setDown_area hb, ⟨placed.marks, placed.line⟩,
      placed.pass, placed.windows, placed.others, placed.tick, placed.gens, placed.recipes, placed.queue⟩
  case unload =>
    have good := (rackPlace_fields id j n).mpr ⟨h1, h2, h3, h4⟩
    have placed := State.placeByHand_atUnload (s := s.setRequestSlot (some (.good (.rackPlace id j n)))) (r := r) hk
      (Nat.lt_succ_of_le h4) hj ho
    obtain ⟨t, run, kept, answered, notices, -⟩ := exec_rackPlace_taken h good hs hr passes
    obtain ⟨hoists, tick, gens, line, told, stays, freed⟩ := (placed.of_kept kept notices).of_slotted
    obtain ⟨st, target, due⟩ := State.placedRecord_unload (s := s) (r := r) (n := n) hj
    refine ⟨t, run, answered, hoists.1, hoists.2, tick, gens, line, told, fun on => ?sensed, fun off none => ?freed⟩
    case sensed =>
      obtain ⟨requests, queue, seat, windows, rack, baths⟩ := stays on
      refine ⟨requests, queue, seat, windows, ⟨_, rack, st, rfl, rfl, target, due, rfl, rfl, ?_⟩, fun b hb => ?_⟩
      · exact (StepFlag.mem_addTo _ _ _).mpr (.inl rfl)
      · rw [baths]; exact State.setDown_area_unload hj hb
    case freed =>
      have back := freed off none
      refine ⟨back.record, back.request, back.queue.trans none, back.station n rfl, back.count, fun b hb => ?_,
        fun i hi other => (back.others i hi other).trans ?_⟩
      · rw [back.areas b hb, State.unfinishedIn_atUnload st b, State.setDown_area_unload hj hb]
        exact Nat.sub_zero _
      · show ((s.racks.set k _).get i).map _ = _
        rw [Table.get_set_ne _ (Ne.symm other)]

end Sys2Proof.Machine
end
section
/-! PROOFS. LIFTED: the rack is taken off its station, its step ends and its bath is charged (02 R26, R39, 04 R75, R77,
06 R116, R117). -/

namespace Sys2Proof.Machine

variable {s t u w : State}

/-! ### What a retest leaves of stations and baths (02 R31, R39, R40) -/

/-- A retest writes nothing of a station but its occupancy. -/
theorem State.retestHead_station_form (n : Nat) (o : Occupancy) :
    { s.retestHead.stations.get n with occ := o } = { s.stations.get n with occ := o } := by
  refine State.retestHead_keeps (P := fun t => { t.stations.get n with occ := o } = { s.stations.get n with occ := o })
    (fun t e rest j _ _ hj h => ?_) rfl
  have admitted := State.admitHead_admittedAt e rest (State.freeSlot_eq_some.mp hj).1 (s := t)
  obtain ⟨x, form, -⟩ := admitted.stations n
  rw [form]
  exact h

/-- A retest seats no rack that has a record already. -/
theorem State.retestHead_occupied {k n : Nat} (hk : s.racks.get k ≠ none)
    (h : (s.retestHead.stations.get n).occ = .occupied k) : (s.stations.get n).occ = .occupied k := by
  refine (State.retestHead_keeps (P := fun t => t.racks.get k ≠ none ∧
    ((t.stations.get n).occ = .occupied k → (s.stations.get n).occ = .occupied k))
    (fun t e rest j _ _ hj ⟨held, kept⟩ => ?_) ⟨hk, id⟩).2 h
  have other : k ≠ j := fun same => held (same ▸ (State.freeSlot_eq_some.mp hj).2.1)
  have admitted := State.admitHead_admittedAt e rest (State.freeSlot_eq_some.mp hj).1 (s := t)
  refine ⟨(admitted.others k other).1 ▸ held, fun occ => kept ?_⟩
  obtain ⟨x, form, same | seated | reserved⟩ := admitted.stations n
  · rw [form] at occ
    exact (same ▸ occ : _)
  · rw [form, seated] at occ
    exact absurd (Occupancy.occupied.inj occ).symm other
  · rw [form, reserved] at occ
    cases occ

/-- A retest writes nothing of a bath but its area in flight. -/
theorem State.retestHead_bath {β : Type} (part : Bath → β) (h : ∀ x a, part { x with areaInFlight := a } = part x)
    (b : Nat) : part (s.retestHead.baths.get b) = part (s.baths.get b) := by
  refine State.retestHead_keeps (P := fun t => part (t.baths.get b) = part (s.baths.get b))
    (fun t e rest j _ _ hj kept => ?_) rfl
  rw [(State.admitHead_admittedAt e rest (State.freeSlot_eq_some.mp hj).1).baths, State.raiseArea_form part h]
  exact kept

/-! ### A notice queued (11 R192) -/

/-- A message stands in the order station's queue, or was dropped for want of room. -/
def State.Noticed (t : State) (m : OutMsg) : Prop :=
  (∃ f ∈ (t.link.channels.get 3).queue, f.msg = m) ∨ (t.link.dropped = true ∧ 5 ≤ t.link.held 3)

theorem State.noticed_notify (s : State) (m : OutMsg) : (s.notify m).Noticed m := by
  unfold State.Noticed State.notify Link.notify
  split
  · exact .inl ⟨⟨m, s.link.stamp⟩, by simp [Link.push, Table.modify, Table.get_set_self _ (show 3 < 4 by decide)], rfl⟩
  · next h =>
    refine .inr ⟨rfl, ?_⟩
    have e : ({ s.link.lose 3 with dropped := true } : Link).held 3 = s.link.held 3 := s.link.held_lose 3 3
    simp only [Config.replyPlaces, Config.orderPlaces] at h
    rw [e]; omega

theorem State.Noticed.mono {m : OutMsg} (h : s.Noticed m) (k : s.link.KeepsNotices t.link) : t.Noticed m := by
  obtain ⟨⟨more, hq⟩, hd⟩ := k
  obtain ⟨f, hf, ht⟩ | ⟨hdrop, hheld⟩ := h
  · have mem : f.msg ∈ (t.link.channels.get 3).queue.map (·.msg) := by
      rw [hq]; exact List.mem_append_left _ (List.mem_map_of_mem hf)
    obtain ⟨g, hg, e⟩ := List.mem_map.mp mem
    exact .inl ⟨g, hg, e.trans ht⟩
  · refine .inr ⟨hd hdrop, hheld.trans ?_⟩
    have len := congrArg List.length hq
    simp only [List.length_map, List.length_append] at len
    unfold Link.held
    omega

theorem State.Noticed.told {ev : RackEvent} {id k step : Nat} {st : RackState} {place : Option Nat} {r : Rack}
    (h : t.Noticed (.rack ev id k st step place)) (hid : id = r.id) (hst : st = r.st) (hstep : step = r.stepIdx) :
    t.Told ev k r := by
  refine h.imp (fun ⟨f, hf, e⟩ => ⟨f, hf, ?_⟩) (fun lost => lost)
  rw [e]
  simp [OutMsg.tells, hid, hst, hstep]

/-! ### The charge (04 R75, R77) -/

/-- A bath's record after the charge for an area, with its pending factor record (04 R75). -/
def Bath.charged (x : Bath) (area : Nat) : Bath := (x.charge area).computePending

theorem Bath.charged_owed (x : Bath) (area : Nat) :
    (x.charged area).owed = min 65535 (x.owed + (area * x.rho + x.remainder) / 1000) := by
  show (if Config.max16 < _ then Config.max16 else _) = _
  simp only [Config.max16]
  split <;> omega

theorem Link.replaceOwed_mem {l : Link} {b : Nat} (waits : l.owedWaits b = true) (v : Nat) :
    ∃ f ∈ ((l.replaceOwed b v).channels.get 2).queue, f.msg = .owed b v := by
  obtain ⟨q, mem, owed⟩ := List.any_eq_true.mp waits
  refine ⟨{ q with msg := .owed b v }, ?_, rfl⟩
  have queue : ((l.replaceOwed b v).channels.get 2).queue = (l.channels.get 2).queue.take l.begun ++
      ((l.channels.get 2).queue.drop l.begun).map
        (fun q => if q.msg.isOwed b then { q with msg := .owed b v } else q) := by
    simp [Link.replaceOwed, Table.modify, Table.get_set_self _ (show 2 < 4 by decide)]
  rw [queue]
  exact List.mem_append_right _ (List.mem_map.mpr ⟨q, mem, if_pos owed⟩)

/-- An OWED changes the cabinet's queue only (04 R77). -/
theorem State.sendOwed_channel (b : Nat) {c : Nat} (hc : c ≠ 2) :
    (s.sendOwed b).link.channels.get c = s.link.channels.get c ∧ (s.sendOwed b).link.dropped = s.link.dropped := by
  unfold State.sendOwed
  dsimp only
  split
  · exact ⟨Table.get_set_ne _ (Ne.symm hc) _, rfl⟩
  · split
    · exact ⟨Table.get_set_ne _ (Ne.symm hc) _, rfl⟩
    · exact ⟨rfl, rfl⟩

/-- An OWED writes nothing of a bath but its owed unsent mark. -/
theorem State.sendOwed_bath {β : Type} (part : Bath → β) (h : ∀ x m, part { x with owedUnsent := m } = part x)
    (b c : Nat) : part ((s.sendOwed b).baths.get c) = part (s.baths.get c) := by
  unfold State.sendOwed
  dsimp only
  split
  · rfl
  · split
    · rfl
    · show part ((s.baths.set b _).get c) = _
      rw [Table.get_set]
      split
      · next same => rw [h, ← same.1]
      · rfl

/-- The OWED of bath b is queued, or takes the place of a waiting one, or the bath is marked (04 R77). -/
theorem State.sendOwed_owed {b : Nat} (hb : b < 8) :
    (∃ f ∈ ((s.sendOwed b).link.channels.get 2).queue, f.msg = .owed b (s.baths.get b).owed) ∨
      (4 ≤ s.link.held 2 ∧ ((s.sendOwed b).baths.get b).owedUnsent = true) := by
  unfold State.sendOwed
  dsimp only
  split
  · next waits => exact .inl (Link.replaceOwed_mem waits _)
  · split
    · refine .inl ⟨⟨.owed b (s.baths.get b).owed, s.link.stamp⟩, ?_, rfl⟩
      simp [Link.push, Table.modify, Table.get_set_self _ (show 2 < 4 by decide)]
    · next full =>
      refine .inr ⟨by simpa [Config.hoistPlaces] using full, ?_⟩
      exact congrArg Bath.owedUnsent (Table.get_set_self _ hb _)

theorem State.chargeBath_bath {β : Type} (part : Bath → β) (h : ∀ x m, part { x with owedUnsent := m } = part x)
    {b : Nat} (hb : b < 8) (area : Nat) : part ((s.chargeBath b area).baths.get b) =
      part ((s.baths.get b).charged area) := by
  rw [State.chargeBath, State.sendOwed_bath part h]
  exact congrArg part (Table.get_set_self _ hb _)

/-- The OWED of a charge (04 R75, R77). -/
theorem State.chargeBath_owed (s : State) {b : Nat} (hb : b < 8) (area : Nat) :
    (∃ f ∈ ((s.chargeBath b area).link.channels.get 2).queue, f.msg = .owed b ((s.baths.get b).charged area).owed) ∨
      (4 ≤ s.link.held 2 ∧ ((s.chargeBath b area).baths.get b).owedUnsent = true) := by
  have sent := State.sendOwed_owed (s := s.setBath b ((s.baths.get b).charged area)) hb
  rw [show (s.setBath b ((s.baths.get b).charged area)).baths.get b = (s.baths.get b).charged area from
    Table.get_set_self _ hb _] at sent
  exact sent

theorem State.chargeBath_channel (b area : Nat) {c : Nat} (hc : c ≠ 2) :
    (s.chargeBath b area).link.channels.get c = s.link.channels.get c ∧
      (s.chargeBath b area).link.dropped = s.link.dropped :=
  State.sendOwed_channel b hc

/-- A charge writes a bath's owed volume, remainder, pending factors and owed unsent mark, no more. -/
theorem State.chargeBath_form {β : Type} (part : Bath → β)
    (h : ∀ x m o q p, part { x with owedUnsent := m, owed := o, remainder := q, pendingF := p } = part x)
    (b area c : Nat) : part ((s.chargeBath b area).baths.get c) = part (s.baths.get c) := by
  rw [State.chargeBath, State.sendOwed_bath part (fun x m => h x m x.owed x.remainder x.pendingF)]
  show part ((s.baths.set b _).get c) = _
  rw [Table.get_set]
  split
  · next same =>
    rw [← same.1]
    exact h (s.baths.get b) (s.baths.get b).owedUnsent _ _ _
  · rfl

/-! ### The lift of a rack (06 R116) -/

/-- The rack r of slot k taken off station n, from s to t, with its step ended (02 R26, 06 R116). -/
structure State.TakenOff (s t : State) (k n : Nat) (r : Rack) : Prop where
  rack    : (t.racks.get k).map Rack.undirected = some (r.afterLift n).undirected
  vacated : (t.stations.get n).occ ≠ .occupied k
  forms   : ∀ m o, { t.stations.get m with occ := o } = { s.stations.get m with occ := o }
  marks   : t.marks = s.marks.set n .out
  windows : t.windows = s.windows.set n none
  noticed : t.Noticed (.rack (r.stepEnded n) r.id k .carried r.stepIdx none)
  passes  : s.dispatcher.passesOwed ≤ t.dispatcher.passesOwed
  hoist   : ∀ g, t.hoist g = s.hoist g
  span    : t.span = s.span
  line    : t.line = s.line
  tick    : t.tick = s.tick
  gens    : t.gens = s.gens
  recipes : t.recipes = s.recipes
  io      : t.io = s.io
  queued  : ∀ c, c ≠ 2 → c ≠ 3 → t.link.channels.get c = s.link.channels.get c
  status  : ∀ c, (t.baths.get c).status = (s.baths.get c).status
  queue   : s.queue = [] → t.queue = []

/-- The rack r of slot k lifted from station n, from s to t, with the charge of a bath it leaves (02 R39, 04 R75, R77,
06 R116). -/
structure State.LiftedFrom (s t : State) (k n : Nat) (r : Rack) : Prop extends s.TakenOff t k n r where
  dry     : r.inBath = false → t.baths = s.baths
  charged : r.inBath = true → (s.stations.get n).bath < 8 →
    (let b := (s.stations.get n).bath
     (t.baths.get b).owed = ((s.baths.get b).charged r.area).owed ∧
     (t.baths.get b).remainder = ((s.baths.get b).charged r.area).remainder ∧
     (t.baths.get b).pendingF = ((s.baths.get b).charged r.area).pendingF ∧
     ((∃ f ∈ (t.link.channels.get 2).queue, f.msg = .owed b (t.baths.get b).owed) ∨
       (4 ≤ s.link.held 2 ∧ (t.baths.get b).owedUnsent = true)))
  areas   : r.inBath = true → s.queue = [] → ∀ c < 8, (t.baths.get c).areaInFlight = (s.baths.get c).areaInFlight -
    (if c = (s.stations.get n).bath ∧ ¬∃ st ∈ (s.recipes.get r.recipe).steps.drop r.stepIdx,
      st.bath = (s.stations.get n).bath then r.area else 0)

/-- The rack's record, its notice and its station's own part of a lift, before the retries. -/
def State.stepEnded (s : State) (k n : Nat) (r : Rack) : State :=
  (((s.setRack k (some (r.afterLift n))).rackNotice (r.stepEnded n) k (r.afterLift n) none).setOcc n .empty).leaveStation n

theorem State.liftRack_eq {k n : Nat} {r : Rack} (hr : s.racks.get k = some r) : s.liftRack k n =
    if r.inBath = true then
      ((((s.stepEnded k n r).retryBlocked n).chargeBath (s.stations.get n).bath r.area).lowerAfterLift r
        (s.stations.get n).bath).retestHead
    else (s.stepEnded k n r).retryBlocked n := by
  simp only [State.liftRack, hr]
  rfl

section
variable {k n : Nat} {r : Rack}

theorem State.setOcc_form (m o : _) (x : Occupancy) :
    { (s.setOcc n x).stations.get m with occ := o } = { s.stations.get m with occ := o } := by
  show { (s.stations.set n _).get m with occ := o } = _
  rw [Table.get_set]
  split
  · next same => rw [same.1]
  · rfl

theorem State.stepEnded_takenOff (hk : k < 24) : s.TakenOff ((s.stepEnded k n r).retryBlocked n) k n r := by
  have retried := State.Retried.retryBlocked (s.stepEnded k n r) n
  have here : (s.stepEnded k n r).racks.get k = some (r.afterLift n) := Table.get_set_self _ hk _
  have empty : ((s.stepEnded k n r).stations.get n).occ = .empty := by
    have vacant := State.emptyStation_get s (some n) n
    rw [if_pos rfl] at vacant
    show ((s.emptyStation (some n)).stations.get n).occ = .empty
    rw [vacant]
  constructor
  case rack => rw [retried.racks, here]; rfl
  case vacated =>
    intro occ
    have := retried.occupied occ
    rw [empty] at this
    cases this
  case forms => exact fun m o => (retried.station_form m o).trans (State.setOcc_form m o _)
  case marks => rw [retried.marks]; rfl
  case windows => rw [retried.windows]; rfl
  case noticed =>
    have noticed := State.noticed_notify (s.setRack k (some (r.afterLift n)))
      (.rack (r.stepEnded n) r.id k .carried r.stepIdx none)
    exact noticed.mono (by rw [retried.link]; exact .refl _)
  case passes => exact retried.passes
  case hoist => intro g; rw [retried.hoist]; cases g <;> rfl
  case span => rw [retried.span]; rfl
  case line => rw [retried.line]; rfl
  case tick => rw [retried.tick]; rfl
  case gens => rw [State.retryBlocked_gens]; rfl
  case recipes => rw [retried.recipes]; rfl
  case io => rw [State.retryBlocked_io]; rfl
  case queued =>
    intro c _ hc
    rw [retried.link]
    exact s.link.notify_get_ne (Ne.symm hc) _
  case status => intro c; rw [retried.baths]; rfl
  case queue => intro hq; rw [retried.queue]; exact hq

theorem State.lowerAfterLift_area (b : Nat) {c : Nat} (hc : c < 8) :
    ((s.lowerAfterLift r b).baths.get c).areaInFlight = (s.baths.get c).areaInFlight -
      (if c = b ∧ ¬∃ st ∈ (s.recipes.get r.recipe).steps.drop r.stepIdx, st.bath = b then r.area else 0) := by
  have later : (decide (c = b) && !s.usedFrom r.recipe (r.stepIdx + 1) b) = true ↔
      c = b ∧ ¬∃ st ∈ (s.recipes.get r.recipe).steps.drop r.stepIdx, st.bath = b := by
    simp [State.usedFrom]
  unfold State.lowerAfterLift
  rw [State.lowerArea_areaInFlight _ _ hc]
  exact congrArg (_ - ·) (if_congr later rfl rfl)

/-- A bath left is charged, its area in flight falls, and the queue's head is retested (02 R39, R40, 04 R75). -/
theorem State.TakenOff.charged {y : State} (off : s.TakenOff y k n r) (b : Nat) :
    s.TakenOff (((y.chargeBath b r.area).lowerAfterLift r b).retestHead) k n r := by
  have held : ((y.chargeBath b r.area).lowerAfterLift r b).racks.get k ≠ none := by
    have rack : ((y.chargeBath b r.area).lowerAfterLift r b).racks = y.racks := State.chargeBath_racks y b r.area
    intro none
    have := off.rack
    rw [← rack, none] at this
    cases this
  have stations : ((y.chargeBath b r.area).lowerAfterLift r b).stations = y.stations := State.chargeBath_stations y b r.area
  have channel {c : Nat} (hc : c ≠ 2) := y.chargeBath_channel b r.area hc
  constructor
  case rack =>
    rw [(State.retestHead_slot held).1]
    show ((y.chargeBath b r.area).racks.get k).map _ = _
    rw [State.chargeBath_racks]
    exact off.rack
  case vacated => exact fun occ => off.vacated (stations ▸ State.retestHead_occupied held occ)
  case forms =>
    intro m o
    rw [State.retestHead_station_form, stations]
    exact off.forms m o
  case marks => rw [State.retestHead_marks]; exact (State.chargeBath_marks y b r.area).trans off.marks
  case windows => rw [State.retestHead_windows]; exact (State.chargeBath_windows y b r.area).trans off.windows
  case noticed =>
    have kept : y.link.KeepsNotices (y.chargeBath b r.area).link := .of_same (channel (by decide)).1 (channel (by decide : 3 ≠ 2)).2
    exact off.noticed.mono (kept.trans (State.retestHead_keepsNotices ((y.chargeBath b r.area).lowerAfterLift r b)))
  case passes =>
    refine off.passes.trans (Nat.le_trans (Nat.le_of_eq ?_) (State.retestHead_passes _))
    exact congrArg Dispatcher.passesOwed (State.chargeBath_dispatcher y b r.area).symm
  case hoist =>
    intro g
    rw [State.retestHead_hoist, ← off.hoist]
    cases g
    · exact State.chargeBath_hoistA y b r.area
    · exact State.chargeBath_hoistB y b r.area
  case span => rw [State.retestHead_span]; exact (State.chargeBath_span y b r.area).trans off.span
  case line => rw [State.retestHead_line]; exact (State.chargeBath_line y b r.area).trans off.line
  case tick => rw [State.retestHead_tick]; exact (State.chargeBath_tick y b r.area).trans off.tick
  case gens => rw [State.retestHead_gens]; exact (State.chargeBath_gens y b r.area).trans off.gens
  case recipes => rw [State.retestHead_recipes]; exact (State.chargeBath_recipes y b r.area).trans off.recipes
  case io => rw [State.retestHead_io]; exact (State.chargeBath_io y b r.area).trans off.io
  case queued =>
    intro c hc hc'
    rw [State.retestHead_channel _ hc']
    exact (channel hc).1.trans (off.queued c hc hc')
  case status =>
    intro c
    rw [State.retestHead_bath Bath.status (fun _ _ => rfl)]
    exact (State.lowerArea_form Bath.status (fun _ _ => rfl) _ _ c).trans
      ((State.chargeBath_form Bath.status (fun _ _ _ _ _ => rfl) b r.area c).trans (off.status c))
  case queue =>
    intro hq
    have none : ((y.chargeBath b r.area).lowerAfterLift r b).queue = [] :=
      (State.chargeBath_queue y b r.area).trans (off.queue hq)
    rw [State.retestHead_nil none]
    exact none

/-- Step 2 to 5 of a lift (06 R116). -/
theorem State.liftRack_lifted (hr : s.racks.get k = some r) : s.LiftedFrom (s.liftRack k n) k n r := by
  have off := State.stepEnded_takenOff (s := s) (r := r) (n := n) (Table.lt_of_get_some hr)
  have retried := State.Retried.retryBlocked (s.stepEnded k n r) n
  have baths : ((s.stepEnded k n r).retryBlocked n).baths = s.baths := retried.baths
  have held : ((s.stepEnded k n r).retryBlocked n).link.held 2 = s.link.held 2 := by
    unfold Link.held
    rw [retried.link]
    exact congrArg (fun x : Channel => x.queue.length) (s.link.notify_get_ne (by decide) _)
  have recipes := off.recipes
  have queue := off.queue
  rw [State.liftRack_eq hr]
  generalize (s.stepEnded k n r).retryBlocked n = y at *
  cases wet : r.inBath with
  | false => exact ⟨by rw [if_neg (by decide)]; exact off, fun _ => baths, fun c => absurd (wet.symm.trans c) (by decide),
    fun c => absurd (wet.symm.trans c) (by decide)⟩
  | true =>
    rw [if_pos (rfl : true = true)]
    refine ⟨off.charged _, fun c => absurd (wet.symm.trans c) (by decide), fun _ hb => ?_, fun _ hq c hc => ?_⟩
    · have part {β : Type} (f : Bath → β) (h1 : ∀ x a, f { x with areaInFlight := a } = f x)
          (h2 : ∀ x m, f { x with owedUnsent := m } = f x) :
          f (((((y.chargeBath (s.stations.get n).bath r.area).lowerAfterLift r (s.stations.get n).bath).retestHead).baths.get
            (s.stations.get n).bath)) = f ((s.baths.get (s.stations.get n).bath).charged r.area) := by
        rw [State.retestHead_bath f h1]
        refine (State.lowerArea_form f h1 _ _ _).trans ?_
        rw [State.chargeBath_bath f h2 hb, baths]
      have owed := part Bath.owed (fun _ _ => rfl) (fun _ _ => rfl)
      refine ⟨owed, part Bath.remainder (fun _ _ => rfl) (fun _ _ => rfl),
        part Bath.pendingF (fun _ _ => rfl) (fun _ _ => rfl), ?_⟩
      rw [owed]
      have sent := y.chargeBath_owed hb r.area
      rw [baths, held] at sent
      rw [State.retestHead_channel _ (by decide), State.retestHead_bath Bath.owedUnsent (fun _ _ => rfl)]
      refine sent.imp id fun ⟨full, marked⟩ => ⟨full, ?_⟩
      exact (State.lowerArea_form Bath.owedUnsent (fun _ _ => rfl) _ _ _).trans marked
    · have none : ((y.chargeBath (s.stations.get n).bath r.area).lowerAfterLift r (s.stations.get n).bath).queue = [] :=
        (State.chargeBath_queue y _ r.area).trans (queue hq)
      rw [State.retestHead_nil none, State.lowerAfterLift_area _ hc,
        State.chargeBath_form Bath.areaInFlight (fun _ _ _ _ _ => rfl), State.chargeBath_recipes, recipes, baths]

end

/-! ### LIFTED taken (06 R116, R117) -/

/-- The rack as a lift finds it, with EARLY_LIFT where no LIFT was sent (06 R117). -/
def Rack.beforeLift (r : Rack) (early : Bool) : Rack :=
  if early then { r with flags := StepFlag.earlyLift.addTo r.flags } else r

/-- The order in phase LIFTED with its timer, and EARLY_LIFT where no LIFT was sent, before the rack is taken. -/
def State.liftBegun (s : State) (h : Hoist) (o : Order) (early : Bool) : State :=
  let s1 := (s.setHoist h { s.hoist h with order := some o.afterLift }).setTimer h ((s.hoist h).liftedTime o)
  if early then s1.addFlag o.slot .earlyLift else s1

section
variable {h : Hoist} {o : Order} {r : Rack} {early : Bool}

theorem State.doLift_eq (ho : (s.hoist h).order = some o) :
    s.doLift h early = (s.liftBegun h o early).liftRack o.slot o.source := by
  simp only [State.doLift, ho, State.liftBegun]

/-- The hoist's record once LIFTED is taken (06 R113, R116). -/
def State.lifting (s : State) (h : Hoist) (o : Order) : HoistRec :=
  { s.hoist h with
    order := some o.afterLift
    timer := some ((s.hoist h).liftedTime o)
    suspended := decide (s.line.st = .halt) }

/-- What the order's part of LIFTED makes of s (06 R116, R117). -/
structure State.LiftOpens (s t : State) (h : Hoist) (o : Order) (r : Rack) (early : Bool) : Prop where
  rack  : t.racks.get o.slot = some (r.beforeLift early)
  hoist : t.hoist h = s.lifting h o
  other : t.hoist h.other = s.hoist h.other
  rest  : t = { s with racks := t.racks, hoistA := t.hoistA, hoistB := t.hoistB }

theorem State.liftBegun_opens (hr : s.racks.get o.slot = some r) : s.LiftOpens (s.liftBegun h o early) h o r early := by
  have flagged (v : State) (hv : v.racks.get o.slot = some r) :
      (if early = true then v.addFlag o.slot .earlyLift else v) = { v with
        racks := if early = true then v.racks.set o.slot (some (r.beforeLift early)) else v.racks } := by
    cases early
    · rfl
    · simp only [State.addFlag, hv, if_true]; rfl
  have held : ((s.setHoist h { s.hoist h with order := some o.afterLift }).setTimer h ((s.hoist h).liftedTime o)).racks =
      s.racks := by cases h <;> rfl
  unfold State.liftBegun
  dsimp only
  rw [flagged _ (by rw [held]; exact hr), held]
  constructor
  case rack =>
    show (if early = true then _ else s.racks).get o.slot = _
    cases early
    · exact hr
    · exact Table.get_set_self _ (Table.lt_of_get_some hr) _
  case hoist => cases h <;> rfl
  case other => cases h <;> rfl
  case rest => cases h <;> rfl

theorem State.doLift_lifted (ho : (s.hoist h).order = some o) (hr : s.racks.get o.slot = some r) :
    ∃ v, s.LiftOpens v h o r early ∧ v.LiftedFrom (s.doLift h early) o.slot o.source (r.beforeLift early) := by
  have opens : s.LiftOpens (s.liftBegun h o early) h o r early := State.liftBegun_opens hr
  rw [State.doLift_eq ho]
  exact ⟨_, opens, State.liftRack_lifted opens.rack⟩

end

/-! ### A position recorded (06 R111, 07 R134) -/

/-- A cause changes nothing of a hoist but its suspension (09 R160, R167). -/
theorem State.addCause_hoist {β : Type} (part : HoistRec → β) (h : ∀ x b, part { x with suspended := b } = part x)
    (c : Cause) (g : Hoist) : part ((s.addCause c).hoist g) = part (s.hoist g) := by
  have moved (v : State) : part ((v.moveFor c).hoist g) = part (v.hoist g) := by
    unfold State.moveFor
    split
    · cases g <;> rfl
    · cases g <;> exact h _ _
    · cases g <;> exact h _ _
    · rfl
  unfold State.addCause
  split
  · rfl
  · refine (Eq.trans ?_ (moved { s with line := { s.line with causes := c.addTo s.line.causes } })).trans ?_ <;>
      cases g <;> rfl

/-- A cause queues nothing to the cabinet (09 R167, R170). -/
theorem State.addCause_cabinet (c : Cause) :
    (s.addCause c).link.channels.get 2 = s.link.channels.get 2 := by
  have sent (l : Link) (d : Nat) (hd : d ≠ 2) (m : OutMsg) : (l.send d m).channels.get 2 = l.channels.get 2 :=
    l.send_get_ne hd m
  have moved (v : State) : (v.moveFor c).link.channels.get 2 = v.link.channels.get 2 := by
    unfold State.moveFor
    split
    · rfl
    · exact (sent _ 1 (by decide) _).trans (sent _ 0 (by decide) _)
    · exact (sent _ 1 (by decide) _).trans (sent _ 0 (by decide) _)
    · rfl
  unfold State.addCause
  split
  · rfl
  · exact ((State.moveFor _ c).link.notify_get_ne (by decide) _).trans (moved _)

/-- A position recorded writes the hoist's position, and where it is off the span the line's record, the handover's and
the hoists' suspensions and the link (06 R111, 07 R134). -/
structure State.PositionTaken (s t : State) (h : Hoist) (p : Int) : Prop where
  position : (t.hoist h).position = some p
  st       : (t.hoist h).st = (s.hoist h).st
  order    : ∀ g, (t.hoist g).order = (s.hoist g).order
  timing   : ∀ g, (t.hoist g).timing = (s.hoist g).timing
  cabinet  : t.link.channels.get 2 = s.link.channels.get 2

theorem State.recordPosition_taken (s : State) (h : Hoist) (p : Int) :
    s.PositionTaken (s.recordPosition h p) h p := by
  have noted {β : Type} (part : HoistRec → β) (hp : ∀ x b, part { x with suspended := b } = part x) (g : Hoist) :
      part ((s.recordPosition h p).hoist g) = part ((s.notePosition h (some p)).hoist g) := by
    unfold State.recordPosition State.checkPosition
    dsimp only
    split
    · rfl
    · exact State.addCause_hoist part hp _ g
  constructor
  case position => exact (noted HoistRec.position (fun _ _ => rfl) h).trans (by cases h <;> rfl)
  case st => exact (noted HoistRec.st (fun _ _ => rfl) h).trans (by cases h <;> rfl)
  case order => exact fun g => (noted HoistRec.order (fun _ _ => rfl) g).trans (by cases h <;> cases g <;> rfl)
  case timing => exact fun g => (noted HoistRec.timing (fun _ _ => rfl) g).trans (by cases h <;> cases g <;> rfl)
  case cabinet =>
    unfold State.recordPosition State.checkPosition
    dsimp only
    have same : (s.notePosition h (some p)).link = s.link := by cases h <;> rfl
    split
    · rw [same]
    · rw [State.addCause_cabinet, same]

end Sys2Proof.Machine
end
section
/-! PROOFS. LIFTED of the open order (02 R26, R39, 04 R75, R77, 06 R116, R117, R122). -/

namespace Sys2Proof.Machine

variable {s t u w : State}

section
variable {h : Hoist} {o : Order} {p : Int} {r : Rack}

/-- A report that names the open order at a position on the rail acts on it (06 R111). -/
theorem State.orderReport_named (ho : (s.hoist h).order = some o) (hp : -1 ≤ p) (hp' : p ≤ 32)
    (act : Order → Int → State) : s.orderReport h o.number (some p) act = act o p := by
  have read : readPosition (some p) = some p := if_pos ⟨hp, hp'⟩
  have named : s.namedOrder h o.number = some o := by simp only [State.namedOrder, ho, if_true]
  simp only [State.orderReport, read, named]

/-- LIFTED before LIFTED lifts the rack, early where no LIFT was sent (06 R116, R117). -/
theorem takeLifted_eq (ho : (s.hoist h).order = some o) (hp : -1 ≤ p) (hp' : p ≤ 32) (phase : o.phase ≠ .lifted) :
    takeLifted h o.number (some p) s = (s.recordPosition h p).doLift h (decide (o.phase ≠ .released)) := by
  rw [takeLifted, State.orderReport_named ho hp hp']
  cases e : o.phase <;> first | exact absurd e phase | rfl

theorem Rack.beforeLift_flags (r : Rack) (early : Bool) :
    (r.beforeLift early).flags = if early = true then StepFlag.earlyLift.addTo r.flags else r.flags := by
  cases early <;> rfl

theorem Rack.beforeLift_rest (r : Rack) (early : Bool) :
    r.beforeLift early = { r with flags := (r.beforeLift early).flags } := by cases early <;> rfl

theorem Rack.inBath_iff (r : Rack) : r.inBath = true ↔ r.st = .immersed ∨ r.st = .due := by simp [Rack.inBath]

end

/-- The rack as a lift finds it is the rack with the flags of R117. -/
theorem Rack.beforeLift_eq (r : Rack) {c : Prop} [Decidable c] :
    r.beforeLift (decide c) = { r with flags := if c then StepFlag.earlyLift.addTo r.flags else r.flags } := by
  by_cases h : c <;> simp [Rack.beforeLift, h]

/-- What the recording of a position and a hoist's order leave alone, from s to t. -/
structure State.Unmoved (s t : State) : Prop where
  stations   : t.stations = s.stations
  baths      : t.baths = s.baths
  recipes    : t.recipes = s.recipes
  queue      : t.queue = s.queue
  marks      : t.marks = s.marks
  windows    : t.windows = s.windows
  tick       : t.tick = s.tick
  gens       : t.gens = s.gens
  io         : t.io = s.io
  dispatcher : t.dispatcher = s.dispatcher
  cabinet    : t.link.held 2 = s.link.held 2

theorem State.recordPosition_unmoved (s : State) (h : Hoist) (p : Int) : s.Unmoved (s.recordPosition h p) where
  stations := State.recordPosition_stations s h p
  baths := State.recordPosition_baths s h p
  recipes := State.recordPosition_recipes s h p
  queue := State.recordPosition_queue s h p
  marks := State.recordPosition_marks s h p
  windows := State.recordPosition_windows s h p
  tick := State.recordPosition_tick s h p
  gens := State.recordPosition_gens s h p
  io := State.recordPosition_io s h p
  dispatcher := State.recordPosition_dispatcher s h p
  cabinet := congrArg (fun x : Channel => x.queue.length) (s.recordPosition_taken h p).cabinet

theorem State.Unmoved.liftOpens {h : Hoist} {o : Order} {r : Rack} {early : Bool} (k : s.Unmoved t)
    (opens : t.LiftOpens u h o r early) : s.Unmoved u := by
  obtain ⟨stations, baths, recipes, queue, marks, windows, tick, gens, io, dispatcher, cabinet⟩ := k
  rw [opens.rest]
  exact ⟨stations, baths, recipes, queue, marks, windows, tick, gens, io, dispatcher, cabinet⟩

/-- LIFTED of the open order: after its position the order's part, then the rack's (06 R116, R117). -/
theorem doLift_recorded {h : Hoist} {o : Order} {p : Int} {r : Rack} (ho : (s.hoist h).order = some o)
    (hr : s.racks.get o.slot = some r) :
    ∃ v, (s.recordPosition h p).LiftOpens v h o r (decide (o.phase ≠ .released)) ∧
      v.LiftedFrom ((s.recordPosition h p).doLift h (decide (o.phase ≠ .released))) o.slot o.source
        { r with flags := if o.phase ≠ .released then StepFlag.earlyLift.addTo r.flags else r.flags } := by
  have orderU : ((s.recordPosition h p).hoist h).order = some o := ((s.recordPosition_taken h p).order h).trans ho
  have rackU : (s.recordPosition h p).racks.get o.slot = some r := by rw [State.recordPosition_racks]; exact hr
  rw [← Rack.beforeLift_eq]
  exact State.doLift_lifted orderU rackU

/-- Settles O44: the position, then the order's part of LIFTED, then the rack, its station and its bath. -/
theorem liftedTakesTheRack : Obligations.LiftedTakesTheRack := by
  intro s h o p r hs ho phase hp hp' hk hn hr
  dsimp only
  have pos := s.recordPosition_taken h p
  obtain ⟨v, opens, lifted⟩ := doLift_recorded (p := p) ho hr
  obtain ⟨stations, baths, recipes, queue, -, -, tick, gens, io, -, held⟩ := (s.recordPosition_unmoved h p).liftOpens opens
  obtain ⟨t, run, kept, link⟩ := liveDriven_ends hs (takeLifted h o.number (some p))
  rw [takeLifted_eq ho hp hp' phase] at kept link
  generalize (s.recordPosition h p).doLift h (decide (o.phase ≠ .released)) = w at *
  have hoist : t.hoist h = (s.recordPosition h p).lifting h o :=
    ((kept.hoist h).trans (lifted.hoist h)).trans opens.hoist
  obtain ⟨r', hr', e⟩ := Option.map_eq_some_iff.mp lifted.rack
  obtain ⟨d, rfl⟩ := Rack.directed_of_undirected e
  rw [← kept.racks] at hr'
  have wet : Rack.inBath { r with flags := if o.phase ≠ .released then StepFlag.earlyLift.addTo r.flags else r.flags } =
    r.inBath := rfl
  refine ⟨t, run, ?st, ?position, ?order, ?timer, ⟨_, hr', rfl, rfl, rfl, rfl, rfl, rfl, rfl,
    rfl, rfl, fun dry => ?dryHistory, fun inBath => ?history⟩, ?vacated, ?mark, ?window, fun inBath hb => ?charge,
    fun dry => ?dry, ?noticed, fun inBath hb => ?owed, fun inBath none c hc => ?areas, kept.tick.trans (lifted.tick.trans tick),
    kept.gens.trans (lifted.gens.trans gens), kept.recipes.trans (lifted.recipes.trans recipes),
    kept.inputs.trans (congrArg StationIo.inputs (lifted.io.trans io))⟩
  case st => rw [hoist]; exact pos.st
  case position => rw [hoist]; exact pos.position
  case order => rw [hoist]; rfl
  case timer =>
    rw [hoist]
    show some (HoistRec.liftedTime _ o) = _
    rw [HoistRec.liftedTime, HoistRec.travel, pos.timing h]
  case dryHistory =>
    show (if r.inBath = true then _ else r.history) = r.history
    exact if_neg (fun c => dry (r.inBath_iff.mp c))
  case history =>
    show (if r.inBath = true then _ else r.history) = _
    exact if_pos (r.inBath_iff.mpr inBath)
  case vacated => rw [kept.stations]; exact lifted.vacated
  case mark => rw [kept.marks, lifted.marks]; exact Table.get_set_self _ hn _
  case window => rw [kept.windows, lifted.windows]; exact Table.get_set_self _ hn _
  case charge =>
    have charged := lifted.charged (wet.trans (r.inBath_iff.mpr inBath)) (by rw [stations]; exact hb)
    rw [stations, baths] at charged
    obtain ⟨owed, remainder, pending, -⟩ := charged
    rw [kept.baths]
    refine ⟨owed.trans (Bath.charged_owed _ _), remainder, ?_⟩
    rw [pending, owed]
    rfl
  case dry =>
    rw [kept.baths, lifted.dry (wet.trans (Bool.eq_false_iff.mpr fun c => dry (r.inBath_iff.mp c)))]
    exact baths
  case noticed => exact lifted.noticed.mono (by rw [link]; exact .refl _)
  case owed =>
    have charged := lifted.charged (wet.trans (r.inBath_iff.mpr inBath)) (by rw [stations]; exact hb)
    rw [stations, held] at charged
    obtain ⟨-, -, -, sent⟩ := charged
    rw [kept.baths, link]
    exact sent
  case areas =>
    have areas := lifted.areas (wet.trans (r.inBath_iff.mpr inBath)) (queue.trans none) c hc
    rw [stations, baths, recipes] at areas
    rw [kept.baths]
    exact areas

end Sys2Proof.Machine
end
section
/-! PROOFS. PLACED: the order ends, and the rack begins its step or has reached its unload visit (02 R26, R34, 03 R66,
06 R108, R118, R119, 07 R138, R139, 08 R152, 10 R177). -/

namespace Sys2Proof.Machine

variable {s t u v w : State}

/-! ### An order that ends with its request (05 R102, 06 R108, R118, 07 R138) -/

/-- The order of hoist h and the request of slot k end, from s to t, the spans under the proviso c (05 R102, 06 R108,
07 R138, R139). -/
structure State.OrderEnded (s t : State) (h : Hoist) (k : Nat) (c : Prop) : Prop where
  hoist   : t.hoist h = (s.hoist h).idled
  request : t.requests.get k = none
  closed  : c → s.OrderClosed t h (s.boundWithout k)
  sends   : s.WaitsFor h → s.link.held h.channel < 4 →
    t.queued h.channel = s.queued h.channel ++ [s.span.handover.narrowed.message (t.seqOf h)]
  silent  : ¬s.WaitsFor h ∨ 4 ≤ s.link.held h.channel → t.queued h.channel = s.queued h.channel
  pass    : s.dispatcher.passesOwed < t.dispatcher.passesOwed

/-- The order of hoist h closed and the request of slot k taken out of the move queue (06 R118). -/
def State.orderDone (s : State) (h : Hoist) (k : Nat) : State := (s.becomeIdle h).removeRequest k

section
variable {h : Hoist} {k : Nat} {c : Prop}

theorem State.orderDone_hoist (g : Hoist) :
    (s.orderDone h k).hoist g = if g = h then (s.hoist h).idled else s.hoist g := by
  rw [← State.becomeIdle_hoist]
  cases g
  · exact State.removeRequest_hoistA (s.becomeIdle h) k
  · exact State.removeRequest_hoistB (s.becomeIdle h) k

theorem State.orderDone_ended (hk : k < 24) : s.OrderEnded (s.orderDone h k) h k c := by
  have closed := s.becomeIdle_orderClosed h
  have span := (s.becomeIdle h).removeRequest_span_eq k
  have bound : (s.becomeIdle h).boundWithout k = s.boundWithout k := by
    unfold State.boundWithout
    rw [closed.bound]
  have queued (d : Nat) : (s.orderDone h k).queued d = (s.becomeIdle h).queued d := by
    unfold State.queued State.orderDone
    rw [State.removeRequest_link]
  have seq : (s.orderDone h k).seqOf h = (s.becomeIdle h).seqOf h := by
    cases h <;> simp only [State.seqOf, State.orderDone, span]
  obtain ⟨stays, waits⟩ := s.becomeIdle_queued h h.channel
  constructor
  case hoist => rw [State.orderDone_hoist, if_pos rfl]
  case request =>
    show ((s.becomeIdle h).removeRequest k).requests.get k = none
    rw [State.removeRequest_requests_eq]
    exact Table.get_set_self _ hk _
  case closed => exact fun _ => closed.rebound (by rw [← bound]; exact span)
  case sends =>
    intro w room
    rw [queued, seq, waits w, if_pos ⟨rfl, room⟩, (closed.1 w).sequence]
    rfl
  case silent =>
    intro quiet
    rw [queued]
    by_cases w : s.WaitsFor h
    · obtain n | full := quiet
      · exact absurd w n
      · rw [waits w, if_neg (fun c => by omega), List.append_nil]
    · exact stays w
  case pass =>
    show _ < ((s.becomeIdle h).removeRequest k).dispatcher.passesOwed
    rw [State.removeRequest_dispatcher, State.becomeIdle_passes]
    exact Nat.lt_succ_self _

theorem State.orderDone_keepsNotices : s.link.KeepsNotices (s.orderDone h k).link := by
  unfold State.orderDone
  rw [State.removeRequest_link]
  exact State.becomeIdle_keepsNotices s h

/-- What follows the end of an order leaves hoists, spans and hoist messages alone. -/
theorem State.OrderEnded.of_later (e : s.OrderEnded t h k c) (hoist : u.hoist h = t.hoist h)
    (request : u.requests.get k = none) (span : u.span = t.span) (queued : u.queued h.channel = t.queued h.channel)
    (pass : t.dispatcher.passesOwed ≤ u.dispatcher.passesOwed) : s.OrderEnded u h k c := by
  have seq : u.seqOf h = t.seqOf h := by cases h <;> simp only [State.seqOf, span]
  refine ⟨hoist.trans e.hoist, request, fun hc => ?_, fun w room => ?_, fun quiet => queued.trans (e.silent quiet),
    e.pass.trans_le pass⟩
  · exact (e.closed hc).rebound (by rw [span, ← (e.closed hc).bound])
  · rw [queued, seq]; exact e.sends w room

end

theorem State.OrderEnded.under {h : Hoist} {k : Nat} {c d : Prop} (hc : d → c) (e : s.OrderEnded t h k c) :
    s.OrderEnded t h k d :=
  ⟨e.hoist, e.request, fun hd => e.closed (hc hd), e.sends, e.silent, e.pass⟩

/-! ### The rack set down (06 R118, 08 R152, 10 R177) -/

section
variable {h : Hoist} {o : Order} {r : Rack}

/-- The rack r of the order o stands at its destination in its next step, its order done, before what its arrival
brings (06 R118). -/
def State.arrived (s : State) (h : Hoist) (o : Order) (r : Rack) (bath : Bool) : State :=
  ((s.orderDone h o.slot).setOcc o.dest (.occupied o.slot)).setRack o.slot
    (some (r.begin o.dest bath (s.targetOf r (r.stepIdx + 1))))

/-- A seat window opens where the station has seat sensing (10 R177). -/
def State.windowFor (s : State) (n : Nat) (sensing : Bool) : State := if sensing then s.openWindow n else s

theorem State.orderDone_stations (s : State) (h : Hoist) (k : Nat) : (s.orderDone h k).stations = s.stations := by
  simp [State.orderDone]

theorem State.doPlace_eq (ho : (s.hoist h).order = some o) (hr : s.racks.get o.slot = some r) {bath : Bool}
    (kind : decide ((s.stations.get o.dest).kind = .bath) = bath) : s.doPlace h =
    (if bath = true then (s.arrived h o r bath).beginImmersion r.recipe (r.stepIdx + 1) o.dest
      else (s.arrived h o r bath).arriveUnload o.slot (r.begin o.dest bath (s.targetOf r (r.stepIdx + 1))) o.dest
      ).windowFor o.dest (s.stations.get o.dest).sensing := by
  have rack : ((s.becomeIdle h).removeRequest o.slot).racks.get o.slot = some r := by simpa using hr
  have stations : ((s.becomeIdle h).removeRequest o.slot).stations = s.stations := s.orderDone_stations h o.slot
  have target : ((s.becomeIdle h).removeRequest o.slot).targetOf r (r.stepIdx + 1) = s.targetOf r (r.stepIdx + 1) := by
    simp only [State.targetOf, State.recipeStep, State.removeRequest_recipes, State.becomeIdle_recipes]
  simp only [State.doPlace, ho, rack, stations, kind, target]
  rfl

/-- A seat window opens where the station has seat sensing, open where its input is released (10 R177). -/
theorem State.windowFor_rest (s : State) (n : Nat) (sensing : Bool) :
    s.windowFor n sensing = { s with windows := (s.windowFor n sensing).windows } := by
  unfold State.windowFor State.openWindow
  (repeat' split) <;> rfl

theorem State.windowFor_window {n : Nat} (hn : n < 32) :
    (s.windowFor n true).windows.get n = if s.level n = true then none else some 20 := by
  show (State.openWindow s n).windows.get n = _
  unfold State.openWindow
  split <;> exact Table.get_set_self _ hn _

/-- What PLACED makes of a rack r at a bath station, from s to t (03 R66, 06 R118, 08 R152, 10 R177). -/
structure State.PlacedInBath (s t : State) (h : Hoist) (o : Order) (r : Rack) (st : RecipeStep) : Prop where
  ended   : s.OrderEnded t h o.slot True
  notices : s.link.KeepsNotices t.link
  seat    : (t.stations.get o.dest).occ = .occupied o.slot
  others  : ∀ m, m ≠ o.dest → t.stations.get m = s.stations.get m
  rack    : t.racks.get o.slot = some (r.begin o.dest true (st.target r.adjust))
  baths   : t.baths = s.baths
  mark    : t.marks.get o.dest = if st.agitate = true then .waiting else s.marks.get o.dest
  window  : (s.stations.get o.dest).sensing = true →
    t.windows.get o.dest = if s.level o.dest = true then none else some 20
  stale   : st.comp ≠ .none → (s.baths.get (s.stations.get o.dest).bath).status = .lapsed → .tempStale ∈ t.line.causes
  tick    : t.tick = s.tick
  gens    : t.gens = s.gens

theorem State.arrived_station (hn : o.dest < 32) (bath : Bool) :
    (s.arrived h o r bath).stations.get o.dest = { s.stations.get o.dest with occ := .occupied o.slot } := by
  show (State.setOcc (s.orderDone h o.slot) o.dest _).stations.get o.dest = _
  rw [State.setOcc_get _ hn, State.orderDone_stations]

theorem State.arrived_others {m : Nat} (hm : m ≠ o.dest) (bath : Bool) :
    (s.arrived h o r bath).stations.get m = s.stations.get m := by
  show ((s.orderDone h o.slot).stations.set o.dest _).get m = _
  rw [Table.get_set_ne _ (Ne.symm hm), State.orderDone_stations]

theorem State.arrived_ended (hk : o.slot < 24) (bath : Bool) {c : Prop} :
    s.OrderEnded (s.arrived h o r bath) h o.slot c := by
  have done : s.OrderEnded (s.orderDone h o.slot) h o.slot c := State.orderDone_ended hk
  refine done.of_later ?_ done.request rfl rfl (Nat.le_refl _)
  cases h <;> rfl

theorem State.doPlace_placedInBath {st : RecipeStep} (ho : (s.hoist h).order = some o) (hk : o.slot < 24)
    (hn : o.dest < 32) (kind : (s.stations.get o.dest).kind = .bath) (hr : s.racks.get o.slot = some r)
    (step : s.recipeStep r.recipe (r.stepIdx + 1) = some st) : s.PlacedInBath (s.doPlace h) h o r st := by
  rw [State.doPlace_eq ho hr (decide_eq_true kind), if_pos (rfl : true = true)]
  have ended : s.OrderEnded (s.arrived h o r true) h o.slot True := State.arrived_ended hk true
  have notices : s.link.KeepsNotices (s.arrived h o r true).link := State.orderDone_keepsNotices
  have station := State.arrived_station (s := s) (h := h) (r := r) hn true
  have others (m : Nat) (hm : m ≠ o.dest) := State.arrived_others (s := s) (h := h) (r := r) hm true
  have target : s.targetOf r (r.stepIdx + 1) = st.target r.adjust := by simp only [State.targetOf, step]
  have rack : (s.arrived h o r true).racks.get o.slot = some (r.begin o.dest true (st.target r.adjust)) :=
    (Table.get_set_self _ hk _).trans (by rw [target])
  have stepA : (s.arrived h o r true).recipeStep r.recipe (r.stepIdx + 1) = some st := by
    have : (s.arrived h o r true).recipes = s.recipes := by simp [State.arrived, State.orderDone]
    unfold State.recipeStep at step ⊢
    rw [this]
    exact step
  have baths : (s.arrived h o r true).baths = s.baths := by simp [State.arrived, State.orderDone]
  have marks : (s.arrived h o r true).marks = s.marks := by simp [State.arrived, State.orderDone]
  have tick : (s.arrived h o r true).tick = s.tick := by simp [State.arrived, State.orderDone]
  have gens : (s.arrived h o r true).gens = s.gens := by simp [State.arrived, State.orderDone]
  have io : (s.arrived h o r true).io = s.io := by simp [State.arrived, State.orderDone]
  generalize s.arrived h o r true = y at *
  have begun := y.beginImmersion_begun r.recipe (r.stepIdx + 1) o.dest
  generalize y.beginImmersion r.recipe (r.stepIdx + 1) o.dest = z at *
  have rest := begun.rest
  have later := z.windowFor_rest o.dest (s.stations.get o.dest).sensing
  have window := State.windowFor_window (s := z) hn
  have level : z.level o.dest = s.level o.dest := by unfold State.level; rw [rest]; exact congrArg (fun x : StationIo => (x.inputs.get o.dest).level) io
  have hc : h.channel ≠ 3 := by cases h <;> decide
  constructor
  case ended =>
    refine ended.of_later ?_ ?_ ?_ ?_ ?_
    · rw [later, rest]; cases h <;> rfl
    · rw [later, rest]; exact ended.request
    · rw [later, rest]
    · rw [← begun.queued _ hc, later]; rfl
    · rw [later, rest]
  case notices => rw [later]; exact notices.trans begun.notices
  case seat => rw [later, rest]; exact congrArg Station.occ station
  case others => intro m hm; rw [later, rest]; exact others m hm
  case rack => rw [later, rest]; exact rack
  case baths => rw [later, rest]; exact baths
  case mark =>
    rw [later]
    show z.marks.get o.dest = _
    rw [begun.marks, stepA, marks]
    by_cases agitates : st.agitate = true
    · rw [if_pos (by simp [agitates]), if_pos agitates]
      exact Table.get_set_self _ hn _
    · rw [if_neg (by simp [agitates]), if_neg agitates]
  case window =>
    intro on
    rw [on, window, level]
  case stale =>
    intro comp lapsed
    rw [later]
    show _ ∈ z.line.causes
    rw [begun.line, if_pos]
    · exact State.mem_addCause rfl
    · rw [stepA, station, baths]
      exact ⟨by simpa using comp, lapsed⟩
  case tick => rw [later, rest]; exact tick
  case gens => rw [later, rest]; exact gens

/-! ### The rack at its unload visit (02 R27, R34, 06 R118) -/

/-- What PLACED makes of a rack r at an UNLOAD station, from s to t, while no ADMIT waits (02 R27, R34, 06 R118, 10
R177). -/
structure State.PlacedInUnload (s t : State) (h : Hoist) (o : Order) (r : Rack) : Prop where
  ended   : s.OrderEnded t h o.slot
    ((s.stations.get o.dest).sensing = true ∨ ∀ y ∈ (s.hoist h.other).order, y.slot ≠ o.slot)
  notices : s.link.KeepsNotices t.link
  told    : t.Told (.done (!(s.stations.get o.dest).sensing)) o.slot
    { r with st := .atUnload, stepIdx := r.stepIdx + 1 }
  vacated : ∀ m, m ≠ o.dest → (s.stations.get m).occ ≠ .occupied o.slot → (t.stations.get m).occ ≠ .occupied o.slot
  stays   : (s.stations.get o.dest).sensing = true → (t.stations.get o.dest).occ = .occupied o.slot ∧
    t.racks.get o.slot = some (r.begin o.dest false 0) ∧ t.recipes = s.recipes ∧
    t.windows.get o.dest = if s.level o.dest = true then none else some 20
  freed   : (s.stations.get o.dest).sensing = false → t.racks.get o.slot = none ∧
    (t.stations.get o.dest).occ ≠ .occupied o.slot ∧
    (t.recipes.get r.recipe).refs = (s.recipes.get r.recipe).refs - 1
  baths   : ∀ c, (t.baths.get c).owed = (s.baths.get c).owed ∧ (t.baths.get c).remainder = (s.baths.get c).remainder
  tick    : t.tick = s.tick
  gens    : t.gens = s.gens

theorem State.freeRack_passes {k : Nat} {x : Rack} (hx : s.racks.get k = some x) (ev : Option RackEvent) :
    s.dispatcher.passesOwed ≤ (s.freeRack k ev).dispatcher.passesOwed := by
  have cancelled : s.dispatcher.passesOwed ≤ (s.dropRack k x ev).dispatcher.passesOwed := by
    rw [State.dropRack_dispatcher, State.removeRequest_dispatcher]
    unfold State.cancelOnFreeing
    split
    · rw [State.becomeIdle_passes]; exact Nat.le_succ _
    · exact Nat.le_refl _
  have retried := (State.Retried.retryIf (s.dropRack k x ev) x.station).trans (.retryIf _ x.dest)
  rw [State.freeRack_eq hx]
  exact (cancelled.trans retried.passes).trans (State.retestHead_passes _)

/-- The other hoist's closing leaves this hoist's sequence alone. -/
theorem State.OrderClosed.seqOf_other {g : Hoist} {b : Option Nat} (closed : s.OrderClosed t g b) :
    t.seqOf g.other = s.seqOf g.other := by
  by_cases w : s.WaitsFor g
  · exact (closed.1 w).taker.2
  · have span := closed.2 w
    cases g <;> simp only [State.seqOf, span, Hoist.other]

theorem State.boundWithout_again {k : Nat} (h : t.span.handover.bound = s.boundWithout k) :
    t.boundWithout k = s.boundWithout k := by
  unfold State.boundWithout at h ⊢
  rw [h]
  by_cases b : s.span.handover.bound = some k <;> simp [b]

/-- The freeing of a rack whose order at hoist h is done leaves what the order's end has made of h, its spans too
unless the other hoist has an order for the slot. -/
theorem State.OrderEnded.freed {k : Nat} {x : Rack} {c : Prop} (e : s.OrderEnded t h k True)
    (hx : t.racks.get k = some x) (alone : c → ∀ y ∈ (t.hoist h.other).order, y.slot ≠ k) (ev : Option RackEvent)
    (request : (t.freeRack k ev).requests.get k = none) : s.OrderEnded (t.freeRack k ev) h k c := by
  have freed := State.freeRack_orderFreed hx ev
  have passes := State.freeRack_passes hx ev
  have closed := e.closed trivial
  have again := State.boundWithout_again closed.bound
  generalize t.freeRack k ev = u at *
  obtain ⟨closes, stays⟩ := freed
  cases order : t.orderFor k with
  | none =>
    obtain ⟨a, b, qa, qb, span⟩ := stays order
    have hoist : u.hoist h = t.hoist h := by cases h; exacts [a, b]
    have queued : u.queued h.channel = t.queued h.channel := by cases h; exacts [qa, qb]
    have seq : u.seqOf h = t.seqOf h := by cases h <;> simp only [State.seqOf, span]
    refine ⟨hoist.trans e.hoist, request, fun _ => closed.rebound (again ▸ span), fun w room => ?_,
      fun quiet => queued.trans (e.silent quiet), e.pass.trans_le passes⟩
    rw [queued, seq]
    exact e.sends w room
  | some p =>
    obtain ⟨g, o'⟩ := p
    obtain ⟨held, slot, -⟩ := State.orderFor_eq_some.mp order
    have other : g = h.other := by
      have ne : g ≠ h := by
        rintro rfl
        rw [e.hoist] at held
        cases held
      cases g <;> cases h <;> first | rfl | exact absurd rfl ne
    subst other
    obtain ⟨-, ⟨hoist, queued⟩, -, -, closedOther⟩ := closes _ _ order
    have seq := closedOther.seqOf_other
    rw [Hoist_other_other] at hoist queued seq
    refine ⟨hoist.trans e.hoist, request, fun hc => absurd slot (alone hc o' held), fun w room => ?_,
      fun quiet => queued.trans (e.silent quiet), e.pass.trans_le passes⟩
    rw [queued, seq]
    exact e.sends w room

/-- A freeing while no ADMIT waits seats no rack and writes no more of a bath than its area in flight (02 R35). -/
theorem State.freeRack_quiet {k : Nat} {x : Rack} (hx : s.racks.get k = some x) (hq : s.queue = [])
    (ev : Option RackEvent) :
    (∀ m j, ((s.freeRack k ev).stations.get m).occ = .occupied j → (s.stations.get m).occ = .occupied j) ∧
      ∀ c, ((s.freeRack k ev).baths.get c).owed = (s.baths.get c).owed ∧
        ((s.freeRack k ev).baths.get c).remainder = (s.baths.get c).remainder := by
  have retried := (State.Retried.retryIf (s.dropRack k x ev) x.station).trans (.retryIf _ x.dest)
  have done : s.freeRack k ev = ((s.dropRack k x ev).retryIf x.station).retryIf x.dest := by
    rw [State.freeRack_eq hx]
    exact State.retestHead_nil (by simp [hq])
  have dropped := s.dropRack_dropped k x ev
  rw [done]
  refine ⟨fun m j occ => ?_, fun c => ?_⟩
  · have before := retried.occupied occ
    rw [dropped.stations] at before
    split at before
    · cases before
    · exact before
  · rw [retried.baths, dropped.baths]
    exact ⟨State.lowerArea_form Bath.owed (fun _ _ => rfl) _ _ c,
      State.lowerArea_form Bath.remainder (fun _ _ => rfl) _ _ c⟩

theorem State.rackNotice_queued (s : State) (ev : RackEvent) (k : Nat) (x : Rack) (n : Option Nat) {c : Nat}
    (hc : c ≠ 3) : (s.rackNotice ev k x n).queued c = s.queued c :=
  congrArg (fun y : Channel => y.queue.map Queued.msg) (s.link.notify_get_ne (Ne.symm hc) _)

theorem State.rackNotice_keepsNotices (s : State) (ev : RackEvent) (k : Nat) (x : Rack) (n : Option Nat) :
    s.link.KeepsNotices (s.rackNotice ev k x n).link := s.link.notify_keepsNotices _

theorem State.doPlace_placedInUnload (ho : (s.hoist h).order = some o) (hk : o.slot < 24) (hn : o.dest < 32)
    (kind : (s.stations.get o.dest).kind = .unload) (hr : s.racks.get o.slot = some r)
    (step : r.stepIdx = (s.recipes.get r.recipe).steps.length) (hq : s.queue = []) :
    s.PlacedInUnload (s.doPlace h) h o r := by
  have off : decide ((s.stations.get o.dest).kind = .bath) = false := by rw [kind]; rfl
  rw [State.doPlace_eq ho hr off, if_neg (by decide)]
  have ended : s.OrderEnded (s.arrived h o r false) h o.slot True := State.arrived_ended hk false
  have notices : s.link.KeepsNotices (s.arrived h o r false).link := State.orderDone_keepsNotices
  have station := State.arrived_station (s := s) (h := h) (r := r) hn false
  have others (m : Nat) (hm : m ≠ o.dest) := State.arrived_others (s := s) (h := h) (r := r) hm false
  have target : s.targetOf r (r.stepIdx + 1) = 0 := by
    have past : (s.recipes.get r.recipe).steps[r.stepIdx + 1 - 1]? = none :=
      List.getElem?_eq_none (by omega)
    simp only [State.targetOf, State.recipeStep, Nat.add_eq_zero_iff, Nat.one_ne_zero, and_false, if_false, past]
  rw [target]
  have rack : (s.arrived h o r false).racks.get o.slot = some (r.begin o.dest false 0) :=
    (Table.get_set_self _ hk _).trans (by rw [target])
  have otherHoist : (s.arrived h o r false).hoist h.other = s.hoist h.other := by
    have := State.orderDone_hoist (s := s) (h := h) (k := o.slot) h.other
    rw [if_neg (Hoist_other_ne h)] at this
    rw [← this]
    cases h <;> rfl
  have baths : (s.arrived h o r false).baths = s.baths := by simp [State.arrived, State.orderDone]
  have queue : (s.arrived h o r false).queue = [] := by simp [State.arrived, State.orderDone, hq]
  have recipes : (s.arrived h o r false).recipes = s.recipes := by simp [State.arrived, State.orderDone]
  have tick : (s.arrived h o r false).tick = s.tick := by simp [State.arrived, State.orderDone]
  have gens : (s.arrived h o r false).gens = s.gens := by simp [State.arrived, State.orderDone]
  have io : (s.arrived h o r false).io = s.io := by simp [State.arrived, State.orderDone]
  generalize s.arrived h o r false = y at *
  have sensing : (y.stations.get o.dest).sensing = (s.stations.get o.dest).sensing := by rw [station]
  have told := State.arriveUnload_told (n := o.dest) rack
  rw [sensing] at told
  have channel : h.channel ≠ 3 := by cases h <;> decide
  cases on : (s.stations.get o.dest).sensing with
  | true =>
    rw [on] at sensing told
    have arrived : y.arriveUnload o.slot (r.begin o.dest false 0) o.dest =
        y.rackNotice (.done false) o.slot (r.begin o.dest false 0) (some o.dest) := if_pos sensing
    rw [arrived] at told ⊢
    have link := y.rackNotice_keepsNotices (.done false) o.slot (r.begin o.dest false 0) (some o.dest)
    have window := State.windowFor_window (s := y.rackNotice (.done false) o.slot (r.begin o.dest false 0) (some o.dest)) hn
    have later := (y.rackNotice (.done false) o.slot (r.begin o.dest false 0) (some o.dest)).windowFor_rest o.dest true
    have level : (y.rackNotice (.done false) o.slot (r.begin o.dest false 0) (some o.dest)).level o.dest = s.level o.dest :=
      congrArg (fun x : StationIo => (x.inputs.get o.dest).level) io
    have queued := y.rackNotice_queued (.done false) o.slot (r.begin o.dest false 0) (some o.dest) channel
    generalize hz : (y.rackNotice (.done false) o.slot (r.begin o.dest false 0) (some o.dest)) = z at *
    have rest : z = { y with link := z.link } := by rw [← hz]; rfl
    constructor
    case ended =>
      refine State.OrderEnded.under (c := True) (fun _ => trivial) (ended.of_later ?_ ?_ ?_ ?_ ?_)
      · rw [later, rest]; cases h <;> rfl
      · rw [later, rest]; exact ended.request
      · rw [later, rest]
      · rw [← queued, later]; rfl
      · rw [later, rest]
    case notices => rw [later]; exact notices.trans link
    case told => rw [on]; exact (told.mono (by rw [later]; exact .refl _)).of_same rfl rfl rfl
    case vacated => intro m hm free; rw [later, rest]; exact others m hm ▸ free
    case stays =>
      refine fun _ => ⟨?_, ?_, ?_, window.trans (by rw [level])⟩
      · rw [later, rest]; exact congrArg Station.occ station
      · rw [later, rest]; exact rack
      · rw [later, rest]; exact recipes
    case freed => intro no; rw [on] at no; cases no
    case baths => intro c; rw [later, rest, ← baths]; exact ⟨rfl, rfl⟩
    case tick => rw [later, rest]; exact tick
    case gens => rw [later, rest]; exact gens
  | false =>
    rw [on] at sensing told
    show s.PlacedInUnload (y.arriveUnload o.slot (r.begin o.dest false 0) o.dest) h o r
    have freed := State.arriveUnload_frees sensing rack queue
    have arrived : y.arriveUnload o.slot (r.begin o.dest false 0) o.dest =
        (y.rackNotice (.done true) o.slot (r.begin o.dest false 0) (some o.dest)).freeRack o.slot none :=
      if_neg (by rw [sensing]; decide)
    rw [arrived] at told freed ⊢
    have link := y.rackNotice_keepsNotices (.done true) o.slot (r.begin o.dest false 0) (some o.dest)
    have queued := y.rackNotice_queued (.done true) o.slot (r.begin o.dest false 0) (some o.dest) channel
    generalize hz : (y.rackNotice (.done true) o.slot (r.begin o.dest false 0) (some o.dest)) = z at *
    have rest : z = { y with link := z.link } := by rw [← hz]; rfl
    have rackZ : z.racks.get o.slot = some (r.begin o.dest false 0) := by rw [rest]; exact rack
    have queueZ : z.queue = [] := by rw [rest]; exact queue
    obtain ⟨occupied, volumes⟩ := State.freeRack_quiet rackZ queueZ none
    have hoistZ (g : Hoist) : z.hoist g = y.hoist g := by rw [rest]; cases g <;> rfl
    have endedZ : s.OrderEnded z h o.slot True := ended.of_later (hoistZ h) (by rw [rest]; exact ended.request)
      (by rw [rest]) queued (by rw [rest])
    constructor
    case ended =>
      refine endedZ.freed rackZ (fun alone => ?_) none freed.request
      rw [hoistZ, otherHoist]
      exact alone.resolve_left (by rw [on]; decide)
    case notices => exact (notices.trans link).trans (State.freeRack_notices rackZ none)
    case told => rw [on]; exact told.of_same rfl rfl rfl
    case vacated =>
      intro m hm free occ
      refine free ?_
      rw [← others m hm]
      have := occupied m o.slot occ
      rwa [rest] at this
    case stays => intro yes; rw [on] at yes; cases yes
    case freed =>
      refine fun _ => ⟨freed.record, freed.station o.dest rfl, freed.count.trans ?_⟩
      rw [recipes]; rfl
    case baths =>
      intro c
      rw [← baths]
      have := volumes c
      rw [show z.baths = y.baths by rw [rest]] at this
      exact this
    case tick => exact freed.tick.trans tick
    case gens => rw [State.freeRack_gens, rest]; exact gens

end

end Sys2Proof.Machine
end
section
/-! PROOFS. PLACED of the open order: in an earlier phase the lift comes first (06 R118, R119, R122). -/

namespace Sys2Proof.Machine

variable {s t u v w : State}

/-- A hoist's own part of the state is as before: spans, line, timings, its queue and its position. -/
structure State.HoistKept (s t : State) (h : Hoist) : Prop where
  span     : t.span = s.span
  line     : t.line = s.line
  timing   : ∀ g, (t.hoist g).timing = (s.hoist g).timing
  channel  : t.link.channels.get h.channel = s.link.channels.get h.channel
  position : (t.hoist h).position = (s.hoist h).position
  passes   : s.dispatcher.passesOwed ≤ t.dispatcher.passesOwed

/-- The end of an order is told of any state with the same hoist's part. -/
theorem State.HoistKept.ended {h : Hoist} {k : Nat} {c : Prop} (kept : u.HoistKept v h) (e : v.OrderEnded t h k c) :
    c → u.OrderClosed t h (u.boundWithout k) := fun hc => by
  have bound : v.boundWithout k = u.boundWithout k := by unfold State.boundWithout; rw [kept.span]
  rw [← bound]
  exact (e.closed hc).of_same kept.span.symm (fun g => (kept.timing g).symm) kept.line.symm

section
variable {h : Hoist} {k : Nat} {c : Prop}

theorem State.HoistKept.waitsFor (kept : u.HoistKept v h) (g : Hoist) : v.WaitsFor g ↔ u.WaitsFor g := by
  unfold State.WaitsFor; rw [kept.span]

theorem State.HoistKept.held (kept : u.HoistKept v h) : v.link.held h.channel = u.link.held h.channel := by
  unfold Link.held; rw [kept.channel]

theorem State.HoistKept.queued (kept : u.HoistKept v h) : v.queued h.channel = u.queued h.channel := by
  unfold State.queued; rw [kept.channel]

theorem State.HoistKept.sends (kept : u.HoistKept v h) (e : v.OrderEnded t h k c) (w : u.WaitsFor h)
    (room : u.link.held h.channel < 4) :
    t.queued h.channel = u.queued h.channel ++ [u.span.handover.narrowed.message (t.seqOf h)] := by
  rw [e.sends ((kept.waitsFor h).mpr w) (kept.held ▸ room), kept.queued, kept.span]

theorem State.HoistKept.silent (kept : u.HoistKept v h) (e : v.OrderEnded t h k c)
    (quiet : ¬u.WaitsFor h ∨ 4 ≤ u.link.held h.channel) : t.queued h.channel = u.queued h.channel :=
  (e.silent (quiet.imp (mt (kept.waitsFor h).mp) (fun full => kept.held.symm ▸ full))).trans kept.queued

end

/-- The state v in which the order o is placed, for PLACED of o at position p with the rack r in s: after the position,
and the lift where the phase is an earlier one (06 R118, R119). -/
structure State.ReadyToPlace (s v : State) (h : Hoist) (o : Order) (p : Int) (r : Rack) : Prop where
  order    : ∃ o', (v.hoist h).order = some o' ∧ o'.slot = o.slot ∧ o'.dest = o.dest
  other    : (v.hoist h.other).order = (s.hoist h.other).order
  kept     : (s.recordPosition h p).HoistKept v h
  position : (v.hoist h).position = some p
  rack     : ∃ r', v.racks.get o.slot = some r' ∧ r'.stepIdx = r.stepIdx ∧ r'.recipe = r.recipe ∧
    r'.adjust = r.adjust ∧ r'.id = r.id ∧
    (o.phase = .lifted ∨ ¬(r.st = .immersed ∨ r.st = .due) → r'.history = r.history) ∧
    (o.phase ≠ .lifted → r.st = .immersed ∨ r.st = .due → r'.history = r.history ++
      [{ step := r.stepIdx, station := o.source, acc := r.acc, overrun := r.overrun,
         flags := if o.phase = .released then r.flags else StepFlag.earlyLift.addTo r.flags }])
  forms    : ∀ m x, { v.stations.get m with occ := x } = { s.stations.get m with occ := x }
  lifted   : o.phase ≠ .lifted → (v.stations.get o.source).occ ≠ .occupied o.slot ∧
    v.Told (.stepEnded r.stepIdx o.source r.acc r.overrun
      (if o.phase = .released then r.flags else StepFlag.earlyLift.addTo r.flags)) o.slot { r with st := .carried }
  charged  : o.phase ≠ .lifted → r.st = .immersed ∨ r.st = .due → (s.stations.get o.source).bath < 8 →
    (let b := (s.stations.get o.source).bath
     let product := r.area * (s.baths.get b).rho + (s.baths.get b).remainder
     (v.baths.get b).owed = min 65535 ((s.baths.get b).owed + product / 1000) ∧
      (v.baths.get b).remainder = product % 1000)
  status   : ∀ c, (v.baths.get c).status = (s.baths.get c).status
  marks    : v.marks.get o.dest = s.marks.get o.dest
  recipes  : v.recipes = s.recipes
  tick     : v.tick = s.tick
  gens     : v.gens = s.gens
  io       : v.io = s.io
  passes   : s.dispatcher.passesOwed ≤ v.dispatcher.passesOwed
  queue    : s.queue = [] → v.queue = []

section
variable {h : Hoist} {o : Order} {p : Int} {r : Rack}

theorem takePlaced_eq (ho : (s.hoist h).order = some o) (hp : -1 ≤ p) (hp' : p ≤ 32) :
    takePlaced h o.number (some p) s = (if o.phase = .lifted then s.recordPosition h p
      else (s.recordPosition h p).doLift h (decide (o.phase ≠ .released))).doPlace h := by
  rw [takePlaced, State.orderReport_named ho hp hp']
  cases o.phase <;> rfl

/-- In phase LIFTED the rack is carried already. -/
theorem State.recordPosition_ready (ho : (s.hoist h).order = some o) (hr : s.racks.get o.slot = some r)
    (phase : o.phase = .lifted) : s.ReadyToPlace (s.recordPosition h p) h o p r := by
  have pos := s.recordPosition_taken h p
  obtain ⟨stations, baths, recipes, queue, marks, -, tick, gens, io, dispatcher, -⟩ := s.recordPosition_unmoved h p
  have rack : (s.recordPosition h p).racks.get o.slot = some r := by rw [State.recordPosition_racks]; exact hr
  generalize hu : s.recordPosition h p = u at *
  constructor
  case order => exact ⟨o, (pos.order h).trans ho, rfl, rfl⟩
  case other => exact pos.order h.other
  case kept => rw [hu]; exact ⟨rfl, rfl, fun _ => rfl, rfl, rfl, Nat.le_refl _⟩
  case position => exact pos.position
  case rack => exact ⟨r, rack, rfl, rfl, rfl, rfl, fun _ => rfl, fun early => absurd phase early⟩
  case forms => intro m x; rw [stations]
  case lifted => exact fun early => absurd phase early
  case charged => exact fun early => absurd phase early
  case status => intro c; rw [baths]
  case marks => rw [marks]
  case recipes => exact recipes
  case tick => exact tick
  case gens => exact gens
  case io => exact io
  case passes => rw [dispatcher]
  case queue => exact fun hq => queue.trans hq

/-- In an earlier phase PLACED takes the lift first (06 R119). -/
theorem State.doLift_ready (ho : (s.hoist h).order = some o) (hr : s.racks.get o.slot = some r) (apart : o.source ≠ o.dest) (phase : o.phase ≠ .lifted) :
    s.ReadyToPlace ((s.recordPosition h p).doLift h (decide (o.phase ≠ .released))) h o p r := by
  have pos := s.recordPosition_taken h p
  obtain ⟨v, opens, lifted⟩ := doLift_recorded (p := p) ho hr
  obtain ⟨stations, baths, recipes, queue, marks, -, tick, gens, io, dispatcher, -⟩ :=
    (s.recordPosition_unmoved h p).liftOpens opens
  have recorded := (s.recordPosition_unmoved h p).dispatcher
  have flags : (if o.phase ≠ .released then StepFlag.earlyLift.addTo r.flags else r.flags) =
      if o.phase = .released then r.flags else StepFlag.earlyLift.addTo r.flags := ite_not _ _ _
  rw [flags] at lifted
  generalize hu : s.recordPosition h p = u at *
  generalize u.doLift h (decide (o.phase ≠ .released)) = w at *
  have rest := opens.rest
  have hoist : w.hoist h = u.lifting h o := (lifted.hoist h).trans opens.hoist
  have other : w.hoist h.other = u.hoist h.other := (lifted.hoist _).trans opens.other
  obtain ⟨r', hr', e⟩ := Option.map_eq_some_iff.mp lifted.rack
  obtain ⟨d, rfl⟩ := Rack.directed_of_undirected e
  have wet : Rack.inBath { r with
    flags := if o.phase = .released then r.flags else StepFlag.earlyLift.addTo r.flags } = r.inBath := rfl
  constructor
  case order => exact ⟨o.afterLift, by rw [hoist]; rfl, rfl, rfl⟩
  case other => rw [other]; exact pos.order h.other
  case kept =>
    rw [hu]
    constructor
    case span => rw [lifted.span, rest]
    case line => rw [lifted.line, rest]
    case timing =>
      intro g
      by_cases same : g = h
      · subst same; rw [hoist]; rfl
      · have : g = h.other := by cases g <;> cases h <;> first | rfl | exact absurd rfl same
        rw [this, other]
    case channel =>
      rw [lifted.queued _ (by cases h <;> decide) (by cases h <;> decide), rest]
    case position => rw [hoist]; rfl
    case passes =>
      refine Nat.le_trans (Nat.le_of_eq ?_) lifted.passes
      rw [dispatcher, recorded]
  case position => rw [hoist]; exact pos.position
  case rack =>
    refine ⟨_, hr', rfl, rfl, rfl, rfl, fun dry => ?_, fun _ inBath => ?_⟩
    · show (if r.inBath = true then _ else r.history) = r.history
      exact if_neg (fun c => dry.elim phase (fun dry => dry (r.inBath_iff.mp c)))
    · show (if r.inBath = true then _ else r.history) = _
      exact if_pos (r.inBath_iff.mpr inBath)
  case forms => intro m x; rw [lifted.forms, stations]
  case lifted => exact fun _ => ⟨lifted.vacated, lifted.noticed.told rfl rfl rfl⟩
  case charged =>
    intro _ inBath hb
    have charged := lifted.charged (wet.trans (r.inBath_iff.mpr inBath)) (by rw [stations]; exact hb)
    rw [stations, baths] at charged
    obtain ⟨owed, remainder, -⟩ := charged
    exact ⟨owed.trans (Bath.charged_owed _ _), remainder⟩
  case status => intro c; rw [lifted.status, baths]
  case marks =>
    rw [lifted.marks, marks]
    exact Table.get_set_ne _ apart _
  case recipes => exact lifted.recipes.trans recipes
  case tick => exact lifted.tick.trans tick
  case gens => exact lifted.gens.trans gens
  case io => exact lifted.io.trans io
  case passes => exact dispatcher ▸ lifted.passes
  case queue => exact fun hq => lifted.queue (queue.trans hq)

theorem takePlaced_ready (ho : (s.hoist h).order = some o) (hp : -1 ≤ p) (hp' : p ≤ 32)
    (hr : s.racks.get o.slot = some r) (apart : o.source ≠ o.dest) :
    ∃ v, takePlaced h o.number (some p) s = v.doPlace h ∧ s.ReadyToPlace v h o p r := by
  refine ⟨_, takePlaced_eq ho hp hp', ?_⟩
  by_cases phase : o.phase = .lifted
  · rw [if_pos phase]; exact State.recordPosition_ready ho hr phase
  · rw [if_neg phase]; exact State.doLift_ready ho hr apart phase

end

/-- Two stations that differ in their occupancy only. -/
theorem Station.of_form {x y : Station} (h : { x with occ := .empty } = { y with occ := .empty }) :
    x.kind = y.kind ∧ x.bath = y.bath ∧ x.sensing = y.sensing := by
  simp only [Station.mk.injEq] at h
  exact ⟨h.1, h.2.1, h.2.2.1⟩

/-- Settles O45: the state before the placement, the end of the order there, and the rack at either kind of
destination. -/
theorem placedBeginsTheStep : Obligations.PlacedBeginsTheStep := by
  refine ⟨fun s h o p r st hs ho hp hp' hk hn apart _ kind hr step => ?bath,
    fun s h o p r hs ho hp hp' hk hn apart _ kind hr step hq => ?unload⟩
  case bath =>
    dsimp only
    obtain ⟨v, e, ready⟩ := takePlaced_ready ho hp hp' hr apart
    obtain ⟨o', ho', slot, dest⟩ := ready.order
    obtain ⟨r', hr', idx, recipe, adjust, id, dry, wet⟩ := ready.rack
    obtain ⟨kindV, bathV, sensingV⟩ := Station.of_form (ready.forms o.dest .empty)
    have levelV : v.level o.dest = s.level o.dest := by unfold State.level; rw [ready.io]
    have stepV : v.recipeStep r'.recipe (r'.stepIdx + 1) = some st := by
      rw [recipe, idx, ← step]; unfold State.recipeStep; rw [ready.recipes]
    have placed := State.doPlace_placedInBath ho' (slot.symm ▸ hk) (dest.symm ▸ hn) (dest.symm ▸ kindV.trans kind)
      (slot.symm ▸ hr') stepV
    obtain ⟨t, run, kept, link⟩ := liveDriven_ends hs (takePlaced h o.number (some p))
    rw [e] at kept link
    generalize v.doPlace h = w at *
    obtain ⟨ended, notices, seat, others, rack, baths, mark, window, stale, tick, gens⟩ := placed
    rw [slot] at ended seat rack
    rw [← kept.racks] at rack
    rw [dest] at seat others rack mark window stale
    have endedT : v.OrderEnded t h o.slot True := ended.of_later (kept.hoist h) (by rw [kept.requests]; exact ended.request)
      kept.span (by unfold State.queued; rw [link]) (by rw [kept.dispatcher])
    have noticesT : v.link.KeepsNotices t.link := by rw [link]; exact notices
    have hoist := endedT.hoist
    refine ⟨t, run, ?st, ?order, ?timer, ?position, endedT.request, ready.kept.ended endedT trivial, ready.kept.sends endedT,
      ready.kept.silent endedT, fun early => ?told, ?seat, ⟨_, rack, rfl, congrArg (· + 1) idx, rfl, rfl, rfl,
      rfl, rfl, rfl, ?target, id, dry, wet⟩, fun early => ?vacated, fun early inBath hb => ?charged, ?mark, fun on => ?window,
      fun comp lapsed => ?stale, ?passes, kept.tick.trans (tick.trans ready.tick), kept.gens.trans (gens.trans ready.gens)⟩
    case st => rw [hoist]; rfl
    case order => rw [hoist]; rfl
    case timer => rw [hoist]; rfl
    case position => rw [hoist]; exact ready.position
    case told => exact (ready.lifted early).2.mono noticesT
    case seat => rw [kept.stations]; exact seat
    case target => show st.target r'.adjust = _; rw [adjust]
    case vacated => rw [kept.stations, others _ apart]; exact (ready.lifted early).1
    case charged => rw [kept.baths, baths]; exact ready.charged early inBath hb
    case mark => rw [kept.marks, mark, ready.marks]
    case window => rw [kept.windows, window (sensingV.trans on), levelV]
    case stale => rw [kept.line]; exact stale comp (by rw [bathV, ready.status]; exact lapsed)
    case passes => exact ready.passes.trans_lt endedT.pass
  case unload =>
    dsimp only
    obtain ⟨v, e, ready⟩ := takePlaced_ready ho hp hp' hr apart
    obtain ⟨o', ho', slot, dest⟩ := ready.order
    obtain ⟨r', hr', idx, recipe, adjust, id, dry, wet⟩ := ready.rack
    obtain ⟨kindV, bathV, sensingV⟩ := Station.of_form (ready.forms o.dest .empty)
    have levelV : v.level o.dest = s.level o.dest := by unfold State.level; rw [ready.io]
    have lastV : r'.stepIdx = (v.recipes.get r'.recipe).steps.length := by rw [recipe, idx, ready.recipes]; exact step
    have placed := State.doPlace_placedInUnload ho' (slot.symm ▸ hk) (dest.symm ▸ hn) (dest.symm ▸ kindV.trans kind)
      (slot.symm ▸ hr') lastV (ready.queue hq)
    obtain ⟨t, run, kept, link⟩ := liveDriven_ends hs (takePlaced h o.number (some p))
    rw [e] at kept link
    generalize v.doPlace h = w at *
    obtain ⟨ended, notices, told, vacated, stays, freed, baths, tick, gens⟩ := placed
    rw [slot] at ended told vacated stays freed
    rw [dest] at ended told vacated stays freed
    rw [sensingV, ready.other] at ended
    rw [sensingV] at told stays freed
    have endedT : v.OrderEnded t h o.slot ((s.stations.get o.dest).sensing = true ∨
        ∀ y ∈ (s.hoist h.other).order, y.slot ≠ o.slot) :=
      ended.of_later (kept.hoist h) (by rw [kept.requests]; exact ended.request) kept.span
        (by unfold State.queued; rw [link]) (by rw [kept.dispatcher])
    have noticesT : v.link.KeepsNotices t.link := by rw [link]; exact notices
    have hoist := endedT.hoist
    refine ⟨t, run, ?stUnload, ?orderUnload, ?timerUnload, ?positionUnload, endedT.request, ready.kept.ended endedT, ready.kept.sends endedT,
      ready.kept.silent endedT, fun early => ?toldUnload, ?done, ?passesUnload, kept.tick.trans (tick.trans ready.tick),
      kept.gens.trans (gens.trans ready.gens), fun early => ?vacatedUnload, fun early inBath hb => ?chargedUnload, fun on => ?sensed,
      fun off => ?freed⟩
    case stUnload => rw [hoist]; rfl
    case orderUnload => rw [hoist]; rfl
    case timerUnload => rw [hoist]; rfl
    case positionUnload => rw [hoist]; exact ready.position
    case toldUnload => exact (ready.lifted early).2.mono noticesT
    case done => exact (told.mono (by rw [link]; exact .refl _)).of_same id rfl (congrArg (· + 1) idx)
    case passesUnload => exact ready.passes.trans_lt endedT.pass
    case vacatedUnload => rw [kept.stations]; exact vacated _ apart (ready.lifted early).1
    case chargedUnload => rw [kept.baths, (baths _).1, (baths _).2]; exact ready.charged early inBath hb
    case sensed =>
      obtain ⟨seat, rack, recipes, window⟩ := stays on
      rw [← kept.racks] at rack
      rw [kept.stations, kept.recipes, kept.windows]
      exact ⟨seat, ⟨_, rack, rfl, congrArg (· + 1) idx, rfl, rfl, rfl, rfl, rfl, rfl, rfl, id, dry, wet⟩,
        recipes.trans ready.recipes, window.trans (by rw [levelV])⟩
    case freed =>
      obtain ⟨record, seat, count⟩ := freed off
      rw [kept.racks, kept.stations, kept.recipes]
      rw [recipe, ready.recipes] at count
      exact ⟨record, seat, count⟩

end Sys2Proof.Machine
end
section
/-! PROOFS. The orders of a dispatch pass: the urgency order and the order of the lookahead (03 R44, 05 R87, R90,
R91). -/

namespace Sys2Proof.Machine

variable {s t : State}

/-! ### Sorting by keys -/

section
variable {α : Type} {before : α → α → Bool}

theorem insertBy_perm (x : α) (l : List α) : (insertBy before x l).Perm (x :: l) := by
  induction l with
  | nil => exact .refl _
  | cons y ys ih =>
    unfold insertBy
    split
    · exact .refl _
    · exact (ih.cons y).trans (.swap x y ys)

theorem sortBy_perm (l : List α) : (sortBy before l).Perm l := by
  induction l with
  | nil => exact .refl _
  | cons x xs ih => exact (insertBy_perm x _).trans (ih.cons x)

/-- A list sorted by an order that integer keys give ascends in the keys. -/
theorem sortBy_ascends (key : α → Int) {l : List α}
    (h : ∀ a ∈ l, ∀ b ∈ l, before a b = true ↔ key a < key b) :
    (sortBy before l).Pairwise (fun a b => key a ≤ key b) := by
  induction l with
  | nil => exact .nil
  | cons x xs ih =>
    have sorted := ih fun a ha b hb => h a (List.mem_cons_of_mem x ha) b (List.mem_cons_of_mem x hb)
    have here : ∀ y ∈ sortBy before xs, before x y = true ↔ key x < key y := fun y hy =>
      h x List.mem_cons_self y (List.mem_cons_of_mem x ((sortBy_perm xs).mem_iff.mp hy))
    show (insertBy before x (sortBy before xs)).Pairwise _
    revert sorted here
    generalize sortBy before xs = l
    intro sorted here
    induction l with
    | nil => exact List.pairwise_singleton _ _
    | cons y ys ihy =>
      obtain ⟨above, tail⟩ := List.pairwise_cons.mp sorted
      unfold insertBy
      split
      · next first =>
        have lt := (here y List.mem_cons_self).mp first
        refine List.pairwise_cons.mpr ⟨fun z hz => ?_, sorted⟩
        obtain rfl | hz := List.mem_cons.mp hz
        · exact lt.le
        · exact lt.le.trans (above z hz)
      · next later =>
        have le : key y ≤ key x := Int.not_lt.mp fun lt => later ((here y List.mem_cons_self).mpr lt)
        refine List.pairwise_cons.mpr ⟨fun z hz => ?_, ihy tail fun z hz => here z (List.mem_cons_of_mem y hz)⟩
        obtain rfl | hz := List.mem_cons.mp ((insertBy_perm x ys).mem_iff.mp hz)
        · exact le
        · exact above z hz

end

/-- In a list without repetitions that ascends strictly in a key, places compare as keys do. -/
theorem idxOf_lt_iff {l : List Nat} {key : Nat → Int} (sorted : l.Pairwise (fun a b => key a < key b)) {i j : Nat}
    (hi : i ∈ l) (hj : j ∈ l) : l.idxOf i < l.idxOf j ↔ key i < key j := by
  have le := List.idxOf_lt_length_iff.mpr hi
  have le' := List.idxOf_lt_length_iff.mpr hj
  have mono {a b : Nat} (ha : a < l.length) (hb : b < l.length) (lt : a < b) : key l[a] < key l[b] :=
    List.pairwise_iff_getElem.mp sorted a b ha hb lt
  have at_i : l[l.idxOf i] = i := List.getElem_idxOf le
  have at_j : l[l.idxOf j] = j := List.getElem_idxOf le'
  constructor
  · intro lt
    have := mono le le' lt
    rwa [at_i, at_j] at this
  · intro lt
    by_contra ge
    obtain same | before := Nat.eq_or_lt_of_le (Nat.not_lt.mp ge)
    · have : i = j := by
        rw [← at_i, ← at_j]
        congr 1
        exact same.symm
      rw [this] at lt
      exact lt_irrefl _ lt
    · have := mono le' le before
      rw [at_i, at_j] at this
      exact lt_asymm lt this

/-! ### Tick counts and sequences near a reference (03 R44) -/

/-- Two 32-bit counts within 2^30 of a reference differ as their distances from it do. -/
theorem toInt_sub_near {a b c : BitVec 32} (ha : (a - c).toInt.natAbs < 2 ^ 30) (hb : (b - c).toInt.natAbs < 2 ^ 30) :
    (b - a).toInt = (b - c).toInt - (a - c).toInt := by
  have e : b - a = (b - c) - (a - c) := by bv_omega
  rw [e, BitVec.toInt_sub]
  exact Int.bmod_eq_of_le (by omega) (by omega)

/-- A comparison by what is ahead is the comparison of the distances. -/
theorem compare_of_near {a b c : BitVec 32} (ha : (a - c).toInt.natAbs < 2 ^ 30) (hb : (b - c).toInt.natAbs < 2 ^ 30) :
    (if decide (0 < (b - a).toInt) = true then Ordering.lt
      else if decide (0 < (a - b).toInt) = true then .gt else .eq) = compare (a - c).toInt (b - c).toInt := by
  rw [toInt_sub_near ha hb, toInt_sub_near hb ha]
  simp only [decide_eq_true_eq]
  split
  · exact (Int.compare_eq_lt.mpr (by omega)).symm
  · split
    · exact (Int.compare_eq_gt.mpr (by omega)).symm
    · exact (Int.compare_eq_eq.mpr (by omega)).symm

theorem compareAge_near {a b c : Sequence} (ha : (a - c).toInt.natAbs < 2 ^ 30) (hb : (b - c).toInt.natAbs < 2 ^ 30) :
    compareAge a b = compare (a - c).toInt (b - c).toInt := compare_of_near ha hb

/-- How far off a latest lift tick is; past every tick where there is none (05 R91). -/
def liftDistance (now : TickCount) : Option TickCount → Int
  | some e => (e - now).toInt
  | none => 2 ^ 30

/-- A latest lift tick within 2^30 of now, where there is one. -/
def nearLift (now : TickCount) (l : Option TickCount) : Prop :=
  l.all (fun e => decide ((e - now).toInt.natAbs < 2 ^ 30)) = true

theorem compareLatest_near {now : TickCount} {a b : Option TickCount} (ha : nearLift now a) (hb : nearLift now b) :
    compareLatest a b = compare (liftDistance now a) (liftDistance now b) := by
  cases a with
  | none =>
    cases b with
    | none => exact (Int.compare_eq_eq.mpr rfl).symm
    | some v =>
      have near : (v - now).toInt.natAbs < 2 ^ 30 := by simpa [nearLift] using hb
      exact (Int.compare_eq_gt.mpr (show (v - now).toInt < 2 ^ 30 by omega)).symm
  | some u =>
    have near : (u - now).toInt.natAbs < 2 ^ 30 := by simpa [nearLift] using ha
    cases b with
    | none => exact (Int.compare_eq_lt.mpr (show (u - now).toInt < 2 ^ 30 by omega)).symm
    | some v => exact compare_of_near near (by simpa [nearLift] using hb)

/-! ### The urgency order (05 R90, R91) -/

/-- The three keys of a request in one number, the first key first. -/
def UrgencyKey.weight (mode : UrgencyMode) (now : TickCount) (counter : Sequence) (x : UrgencyKey) : Int :=
  match mode with
  | .deadline => liftDistance now x.latest * 2 ^ 36 + classRank x.cls * 2 ^ 32 + (x.seq - counter).toInt
  | .byClass => classRank x.cls * 2 ^ 68 + liftDistance now x.latest * 2 ^ 32 + (x.seq - counter).toInt

theorem classRank_le (c : StepClass) : classRank c ≤ 3 := by cases c <;> decide

theorem compareClass_eq (a b : StepClass) : compareClass a b = compare (classRank a : Int) (classRank b : Int) := by
  cases a <;> cases b <;> rfl

theorem then_eq_lt {a b c d e f : Int} : ((compare a b).then (compare c d)).then (compare e f) = .lt ↔
    a < b ∨ (a = b ∧ (c < d ∨ (c = d ∧ e < f))) := by
  simp only [Ordering.then_eq_lt, Ordering.then_eq_eq, Int.compare_eq_lt, Int.compare_eq_eq]
  omega

/-- Near keys compare as their weights do. -/
theorem UrgencyKey.before_iff {mode : UrgencyMode} {now : TickCount} {counter : Sequence} {a b : UrgencyKey}
    (la : nearLift now a.latest) (lb : nearLift now b.latest) (sa : (a.seq - counter).toInt.natAbs < 2 ^ 30)
    (sb : (b.seq - counter).toInt.natAbs < 2 ^ 30) :
    UrgencyKey.before mode a b = true ↔ a.weight mode now counter < b.weight mode now counter := by
  have ranks := classRank_le a.cls
  have ranks' := classRank_le b.cls
  have near {l : Option TickCount} (h : nearLift now l) : -2 ^ 30 ≤ liftDistance now l ∧ liftDistance now l ≤ 2 ^ 30 := by
    cases l with
    | none => exact ⟨show (-2 ^ 30 : Int) ≤ 2 ^ 30 by decide, le_refl (2 ^ 30 : Int)⟩
    | some e =>
      have : (e - now).toInt.natAbs < 2 ^ 30 := by simpa [nearLift] using h
      exact ⟨show -2 ^ 30 ≤ (e - now).toInt by omega, show (e - now).toInt ≤ 2 ^ 30 by omega⟩
  obtain ⟨lo, hi⟩ := near la
  obtain ⟨lo', hi'⟩ := near lb
  unfold UrgencyKey.before UrgencyKey.weight
  cases mode <;> dsimp only <;>
    rw [decide_eq_true_iff, compareLatest_near la lb, compareClass_eq, compareAge_near sa sb, then_eq_lt] <;> omega

theorem State.urgencyKey_eq_some {k : Nat} {x : UrgencyKey} : s.urgencyKey k = some x ↔
    ∃ q ∈ s.requests.get k, ∃ r ∈ s.racks.get k,
      x = { slot := k, latest := s.latestLift r, cls := q.cls, seq := r.seq } := by
  unfold State.urgencyKey
  cases s.requests.get k <;> cases s.racks.get k <;> simp [eq_comm]

theorem State.urgencyKey_slot {k : Nat} {x : UrgencyKey} (h : s.urgencyKey k = some x) : x.slot = k := by
  obtain ⟨q, -, r, -, rfl⟩ := State.urgencyKey_eq_some.mp h
  rfl

/-- The keys of all requests, in slot order. -/
def State.urgencyKeys (s : State) : List UrgencyKey := (s.requests.indices Option.isSome).filterMap s.urgencyKey

theorem State.mem_urgencyKeys {x : UrgencyKey} : x ∈ s.urgencyKeys ↔ s.urgencyKey x.slot = some x := by
  unfold State.urgencyKeys
  rw [List.mem_filterMap]
  constructor
  · rintro ⟨k, -, e⟩
    rwa [State.urgencyKey_slot e]
  · intro e
    obtain ⟨q, hq, -⟩ := State.urgencyKey_eq_some.mp e
    refine ⟨x.slot, ?_, e⟩
    rw [Table.indices_eq]
    simp [Option.mem_def.mp hq, Table.lt_of_get_some (Option.mem_def.mp hq)]

theorem State.urgencyKeys_slots_nodup : (s.urgencyKeys.map (·.slot)).Nodup := by
  unfold State.urgencyKeys
  rw [List.map_filterMap]
  refine List.Nodup.filterMap (fun i j k hi hj => ?_) (Table.nodup_indices _ _)
  obtain ⟨x, hx, rfl⟩ := Option.map_eq_some_iff.mp hi
  obtain ⟨y, hy, e⟩ := Option.map_eq_some_iff.mp hj
  rw [← State.urgencyKey_slot hx, ← State.urgencyKey_slot hy]
  exact e.symm

theorem State.urgencyOrder_perm (s : State) : s.urgencyOrder.Perm (s.urgencyKeys.map (·.slot)) :=
  (sortBy_perm _).map _

/-- Each request with a rack stands once in the urgency order. -/
theorem State.urgencyOrder_nodup (s : State) : s.urgencyOrder.Nodup :=
  s.urgencyOrder_perm.nodup_iff.mpr State.urgencyKeys_slots_nodup

theorem State.mem_urgencyOrder {k : Nat} :
    k ∈ s.urgencyOrder ↔ s.requests.get k ≠ none ∧ s.racks.get k ≠ none := by
  rw [s.urgencyOrder_perm.mem_iff, List.mem_map]
  constructor
  · rintro ⟨x, mem, rfl⟩
    obtain ⟨q, hq, r, hr, -⟩ := State.urgencyKey_eq_some.mp (State.mem_urgencyKeys.mp mem)
    rw [Option.mem_def.mp hq, Option.mem_def.mp hr]
    exact ⟨nofun, nofun⟩
  · rintro ⟨hq, hr⟩
    obtain ⟨q, hq⟩ := Option.ne_none_iff_exists'.mp hq
    obtain ⟨r, hr⟩ := Option.ne_none_iff_exists'.mp hr
    exact ⟨{ slot := k, latest := s.latestLift r, cls := q.cls, seq := r.seq },
      State.mem_urgencyKeys.mpr (State.urgencyKey_eq_some.mpr ⟨q, hq, r, hr, rfl⟩), rfl⟩

/-- Every rack's sequence lies within 2^30 of the counter and its latest lift tick of now, and no two racks have one
sequence (03 R44). -/
def State.KeysNear (s : State) : Prop :=
  ∀ k < 24, ∀ r ∈ s.racks.get k, (r.seq - s.seqCounter).toInt.natAbs < 2 ^ 30 ∧
    nearLift s.tick (s.latestLift r) ∧ ∀ l < 24, l ≠ k → ∀ w ∈ s.racks.get l, w.seq ≠ r.seq

/-- The weight of the key of a slot. -/
def State.slotWeight (s : State) (k : Nat) : Int :=
  ((s.urgencyKey k).map (UrgencyKey.weight s.dispatcher.mode s.tick s.seqCounter)).getD 0

/-- Two racks' ages differ where their sequences do. -/
theorem age_ne {a b c : Sequence} (h : a ≠ b) : (a - c).toInt ≠ (b - c).toInt := fun e =>
  h (by have := BitVec.eq_of_toInt_eq e; bv_omega)

theorem UrgencyKey.weight_ne {mode : UrgencyMode} {now : TickCount} {counter : Sequence} {a b : UrgencyKey}
    (la : nearLift now a.latest) (lb : nearLift now b.latest) (sa : (a.seq - counter).toInt.natAbs < 2 ^ 30)
    (sb : (b.seq - counter).toInt.natAbs < 2 ^ 30) (ne : a.seq ≠ b.seq) :
    a.weight mode now counter ≠ b.weight mode now counter := by
  intro same
  have first := mt (UrgencyKey.before_iff (mode := mode) la lb sa sb).mp (by rw [same]; exact lt_irrefl _)
  have second := mt (UrgencyKey.before_iff (mode := mode) lb la sb sa).mp (by rw [same]; exact lt_irrefl _)
  have apart := age_ne (c := counter) ne
  unfold UrgencyKey.before at first second
  cases mode <;> dsimp only at first second <;>
    rw [decide_eq_true_iff, compareLatest_near la lb, compareClass_eq, compareAge_near sa sb, then_eq_lt] at first <;>
    rw [decide_eq_true_iff, compareLatest_near lb la, compareClass_eq, compareAge_near sb sa, then_eq_lt] at second <;>
    omega

theorem State.KeysNear.key (near : s.KeysNear) {k : Nat} {x : UrgencyKey} (hx : s.urgencyKey k = some x) :
    nearLift s.tick x.latest ∧ (x.seq - s.seqCounter).toInt.natAbs < 2 ^ 30 ∧
      ∀ j y, s.urgencyKey j = some y → j ≠ k → x.seq ≠ y.seq := by
  obtain ⟨q, hq, r, hr, rfl⟩ := State.urgencyKey_eq_some.mp hx
  have lt := Table.lt_of_get_some (Option.mem_def.mp hr)
  obtain ⟨seq, lift, apart⟩ := near k lt r hr
  refine ⟨lift, seq, fun j y hy ne => ?_⟩
  obtain ⟨-, -, w, hw, rfl⟩ := State.urgencyKey_eq_some.mp hy
  exact (apart j (Table.lt_of_get_some (Option.mem_def.mp hw)) ne w hw).symm

/-- With keys near their references the urgency order ascends strictly in the keys. -/
theorem State.urgencyOrder_ascends (near : s.KeysNear) :
    s.urgencyOrder.Pairwise (fun i j => s.slotWeight i < s.slotWeight j) := by
  have weight {x : UrgencyKey} (hx : x ∈ s.urgencyKeys) :
      s.slotWeight x.slot = x.weight s.dispatcher.mode s.tick s.seqCounter := by
    unfold State.slotWeight
    rw [State.mem_urgencyKeys.mp hx]
    rfl
  have sorted := sortBy_ascends (before := UrgencyKey.before s.dispatcher.mode) (l := s.urgencyKeys)
    (UrgencyKey.weight s.dispatcher.mode s.tick s.seqCounter) (fun a ha b hb => by
      obtain ⟨la, sa, -⟩ := near.key (State.mem_urgencyKeys.mp ha)
      obtain ⟨lb, sb, -⟩ := near.key (State.mem_urgencyKeys.mp hb)
      exact UrgencyKey.before_iff la lb sa sb)
  have apart := s.urgencyOrder_nodup
  show ((sortBy _ s.urgencyKeys).map (·.slot)).Pairwise _
  rw [show s.urgencyOrder = (sortBy (UrgencyKey.before s.dispatcher.mode) s.urgencyKeys).map (·.slot) from rfl] at apart
  rw [List.nodup_iff_pairwise_ne, List.pairwise_map] at apart
  rw [List.pairwise_map]
  refine (sorted.and apart).imp_of_mem fun ha hb ⟨le, ne⟩ => ?_
  have ha := (sortBy_perm _).mem_iff.mp ha
  have hb := (sortBy_perm _).mem_iff.mp hb
  obtain ⟨la, sa, differ⟩ := near.key (State.mem_urgencyKeys.mp ha)
  obtain ⟨lb, sb, -⟩ := near.key (State.mem_urgencyKeys.mp hb)
  rw [weight ha, weight hb]
  exact lt_of_le_of_ne le (UrgencyKey.weight_ne la lb sa sb (differ _ _ (State.mem_urgencyKeys.mp hb) (Ne.symm ne)))

/-- With keys near their references a slot stands before another where its key comes before (05 R91). -/
theorem State.urgencyOrder_before (near : s.KeysNear) {i j : Nat} {x y : UrgencyKey} (hx : s.urgencyKey i = some x)
    (hy : s.urgencyKey j = some y) :
    s.urgencyOrder.idxOf i < s.urgencyOrder.idxOf j ↔ UrgencyKey.before s.dispatcher.mode x y = true := by
  have mem {k : Nat} {z : UrgencyKey} (hz : s.urgencyKey k = some z) : k ∈ s.urgencyOrder := by
    obtain ⟨q, hq, r, hr, -⟩ := State.urgencyKey_eq_some.mp hz
    rw [State.mem_urgencyOrder, Option.mem_def.mp hq, Option.mem_def.mp hr]
    exact ⟨nofun, nofun⟩
  obtain ⟨lx, sx, -⟩ := near.key hx
  obtain ⟨ly, sy, -⟩ := near.key hy
  rw [idxOf_lt_iff (State.urgencyOrder_ascends near) (mem hx) (mem hy), UrgencyKey.before_iff lx ly sx sy]
  unfold State.slotWeight
  rw [hx, hy]
  rfl

/-- The latest lift tick with its cases written out (05 R90). -/
theorem State.latestLift_eq (r : Rack) : s.latestLift r = if r.st = .immersed ∨ r.st = .due then
    (s.currentStep r).bind (fun st => if st.tolerance = 65535 then none else
      some ((if r.st = .immersed then s.tick + BitVec.ofNat 32 (s.remainingTicks r) else r.dueTick.getD s.tick) +
        BitVec.ofNat 32 st.tolerance))
    else none := by
  unfold State.latestLift
  have bath : r.inBath = true ↔ r.st = .immersed ∨ r.st = .due := by simp [Rack.inBath]
  refine if_congr bath ?_ rfl
  cases s.currentStep r <;> rfl

theorem compareLatest_cases {now : TickCount} {a b : Option TickCount} : nearLift now a → nearLift now b →
    compareLatest a b = match a, b with
      | some u, some v => compare (u - now).toInt (v - now).toInt
      | some _, none => .lt
      | none, some _ => .gt
      | none, none => .eq := by
  intro ha hb
  cases a with
  | none => cases b <;> rfl
  | some u =>
    cases b with
    | none => rfl
    | some v => exact compareLatest_near ha hb

theorem UrgencyKey.before_eq (mode : UrgencyMode) (a b : UrgencyKey) : UrgencyKey.before mode a b = true ↔
    (match mode with
      | .deadline => ((compareLatest a.latest b.latest).then (compareClass a.cls b.cls)).then (compareAge a.seq b.seq)
      | .byClass => ((compareClass a.cls b.cls).then (compareLatest a.latest b.latest)).then (compareAge a.seq b.seq)) =
        .lt := by
  cases mode <;> exact decide_eq_true_iff

/-! ### The order of the lookahead (05 R87) -/

/-- The slots of the lookahead, in the order their requests are created (05 R87). -/
def State.lookaheadSlots (s : State) : List Nat := (sortBy lookaheadBefore s.lookaheadRacks).map (fun x => x.2.2)

theorem State.lookahead_eq (s : State) : s.lookahead = s.lookaheadSlots.foldl State.createRequest s := rfl

theorem State.mem_lookaheadRacks {n : Nat} {q : Sequence} {k : Nat} : (n, q, k) ∈ s.lookaheadRacks ↔
    k < 24 ∧ s.requests.get k = none ∧ ∃ r ∈ s.racks.get k, r.st = .immersed ∧
      s.remainingTicks r ≤ s.dispatcher.lookahead ∧ n = s.remainingTicks r ∧ q = r.seq := by
  unfold State.lookaheadRacks
  rw [List.mem_filterMap]
  constructor
  · rintro ⟨j, hj, e⟩
    split at e
    · next r hr hq =>
      split at e
      · next fits =>
        obtain ⟨rfl, rfl, rfl⟩ : s.remainingTicks r = n ∧ r.seq = q ∧ j = k := by simpa using e
        exact ⟨List.mem_range.mp hj, hq, r, hr, fits.1, fits.2, rfl, rfl⟩
      · cases e
    · cases e
  · rintro ⟨hk, hq, r, hr, st, fits, rfl, rfl⟩
    refine ⟨k, List.mem_range.mpr hk, ?_⟩
    simp [Option.mem_def.mp hr, hq, st, fits]

theorem State.mem_lookaheadSlots {j : Nat} : j ∈ s.lookaheadSlots ↔ j < 24 ∧ s.requests.get j = none ∧
    ∃ u ∈ s.racks.get j, u.st = .immersed ∧ s.remainingTicks u ≤ s.dispatcher.lookahead := by
  unfold State.lookaheadSlots
  rw [((sortBy_perm s.lookaheadRacks).map _).mem_iff, List.mem_map]
  constructor
  · rintro ⟨⟨n, q, k⟩, mem, rfl⟩
    obtain ⟨hk, hq, r, hr, st, fits, -⟩ := State.mem_lookaheadRacks.mp mem
    exact ⟨hk, hq, r, hr, st, fits⟩
  · rintro ⟨hj, hq, r, hr, st, fits⟩
    exact ⟨(s.remainingTicks r, r.seq, j), State.mem_lookaheadRacks.mpr ⟨hj, hq, r, hr, st, fits, rfl, rfl⟩, rfl⟩

theorem State.lookaheadSlots_nodup (s : State) : s.lookaheadSlots.Nodup := by
  refine ((sortBy_perm s.lookaheadRacks).map _).nodup_iff.mpr ?_
  unfold State.lookaheadRacks
  rw [List.map_filterMap]
  refine List.Nodup.filterMap (fun i j k hi hj => ?_) List.nodup_range
  have slot {i : Nat} (h : k ∈ Option.map (fun x : Nat × Sequence × Nat => x.2.2)
      (match s.racks.get i, s.requests.get i with
        | some r, none =>
          if r.st = .immersed ∧ s.remainingTicks r ≤ s.dispatcher.lookahead then some (s.remainingTicks r, r.seq, i)
          else none
        | _, _ => none)) : i = k := by
    obtain ⟨x, e, rfl⟩ := Option.map_eq_some_iff.mp h
    split at e
    · split at e
      · obtain rfl := Option.some.inj e; rfl
      · cases e
    · cases e
  exact (slot hi).trans (slot hj).symm

/-- With sequences near the counter the lookahead creates requests by ascending remaining ticks, then age (05 R87). -/
theorem State.lookaheadSlots_ascends (near : ∀ i < 24, ∀ u ∈ s.racks.get i, (u.seq - s.seqCounter).toInt.natAbs < 2 ^ 30 ∧
      ∀ j < 24, j ≠ i → ∀ w ∈ s.racks.get j, w.seq ≠ u.seq) :
    s.lookaheadSlots.Pairwise (fun i j => ∀ u ∈ s.racks.get i, ∀ w ∈ s.racks.get j,
      s.remainingTicks u < s.remainingTicks w ∨
        (s.remainingTicks u = s.remainingTicks w ∧ 0 < (w.seq - u.seq).toInt)) := by
  have sorted := sortBy_ascends (before := lookaheadBefore) (l := s.lookaheadRacks)
    (fun x => (x.1 : Int) * 2 ^ 32 + (x.2.1 - s.seqCounter).toInt) (fun a ha b hb => by
      obtain ⟨n, q, k⟩ := a
      obtain ⟨m, p, j⟩ := b
      obtain ⟨hk, -, r, hr, -, -, rfl, rfl⟩ := State.mem_lookaheadRacks.mp ha
      obtain ⟨hj, -, w, hw, -, -, rfl, rfl⟩ := State.mem_lookaheadRacks.mp hb
      have nr := (near k hk r hr).1
      have nw := (near j hj w hw).1
      simp only [lookaheadBefore, older, Bool.or_eq_true, Bool.and_eq_true, decide_eq_true_eq, toInt_sub_near nr nw]
      omega)
  have apart := s.lookaheadSlots_nodup
  unfold State.lookaheadSlots at apart ⊢
  rw [List.nodup_iff_pairwise_ne, List.pairwise_map] at apart
  rw [List.pairwise_map]
  refine (sorted.and apart).imp_of_mem fun {a b} ha hb ⟨le, ne⟩ u hu w hw => ?_
  obtain ⟨n, q, k⟩ := a
  obtain ⟨m, p, j⟩ := b
  obtain ⟨hk, -, r, hr, -, -, rfl, rfl⟩ := State.mem_lookaheadRacks.mp ((sortBy_perm _).mem_iff.mp ha)
  obtain ⟨hj, -, x, hx, -, -, rfl, rfl⟩ := State.mem_lookaheadRacks.mp ((sortBy_perm _).mem_iff.mp hb)
  obtain rfl := Option.mem_unique hr hu
  obtain rfl := Option.mem_unique hx hw
  obtain ⟨nr, differ⟩ := near k hk r hr
  have nx := (near j hj x hx).1
  have age := age_ne (c := s.seqCounter) (differ j hj (Ne.symm ne) x hx)
  dsimp only at le
  rw [toInt_sub_near nr nx]
  omega

end Sys2Proof.Machine
end
section
/-! PROOFS. Keys, eligibility and the choice of a hoist (03 R64, 05 R90, R92 to R96, R98). -/

namespace Sys2Proof.Machine

variable {s t : State}

/-! ### Remaining ticks and order times (03 R64, 05 R90, R94) -/

/-- A quotient rounded up. -/
theorem ceil_div {need rate : Nat} (h : 0 < rate) :
    need ≤ ((need + (rate - 1)) / rate) * rate ∧ ∀ i < (need + (rate - 1)) / rate, i * rate < need := by
  have cut := Nat.div_add_mod (need + (rate - 1)) rate
  have rest := Nat.mod_lt (need + (rate - 1)) h
  rw [Nat.mul_comm rate] at cut
  refine ⟨by omega, fun i hi => ?_⟩
  have := Nat.mul_le_mul_right rate (Nat.succ_le_of_lt hi)
  rw [Nat.succ_mul] at this
  omega

theorem State.remainingTicks_ceil {r : Rack} {st : RecipeStep} (step : s.currentStep r = some st)
    (h : 0 < s.predictionFactor r st) :
    (r.target - r.acc) * 16 ≤ s.remainingTicks r * s.predictionFactor r st ∧
      ∀ i < s.remainingTicks r, i * s.predictionFactor r st < (r.target - r.acc) * 16 := by
  unfold State.remainingTicks
  simp only [step]
  exact ceil_div h

theorem State.predictedDue_eq (r : Rack) (q : Request) : s.predictedDue r q = match r.st with
    | .immersed => some (s.tick + BitVec.ofNat 32 (s.remainingTicks r))
    | .due => some (r.dueTick.getD s.tick)
    | .atLoad => some q.created
    | _ => none := by
  unfold State.predictedDue
  cases r.st <;> rfl

theorem State.orderTimeBy_unknown {h : Hoist} (r : Rack) (q : Request) (now : TickCount)
    (pos : (s.hoist h).position = none) : s.orderTimeBy h r q now = none := by
  simp only [State.orderTimeBy, pos]

theorem State.orderTimeBy_known {h : Hoist} (r : Rack) (q : Request) (now : TickCount) {p : Int}
    (pos : (s.hoist h).position = some p) : s.orderTimeBy h r q now = some (decide (r.st = .due ∨ r.st = .atLoad ∨
      (r.st = .immersed ∧ 0 ≤ (now - (s.tick + BitVec.ofNat 32 (s.remainingTicks r) -
        BitVec.ofNat 32 ((s.hoist h).travel p q.source + s.dispatcher.orderMargin))).toInt))) := by
  simp only [State.orderTimeBy, pos]
  refine congrArg some ?_
  cases hst : r.st <;> simp [Rack.readyToLift, hst, State.orderTime, State.predictedDue, later, tickDiff]

/-! ### Reach (05 R92) -/

theorem Span.covers_eq (sp : Span) (a b : Nat) : sp.covers a b = match sp with
    | .empty => false
    | .range lo hi => decide (lo ≤ a ∧ a ≤ hi ∧ lo ≤ b ∧ b ≤ hi) := by
  cases sp with
  | empty => rfl
  | range lo hi =>
    rw [Bool.eq_iff_iff]
    simp only [Span.covers, Span.holds, Bool.and_eq_true, decide_eq_true_eq]
    omega

theorem Hoist.eq_other_iff (g h : Hoist) : g = h.other ↔ g ≠ h := by cases g <;> cases h <;> decide

theorem State.effectiveSpan_eq (g : Hoist) : s.effectiveSpan g =
    if s.span.handover.stage ≠ .none ∧ g ≠ s.span.handover.taker then s.span.handover.narrowed else s.spanOf g :=
  if_congr (and_congr_right fun _ => Hoist.eq_other_iff g _) rfl rfl

/-- A move lies within a hoist's effective span (05 R92). -/
theorem State.within_eq (g : Hoist) (a b : Nat) : s.within g a b =
    match (if s.span.handover.stage ≠ .none ∧ g ≠ s.span.handover.taker then s.span.handover.narrowed else s.spanOf g) with
      | .empty => false
      | .range lo hi => decide (lo ≤ a ∧ a ≤ hi ∧ lo ≤ b ∧ b ≤ hi) := by
  rw [State.within, State.effectiveSpan_eq]
  exact Span.covers_eq _ a b

/-! ### Eligibility (05 R93, R95, R96, R100) -/

theorem State.nextCritical_eq (r : Rack) : s.nextCritical r =
    decide (r.stepIdx ≠ (s.recipes.get r.recipe).steps.length ∧
      (s.recipes.get r.recipe).steps[r.stepIdx]?.map (·.cls) = some StepClass.critical) := by
  unfold State.nextCritical State.stepCount State.recipeStep
  by_cases h : r.stepIdx = (s.recipes.get r.recipe).steps.length
  · simp [h]
  · cases e : (s.recipes.get r.recipe).steps[r.stepIdx]? <;> simp [h, e]

theorem State.markStands_eq (q : Request) (h : Hoist) : s.markStands q h = match q.mark h with
    | some e => decide (0 < (e - s.tick).toInt)
    | none => false := by
  unfold State.markStands
  cases q.mark h <;> rfl

theorem State.holdsBound_iff {h : Hoist} :
    s.holdsBound h = false ↔ ∀ j < 24, ∀ w ∈ s.requests.get j, w.st ≠ .bound h := by
  unfold State.holdsBound
  rw [Table.indices_eq, bne_eq_false_iff_eq, List.filter_eq_nil_iff]
  refine forall_congr' fun j => imp_congr List.mem_range ?_
  cases s.requests.get j <;> simp

theorem State.holdsBack_iff {h : Hoist} {job j : Nat} : s.holdsBack h job j = true ↔
    ∃ w ∈ s.requests.get j, ∃ u ∈ s.racks.get j, w.st = .ready ∧ w.cls = .critical ∧
      s.within h w.source (w.dest.getD 0) = true ∧ s.lineAllows u = true ∧ s.markStands w h = false ∧
      s.orderTimeBy h u w (later s.tick job) = some true := by
  unfold State.holdsBack
  cases s.requests.get j <;> cases s.racks.get j <;> simp [and_assoc]

theorem State.criticalHold_iff {h : Hoist} {k : Nat} {r : Rack} {q : Request} {p : Int}
    (pos : (s.hoist h).position = some p) : s.criticalHold h k r q = true ↔
      q.cls ≠ .critical ∧ ∃ j, j < 24 ∧ j ≠ k ∧ s.holdsBack h (s.jobEstimate h r q p) j = true := by
  unfold State.criticalHold
  simp only [pos, Table.indices_eq, Bool.and_eq_true, decide_eq_true_eq, List.any_eq_true, List.mem_filter, List.mem_range]
  refine and_congr_right fun _ => exists_congr fun j => ⟨fun ⟨⟨lt, _⟩, rest⟩ => ⟨lt, rest⟩, fun ⟨lt, ne, back⟩ =>
    ⟨⟨lt, ?_⟩, ne, back⟩⟩
  obtain ⟨w, hw, -⟩ := State.holdsBack_iff.mp back
  rw [Option.mem_def.mp hw]
  rfl

theorem State.canHandover_iff {h : Hoist} {a b : Nat} : s.canHandover h a b = true ↔
    s.within h a b = false ∧ s.span.handover.stage = .none ∧ (s.hoist h.other).st ≠ .fault ∧
      ¬((s.hoist h.other).st = .offline ∧ (s.hoist h.other).released = false) ∧
      ¬(((s.hoist h.other).st = .idle ∨ (s.hoist h.other).st = .busy) ∧ s.within h.other a b = true) := by
  unfold State.canHandover
  simp only [Bool.and_eq_true, Bool.not_eq_true', Bool.or_eq_false_iff, Bool.and_eq_false_iff, decide_eq_true_eq,
    decide_eq_false_iff_not, Bool.not_eq_false']
  generalize s.within h.other a b = reaches
  cases reaches <;> cases (s.hoist h.other).released <;> simp <;> tauto

/-- A request is eligible for a hoist whose position is known (05 R93, R95, R96, R100). -/
theorem State.eligible_iff {used : List Hoist} {h : Hoist} {k : Nat} {q : Request} {r : Rack} {p : Int}
    (hq : s.requests.get k = some q) (hr : s.racks.get k = some r) (pos : (s.hoist h).position = some p) :
    s.eligible used h k = true ↔ q.st = .ready ∧ (s.hoist h).st = .idle ∧
      (∀ j < 24, ∀ w ∈ s.requests.get j, w.st ≠ .bound h) ∧ h ∉ used ∧ s.lineAllows r = true ∧
      s.markStands q h = false ∧ s.orderTimeBy h r q s.tick = some true ∧
      (s.within h q.source (q.dest.getD 0) = true ∨ s.canHandover h q.source (q.dest.getD 0) = true) ∧
      ¬(q.cls ≠ .critical ∧ ∃ j, j < 24 ∧ j ≠ k ∧ s.holdsBack h (s.jobEstimate h r q p) j = true) := by
  rw [← State.criticalHold_iff pos, ← State.holdsBound_iff]
  simp only [State.eligible, hq, hr, Bool.and_eq_true, Bool.or_eq_true, decide_eq_true_eq, Bool.not_eq_true',
    decide_eq_false_iff_not, Bool.not_eq_true, and_assoc]

theorem State.eligible_unknown {used : List Hoist} {h : Hoist} (k : Nat) (pos : (s.hoist h).position = none) :
    s.eligible used h k = false := by
  unfold State.eligible
  split
  · simp [State.orderTimeBy_unknown _ _ _ pos]
  · rfl

/-- What a hoist must be for a request to be eligible for it. -/
theorem State.eligible_needs {used : List Hoist} {h : Hoist} {k : Nat} (e : s.eligible used h k = true) :
    ∃ q r, s.requests.get k = some q ∧ s.racks.get k = some r ∧ q.st = .ready ∧ (s.hoist h).st = .idle ∧ h ∉ used ∧
      (s.line.st = .run ∨ s.line.st = .hold) ∧
      (s.within h q.source (q.dest.getD 0) = true ∨ s.span.handover.stage = .none) := by
  cases pos : (s.hoist h).position with
  | none => rw [State.eligible_unknown k pos] at e; cases e
  | some p =>
    cases hq : s.requests.get k with
    | none => simp [State.eligible, hq] at e
    | some q =>
      cases hr : s.racks.get k with
      | none => simp [State.eligible, hq, hr] at e
      | some r =>
        obtain ⟨ready, idle, -, fresh, allowed, -, -, reach, -⟩ := (State.eligible_iff hq hr pos).mp e
        refine ⟨q, r, rfl, rfl, ready, idle, fresh, ?_, reach.imp id fun start => (State.canHandover_iff.mp start).2.1⟩
        simp only [State.lineAllows, Bool.or_eq_true, Bool.and_eq_true, decide_eq_true_eq] at allowed
        exact allowed.imp id And.left

/-! ### The choice between two hoists (05 R98) -/

theorem State.stationsAdded_a (a b : Nat) : s.stationsAdded .a a b =
    (max a b : Int) - (match s.span.spanA with | .empty => -1 | .range _ hi => (hi : Int)) := by
  unfold State.stationsAdded State.spanOf
  cases s.span.spanA
  · show (max a b : Int) + 1 = (max a b : Int) - -1; omega
  · rfl

theorem State.stationsAdded_b (a b : Nat) : s.stationsAdded .b a b =
    (match s.span.spanB with | .empty => 32 | .range lo _ => (lo : Int)) - (min a b : Int) := by
  unfold State.stationsAdded State.spanOf
  cases s.span.spanB <;> rfl

theorem State.chosenHoist_eq {used : List Hoist} {k : Nat} {q : Request} (hq : s.requests.get k = some q) :
    s.chosenHoist used k = match s.eligible used .a k, s.eligible used .b k with
      | false, false => none
      | true, false => some .a
      | false, true => some .b
      | true, true => some (s.preferred q.source (q.dest.getD 0)) := by
  unfold State.chosenHoist
  rw [hq]
  cases s.eligible used .a k <;> cases s.eligible used .b k <;> rfl

/-- The hoist chosen is eligible. -/
theorem State.chosenHoist_eligible {used : List Hoist} {h : Hoist} {k : Nat} (c : s.chosenHoist used k = some h) :
    s.eligible used h k = true := by
  unfold State.chosenHoist at c
  cases ea : s.eligible used .a k <;> cases eb : s.eligible used .b k <;> rw [ea, eb] at c
  · cases c
  · obtain rfl := Option.some.inj c; exact eb
  · obtain rfl := Option.some.inj c; exact ea
  · cases h <;> assumption

end Sys2Proof.Machine
end
section
/-! PROOFS. A request given to a hoist: as a move order, or through a handover (05 R98, 06 R112, 07 R136, R137,
R139). -/

namespace Sys2Proof.Machine

variable {s t u : State}

/-! ### A move order (06 R112) -/

/-- The order of R112 opened for the request of slot k, written out. -/
theorem State.openOrder_eq (h : Hoist) {k : Nat} {q : Request} {r : Rack} (hq : s.requests.get k = some q)
    (hr : s.racks.get k = some r) : s.openOrder h k =
      { s.setHoist h
          { s.hoist h with
            st := .busy, lastOrder := nextNumber (s.hoist h).lastOrder, timer := some (s.hoist h).timing.acceptTime
            suspended := decide (s.line.st = .halt)
            order := some (newOrder (nextNumber (s.hoist h).lastOrder) k q.source (s.drainOf r) (q.dest.getD 0)) } with
        requests := s.requests.set k (some { q with st := .ordered h })
        link := s.link.send h.channel
          (.move (nextNumber (s.hoist h).lastOrder) q.source (s.drainOf r) (q.dest.getD 0)) } := by
  simp only [State.openOrder, hq, hr]
  cases h <;> rfl

theorem State.giveRequest_within {h : Hoist} {k : Nat} {q : Request} (hq : s.requests.get k = some q)
    (within : s.within h q.source (q.dest.getD 0) = true) : s.giveRequest h k = s.openOrder h k := by
  simp only [State.giveRequest, hq, within, if_true]

theorem State.giveRequest_beyond {h : Hoist} {k : Nat} {q : Request} (hq : s.requests.get k = some q)
    (beyond : s.within h q.source (q.dest.getD 0) = false) : s.giveRequest h k = s.startHandover h k := by
  simp only [State.giveRequest, hq, beyond, Bool.false_eq_true, if_false]

/-! ### A handover (07 R136, R137, R139) -/

/-- The narrowed span of a victim, in natural numbers (07 R136). -/
theorem narrowedSpan_eq (h : Hoist) (gap a b : Nat) (old : Span) : narrowedSpan h gap a b old = match h, old with
    | _, .empty => Span.empty
    | .a, .range lo _ => if 31 < max lo (max a b + gap + 1) then Span.empty
      else Span.range (max lo (max a b + gap + 1)) 31
    | .b, .range _ hi => if min a b < gap + 1 then Span.empty else Span.range 0 (min hi (min a b - gap - 1)) := by
  cases h <;> cases old
  case a.empty => rfl
  case a.range => rfl
  case b.empty => rfl
  case b.range lo hi =>
    show (if min (hi : Int) ((min a b : Int) - gap - 1) < 0 then Span.empty
      else Span.range 0 (min (hi : Int) ((min a b : Int) - gap - 1)).toNat) =
      if min a b < gap + 1 then Span.empty else Span.range 0 (min hi (min a b - gap - 1))
    by_cases low : min a b < gap + 1
    · rw [if_pos low, if_pos (by omega)]
    · rw [if_neg low, if_neg (by omega)]
      congr 1
      omega

/-- Whether the open order of a hoist reaches outside a span (07 R137). -/
theorem HoistRec.ordersOutside_eq (x : HoistRec) (sp : Span) : x.ordersOutside sp = match x.order, sp with
    | none, _ => false
    | some _, .empty => true
    | some o, .range lo hi => !decide (lo ≤ o.source ∧ o.source ≤ hi ∧ lo ≤ o.dest ∧ o.dest ≤ hi) := by
  unfold HoistRec.ordersOutside
  cases x.order with
  | none => rfl
  | some o =>
    cases sp with
    | empty => rfl
    | range lo hi => exact congrArg Bool.not (Span.covers_eq (.range lo hi) o.source o.dest)

/-- The stage a handover starts in (07 R137). -/
def startStage (narrowed old : Span) (outside : Bool) : Stage :=
  if narrowed = old then .widening else if outside = true then .waiting else .shrinking

/-- What the start of a handover for the request q of slot k makes of s, with h as taker (05 R98, 07 R136, R137,
R139). -/
structure State.HandoverStarted (s t : State) (h : Hoist) (k : Nat) (q : Request) (narrowed : Span)
    (stage : Stage) : Prop where
  rest      : t = { s with requests := s.requests.set k (some { q with st := .bound h }), span := t.span, link := t.link }
  settings  : t.span.guardGap = s.span.guardGap ∧ t.span.split = s.span.split
  taker     : t.spanOf h = if stage = .widening then widenedSpan h q.source (q.dest.getD 0) else s.spanOf h
  victim    : t.spanOf h.other = if stage = .shrinking then narrowed else s.spanOf h.other
  record    : t.span.handover =
    (let party := if stage = .widening then h else h.other
     { stage := stage, taker := h, bound := some k, widened := widenedSpan h q.source (q.dest.getD 0)
       narrowed := narrowed, old := s.spanOf h.other
       awaited := if stage = .waiting then none else some (party, nextNumber (s.seqOf party))
       timer := if stage = .waiting then none else some (s.hoist party).timing.spanAck
       suspended := decide (stage ≠ .waiting ∧ s.line.st = .halt), withdrawn := false })
  link      : t.link =
    (let party := if stage = .widening then h else h.other
     if stage = .waiting then s.link
     else s.link.send party.channel ((t.spanOf party).message (nextNumber (s.seqOf party))))
  sequence  : (let party := if stage = .widening then h else h.other
    t.seqOf party = (if stage = .waiting then s.seqOf party else nextNumber (s.seqOf party)) ∧
    t.seqOf party.other = s.seqOf party.other)

/-- Hoist g is sent the span sp for the handover hv, and its acknowledgement is awaited (07 R132, R139). -/
def State.granted (v : State) (g : Hoist) (sp : Span) (hv : Handover) : State :=
  { ((v.setSpan g sp).setSeq g (nextNumber (v.seqOf g))).setHandover
      { hv with
        awaited := some (g, nextNumber (v.seqOf g)), timer := some (v.hoist g).timing.spanAck
        suspended := decide (v.line.st = .halt) } with
    link := v.link.send g.channel (sp.message (nextNumber (v.seqOf g))) }

/-- A party whose acknowledgement is not awaited yet is sent its recorded span. -/
theorem State.sendSpan_granted {v : State} {g : Hoist} (none : v.span.handover.awaited = Option.none) :
    (v.sendSpan g).awaitAck g = v.granted g (v.spanOf g) v.span.handover := by
  have awaited : ((v.setSeq g (nextNumber (v.seqOf g))).sendHoist g
      (.span (v.spanOf g).ends.1 (v.spanOf g).ends.2 (nextNumber (v.seqOf g)))).span.handover.awaited = Option.none := by
    rw [← none]; cases g <;> rfl
  unfold State.sendSpan
  dsimp only
  rw [awaited, Span.ends_message]
  cases g <;> rfl

theorem State.setSpan_granted (v : State) (g : Hoist) (sp : Span) {hv : Handover} (none : hv.awaited = Option.none) :
    (((v.setHandover hv).setSpan g sp).sendSpan g).awaitAck g = v.granted g sp hv := by
  rw [State.sendSpan_granted (by cases g <;> exact none)]
  cases g <;> rfl

theorem State.beginWidening_granted (v : State) : v.beginWidening =
    v.granted v.span.handover.taker v.span.handover.widened
      { v.span.handover with stage := .widening, awaited := none, timer := none } :=
  v.setSpan_granted _ _ rfl

theorem State.beginShrinking_granted (v : State) (none : v.span.handover.awaited = Option.none) : v.beginShrinking =
    v.granted v.span.handover.taker.other v.span.handover.narrowed { v.span.handover with stage := .shrinking } :=
  v.setSpan_granted _ _ none

/-- The request of slot k BOUND and the record of its handover, before a span is sent (05 R98, 07 R136). -/
def State.handoverOpened (s : State) (h : Hoist) (k : Nat) (q : Request) (narrowed : Span) : State :=
  (s.setRequest k (some { q with st := .bound h })).setHandover
    (startRecord h k (widenedSpan h q.source (q.dest.getD 0)) narrowed (s.spanOf h.other))

theorem State.startHandover_eq {h : Hoist} {k : Nat} {q : Request} (hq : s.requests.get k = some q)
    {narrowed : Span} (hn : narrowedSpan h s.span.guardGap q.source (q.dest.getD 0) (s.spanOf h.other) = narrowed) :
    s.startHandover h k =
      if narrowed = s.spanOf h.other then (s.handoverOpened h k q narrowed).beginWidening
      else if (s.hoist h.other).ordersOutside narrowed then s.handoverOpened h k q narrowed
      else (s.handoverOpened h k q narrowed).beginShrinking := by
  simp only [State.startHandover, hq, hn]
  rfl

/-- What s becomes when the request q of slot k is BOUND and hoist g is sent the span sp for the handover hv. -/
structure State.Granted (s t : State) (h : Hoist) (k : Nat) (q : Request) (g : Hoist) (sp : Span) (hv : Handover) :
    Prop where
  rest     : t = { s with requests := s.requests.set k (some { q with st := .bound h }), span := t.span, link := t.link }
  settings : t.span.guardGap = s.span.guardGap ∧ t.span.split = s.span.split
  own      : t.spanOf g = sp
  other    : t.spanOf g.other = s.spanOf g.other
  record   : t.span.handover = { hv with
    awaited := some (g, nextNumber (s.seqOf g)), timer := some (s.hoist g).timing.spanAck
    suspended := decide (s.line.st = .halt) }
  link     : t.link = s.link.send g.channel (sp.message (nextNumber (s.seqOf g)))
  sequence : t.seqOf g = nextNumber (s.seqOf g) ∧ t.seqOf g.other = s.seqOf g.other

theorem State.granted_spanOf (v : State) (g : Hoist) (sp : Span) (hv : Handover) :
    (v.granted g sp hv).spanOf g = sp ∧ (v.granted g sp hv).spanOf g.other = v.spanOf g.other ∧
      (v.granted g sp hv).seqOf g = nextNumber (v.seqOf g) ∧ (v.granted g sp hv).seqOf g.other = v.seqOf g.other ∧
      (v.granted g sp hv).span.guardGap = v.span.guardGap ∧ (v.granted g sp hv).span.split = v.span.split := by
  cases g <;> exact ⟨rfl, rfl, rfl, rfl, rfl, rfl⟩

theorem State.granted_rest (v : State) (g : Hoist) (sp : Span) (hv : Handover) :
    v.granted g sp hv = { v with span := (v.granted g sp hv).span, link := (v.granted g sp hv).link } := by
  cases g <;> rfl

theorem State.handoverOpened_same (h : Hoist) (k : Nat) (q : Request) (narrowed : Span) (g : Hoist) :
    (s.handoverOpened h k q narrowed).spanOf g = s.spanOf g ∧ (s.handoverOpened h k q narrowed).seqOf g = s.seqOf g ∧
      (s.handoverOpened h k q narrowed).hoist g = s.hoist g := by cases g <;> exact ⟨rfl, rfl, rfl⟩

theorem State.handoverOpened_granted (h : Hoist) (k : Nat) (q : Request) (narrowed : Span) (g : Hoist) (sp : Span)
    (hv : Handover) : s.Granted ((s.handoverOpened h k q narrowed).granted g sp hv) h k q g sp hv := by
  obtain ⟨own, other, seq, seqOther, gap, split⟩ := (s.handoverOpened h k q narrowed).granted_spanOf g sp hv
  have rest := (s.handoverOpened h k q narrowed).granted_rest g sp hv
  obtain ⟨-, seq₀, hoist₀⟩ := State.handoverOpened_same (s := s) h k q narrowed g
  obtain ⟨span₁, seq₁, -⟩ := State.handoverOpened_same (s := s) h k q narrowed g.other
  refine ⟨rest, ⟨gap, split⟩, own, other.trans span₁, ?_, ?_, seq.trans (by rw [seq₀]), seqOther.trans seq₁⟩
  · rw [← seq₀, ← hoist₀]; rfl
  · rw [← seq₀]; rfl

/-- A handover that narrows nothing starts with WIDENING (07 R137). -/
theorem State.Granted.widening {h : Hoist} {k : Nat} {q : Request} {narrowed : Span} {hv : Handover}
    (record : hv = { startRecord h k (widenedSpan h q.source (q.dest.getD 0)) narrowed (s.spanOf h.other) with
      stage := .widening })
    (g : s.Granted t h k q h (widenedSpan h q.source (q.dest.getD 0)) hv) :
    s.HandoverStarted t h k q narrowed .widening := by
  subst record
  refine ⟨g.rest, g.settings, g.own, g.other, g.record.trans ?_, g.link.trans ?_, g.sequence⟩
  · simp [startRecord]
  · simp [g.own]

/-- A handover whose victim has nothing outside the narrowed span starts with SHRINKING (07 R137). -/
theorem State.Granted.shrinking {h : Hoist} {k : Nat} {q : Request} {narrowed : Span} {hv : Handover}
    (record : hv = { startRecord h k (widenedSpan h q.source (q.dest.getD 0)) narrowed (s.spanOf h.other) with
      stage := .shrinking })
    (g : s.Granted t h k q h.other narrowed hv) : s.HandoverStarted t h k q narrowed .shrinking := by
  subst record
  have other := g.other
  rw [Hoist_other_other] at other
  refine ⟨g.rest, g.settings, other, g.own, g.record.trans ?_, g.link.trans ?_, g.sequence⟩
  · simp [startRecord]
  · simp [g.own]

theorem State.startHandover_started {h : Hoist} {k : Nat} {q : Request} (hq : s.requests.get k = some q)
    {narrowed : Span} (hn : narrowedSpan h s.span.guardGap q.source (q.dest.getD 0) (s.spanOf h.other) = narrowed) :
    s.HandoverStarted (s.startHandover h k) h k q narrowed
      (startStage narrowed (s.spanOf h.other) ((s.hoist h.other).ordersOutside narrowed)) := by
  rw [State.startHandover_eq hq hn]
  unfold startStage
  by_cases same : narrowed = s.spanOf h.other
  · rw [if_pos same, if_pos same]
    rw [State.beginWidening_granted]
    exact (State.handoverOpened_granted h k q narrowed h _ _).widening rfl
  · rw [if_neg same, if_neg same]
    by_cases outside : (s.hoist h.other).ordersOutside narrowed = true
    · rw [if_pos outside, if_pos outside]
      exact ⟨rfl, ⟨rfl, rfl⟩, rfl, rfl, rfl, rfl, ⟨rfl, rfl⟩⟩
    · rw [if_neg outside, if_neg outside]
      rw [State.beginShrinking_granted _ rfl]
      exact (State.handoverOpened_granted h k q narrowed h.other narrowed _).shrinking rfl

end Sys2Proof.Machine
end
section
/-! PROOFS. The walk of a dispatch pass over the urgency order (05 R97, R98). -/

namespace Sys2Proof.Machine

variable {s t u : State}

/-! ### One giving (05 R93, R98) -/

/-- The record of a hoist h that has the order o opened (06 R112, R113). -/
def HoistRec.opened (x : HoistRec) (o : Order) (halted : Bool) : HoistRec :=
  { x with
    st := .busy, lastOrder := o.number, timer := some x.timing.acceptTime, suspended := halted, order := some o }

/-- What the giving of the request of slot k to hoist h leaves, from s to t (05 R93, R98). -/
structure State.Given (s t : State) (h : Hoist) (k : Nat) : Prop where
  request : ∃ q x, s.requests.get k = some q ∧ q.st = .ready ∧ x ≠ .ready ∧
    t.requests = s.requests.set k (some { q with st := x })
  other   : t.hoist h.other = s.hoist h.other
  own     : t.hoist h = s.hoist h ∨ ∃ o, o.number = nextNumber (s.hoist h).lastOrder ∧ o.phase = .sent ∧
    (t.requests.get o.slot).map (·.st) = some (.ordered h) ∧ t.hoist h = (s.hoist h).opened o false
  idle    : (s.hoist h).st = .idle
  line    : s.line.st = .run ∨ s.line.st = .hold
  span    : s.span.handover.stage ≠ .none → t.span = s.span
  link    : t.link = s.link ∨ ∃ g : Hoist, ∃ m, t.link = s.link.send g.channel m
  rest    : t = { s with
    requests := t.requests, hoistA := t.hoistA, hoistB := t.hoistB, span := t.span, link := t.link }

theorem State.openOrder_given {h : Hoist} {k : Nat} {q : Request} {r : Rack} (hq : s.requests.get k = some q)
    (hr : s.racks.get k = some r) (ready : q.st = .ready) (idle : (s.hoist h).st = .idle)
    (line : s.line.st = .run ∨ s.line.st = .hold) : s.Given (s.openOrder h k) h k := by
  have live : decide (s.line.st = .halt) = false := by obtain l | l := line <;> rw [l] <;> rfl
  have here : (s.requests.set k (some { q with st := .ordered h })).get k = some { q with st := .ordered h } :=
    Table.get_set_self _ (Table.lt_of_get_some hq) _
  rw [State.openOrder_eq h hq hr, live]
  refine ⟨⟨q, .ordered h, hq, ready, nofun, rfl⟩, by cases h <;> rfl,
    .inr ⟨newOrder (nextNumber (s.hoist h).lastOrder) k q.source (s.drainOf r) (q.dest.getD 0), rfl, rfl, ?_, ?_⟩, idle,
    line, fun _ => by cases h <;> rfl, .inr ⟨h, _, rfl⟩, by cases h <;> rfl⟩
  · exact congrArg (Option.map (·.st)) here
  · cases h <;> rfl

theorem State.startHandover_given {h : Hoist} {k : Nat} {q : Request} (hq : s.requests.get k = some q)
    (ready : q.st = .ready) (idle : (s.hoist h).st = .idle) (line : s.line.st = .run ∨ s.line.st = .hold)
    (free : s.span.handover.stage = .none) : s.Given (s.startHandover h k) h k := by
  have started := State.startHandover_started (h := h) hq rfl
  generalize s.startHandover h k = t at *
  have rest := started.rest
  have hoist (g : Hoist) : t.hoist g = s.hoist g := by rw [rest]; cases g <;> rfl
  refine ⟨⟨q, .bound h, hq, ready, nofun, by rw [rest]⟩, hoist _, .inl (hoist h), idle, line, fun busy => absurd free busy,
    ?_, by rw [rest]⟩
  have link := started.link
  dsimp only at link
  split at link
  · exact .inl link
  · exact .inr ⟨_, _, link⟩

/-- An eligible request is given (05 R98). -/
theorem State.giveRequest_given {used : List Hoist} {h : Hoist} {k : Nat} (e : s.eligible used h k = true) :
    s.Given (s.giveRequest h k) h k ∧ h ∉ used := by
  obtain ⟨q, r, hq, hr, ready, idle, fresh, line, reach⟩ := State.eligible_needs e
  refine ⟨?_, fresh⟩
  cases within : s.within h q.source (q.dest.getD 0) with
  | true => rw [State.giveRequest_within hq within]; exact State.openOrder_given hq hr ready idle line
  | false =>
    rw [State.giveRequest_beyond hq within]
    exact State.startHandover_given hq ready idle line (reach.resolve_left (by rw [within]; decide))

/-! ### The walk (05 R97) -/

theorem State.walk_nil (s : State) (used : List Hoist) : s.walk used [] = s := rfl

theorem State.walk_cons (s : State) (used : List Hoist) (k : Nat) (rest : List Nat) : s.walk used (k :: rest) =
    match s.chosenHoist used k with
    | none => s.walk used rest
    | some g => (s.giveRequest g k).walk (g :: used) rest := by
  rw [State.walk]
  cases s.chosenHoist used k <;> rfl

theorem State.walk_passes {used : List Hoist} {l : List Nat} (h : ∀ j ∈ l, s.chosenHoist used j = none)
    (post : List Nat) : s.walk used (l ++ post) = s.walk used post := by
  induction l with
  | nil => rfl
  | cons k l ih =>
    rw [List.cons_append, State.walk_cons, h k List.mem_cons_self]
    exact ih fun j hj => h j (List.mem_cons_of_mem k hj)

/-- What every giving of a walk keeps, the walk keeps (05 R97). -/
theorem State.walk_keeps {P : List Hoist → State → Prop}
    (step : ∀ used s h k, h ∉ used → s.Given (s.giveRequest h k) h k → P used s → P (h :: used) (s.giveRequest h k))
    {used : List Hoist} (l : List Nat) (hs : P used s) : ∃ used', P used' (s.walk used l) := by
  induction l generalizing s used with
  | nil => exact ⟨used, hs⟩
  | cons k l ih =>
    rw [State.walk_cons]
    cases c : s.chosenHoist used k with
    | none => exact ih hs
    | some h =>
      obtain ⟨given, fresh⟩ := State.giveRequest_given (State.chosenHoist_eligible c)
      exact ih (step used s h k fresh given hs)

/-- A message queued on a hoist's channel leaves the others alone and what is queued in place (11 R192). -/
theorem Link.send_queued (l : Link) (g : Hoist) (m : OutMsg) (c : Nat) :
    ∃ more, ((l.send g.channel m).channels.get c).queue.map (·.msg) = (l.channels.get c).queue.map (·.msg) ++ more := by
  by_cases same : g.channel = c
  · subst same
    unfold Link.send
    split
    · refine ⟨[m], ?_⟩
      simp [Link.push, Table.modify, Table.get_set_self _ (show g.channel < 4 by cases g <;> decide)]
    · refine ⟨[], ?_⟩
      simp [Link.lose, Link.count, Table.modify, Table.get_set_self _ (show g.channel < 4 by cases g <;> decide)]
  · exact ⟨[], by rw [l.send_get_ne same m, List.append_nil]⟩

/-- What a walk leaves of s in t, with the hoists used in it (05 R93, R97, R98). -/
structure State.Walked (s t : State) (used : List Hoist) : Prop where
  request : ∀ k q, s.requests.get k = some q → ∃ p, t.requests.get k = some p ∧
    { p with st := q.st } = q ∧ (q.st ≠ .ready → p.st = q.st)
  unused  : ∀ h, h ∉ used → t.hoist h = s.hoist h
  hoist   : ∀ h, t.hoist h = s.hoist h ∨ ((s.hoist h).st = .idle ∧ ∃ o, o.number = nextNumber (s.hoist h).lastOrder ∧
    o.phase = .sent ∧ (t.requests.get o.slot).map (·.st) = some (.ordered h) ∧ t.hoist h = (s.hoist h).opened o false)
  stopped : s.line.st = .standby ∨ s.line.st = .halt → t.span = s.span ∧ ∀ h, t.hoist h = s.hoist h
  orders  : t.link.channels.get 3 = s.link.channels.get 3 ∧ t.link.dropped = s.link.dropped
  rest    : t = { s with
    requests := t.requests, hoistA := t.hoistA, hoistB := t.hoistB, span := t.span, link := t.link }

theorem State.Given.link_orders {h : Hoist} {k : Nat} (g : s.Given t h k) :
    t.link.channels.get 3 = s.link.channels.get 3 ∧ t.link.dropped = s.link.dropped := by
  obtain e | ⟨g', m, e⟩ := g.link
  · rw [e]; exact ⟨rfl, rfl⟩
  · rw [e]
    exact ⟨s.link.send_get_ne (by cases g' <;> decide) m, s.link.send_dropped _ m⟩

/-- A request that a giving writes was READY, and it is READY no more. -/
theorem State.Given.requests {h : Hoist} {k : Nat} (g : s.Given t h k) (j : Nat) :
    t.requests.get j = s.requests.get j ∨ ∃ q x, s.requests.get j = some q ∧ q.st = .ready ∧ x ≠ .ready ∧
      t.requests.get j = some { q with st := x } := by
  obtain ⟨q, x, hq, ready, taken, e⟩ := g.request
  rw [e]
  by_cases same : k = j
  · subst same
    exact .inr ⟨q, x, hq, ready, taken, Table.get_set_self _ (Table.lt_of_get_some hq) _⟩
  · exact .inl (Table.get_set_ne _ same _)

theorem State.Given.kept {h : Hoist} {k j : Nat} {q : Request} (g : s.Given t h k) (hq : s.requests.get j = some q)
    (taken : q.st ≠ .ready) : t.requests.get j = some q := by
  obtain e | ⟨p, x, hp, ready, -⟩ := g.requests j
  · exact e.trans hq
  · rw [hq] at hp
    obtain rfl := Option.some.inj hp
    exact absurd ready taken

theorem State.Walked.refl (s : State) (used : List Hoist) : s.Walked s used :=
  ⟨fun _ q hq => ⟨q, hq, rfl, fun _ => rfl⟩, fun _ _ => rfl, fun _ => .inl rfl, fun _ => ⟨rfl, fun _ => rfl⟩, ⟨rfl, rfl⟩,
    rfl⟩

theorem State.Walked.given {used : List Hoist} {h : Hoist} {k : Nat} (w : s.Walked t used) (fresh : h ∉ used)
    (g : t.Given u h k) : s.Walked u (h :: used) := by
  have own := w.unused h fresh
  have line : t.line = s.line := by rw [w.rest]
  constructor
  case request =>
    intro j q hq
    obtain ⟨p, hp, form, kept⟩ := w.request j q hq
    obtain e | ⟨p', x, hp', ready, -, e⟩ := g.requests j
    · exact ⟨p, e.trans hp, form, kept⟩
    · rw [hp] at hp'
      obtain rfl := Option.some.inj hp'
      refine ⟨_, e, form, fun taken => absurd ?_ taken⟩
      by_contra not
      exact not ((kept not).symm.trans ready)
  case unused =>
    intro j hj
    obtain ⟨ne, hj⟩ := not_or.mp (mt List.mem_cons.mpr hj)
    have : j = h.other := (Hoist.eq_other_iff j h).mpr ne
    rw [this, g.other, ← this]
    exact w.unused j hj
  case hoist =>
    intro j
    by_cases same : j = h
    · subst same
      obtain e | ⟨o, number, phase, ordered, e⟩ := g.own
      · exact .inl (e.trans own)
      · rw [own] at number e
        exact .inr ⟨own ▸ g.idle, o, number, phase, ordered, e⟩
    · have other : j = h.other := (Hoist.eq_other_iff j h).mpr same
      have e : u.hoist j = t.hoist j := by rw [other]; exact g.other
      rw [e]
      obtain e' | ⟨idle, o, number, phase, ordered, e'⟩ := w.hoist j
      · exact .inl e'
      · refine .inr ⟨idle, o, number, phase, ?_, e'⟩
        obtain ⟨q, hq, st⟩ := Option.map_eq_some_iff.mp ordered
        rw [g.kept hq (by rw [st]; nofun)]
        exact congrArg some st
  case stopped =>
    intro stop
    have live := g.line
    rw [line] at live
    obtain a | a := stop <;> rw [a] at live <;> obtain b | b := live <;> cases b
  case orders => exact ⟨g.link_orders.1.trans w.orders.1, g.link_orders.2.trans w.orders.2⟩
  case rest =>
    have rest := g.rest
    rw [w.rest] at rest
    exact rest

theorem State.walk_walked (s : State) (l : List Nat) : ∃ used, s.Walked (s.walk [] l) used :=
  State.walk_keeps (P := fun used t => s.Walked t used) (fun _ _ _ _ fresh g w => w.given fresh g) l (.refl s [])

/-! ### The first giving of a walk, and what the rest of it keeps (05 R97, R98) -/

/-- What the rest of a walk keeps of the giving of the request of slot k to hoist h. -/
structure State.GivingKept (s t : State) (h : Hoist) (k : Nat) (used : List Hoist) : Prop where
  used    : h ∈ used
  request : t.requests.get k = s.requests.get k
  hoist   : t.hoist h = s.hoist h
  queue   : ∀ c, ∃ more, t.queued c = s.queued c ++ more
  span    : s.span.handover.stage ≠ .none → t.span = s.span

theorem State.GivingKept.given {used : List Hoist} {h g : Hoist} {j k : Nat} {q : Request}
    (w : s.GivingKept t h k used) (hq : s.requests.get k = some q) (taken : q.st ≠ .ready) (fresh : g ∉ used)
    (e : t.Given u g j) : s.GivingKept u h k (g :: used) := by
  have other : h = g.other := (Hoist.eq_other_iff h g).mpr fun same => fresh (same ▸ w.used)
  refine ⟨List.mem_cons_of_mem _ w.used, ?_, ?_, fun c => ?_, fun busy => ?_⟩
  · rw [e.kept (w.request.trans hq) taken, hq]
  · rw [other, e.other, ← other]; exact w.hoist
  · obtain ⟨more, hm⟩ := w.queue c
    obtain same | ⟨g', m, sent⟩ := e.link
    · exact ⟨more, by unfold State.queued at hm ⊢; rw [same]; exact hm⟩
    · obtain ⟨last, hl⟩ := t.link.send_queued g' m c
      refine ⟨more ++ last, ?_⟩
      unfold State.queued at hm ⊢
      rw [sent, hl, hm, List.append_assoc]
  · have same := w.span busy
    exact (e.span (by rw [same]; exact busy)).trans same

/-- After a giving the rest of the walk keeps it. -/
theorem State.walk_givingKept {h : Hoist} {k : Nat} {q : Request} (hq : s.requests.get k = some q)
    (taken : q.st ≠ .ready) (l : List Nat) : ∃ used, s.GivingKept (s.walk [h] l) h k used :=
  State.walk_keeps (P := fun used t => s.GivingKept t h k used) (fun _ _ _ _ fresh g w => w.given hq taken fresh g) l
    ⟨List.mem_singleton.mpr rfl, rfl, rfl, fun _ => ⟨[], by rw [List.append_nil]⟩, fun _ => rfl⟩

end Sys2Proof.Machine
end
section
/-! PROOFS. The parts of a dispatch pass before its walk: the crossings of the line margin with the retest they lead to,
the lapsed marks and the lookahead requests (05 R87, R97, R100, R104). -/

namespace Sys2Proof.Machine

variable {s t u w : State}

/-! ### A retest reads nothing of the link, and of the dispatcher the admit margin only (02 R30, R40) -/

/-- From s to t all but the dispatcher and the link is the same, and so is the admit margin. -/
structure State.Alike (s t : State) : Prop where
  margin : t.dispatcher.admitMargin = s.dispatcher.admitMargin
  rest   : t = { s with dispatcher := t.dispatcher, link := t.link }

theorem State.chooseDestination_with (s : State) (d : Dispatcher) (l : Link) (k : Nat) :
    { s with dispatcher := d, link := l }.chooseDestination k =
      { s.chooseDestination k with dispatcher := d, link := l } := by
  obtain ⟨none, e⟩ | ⟨q, r, hq, hr, ⟨far, e⟩ | ⟨n, near, e⟩⟩ := s.chooseDestination_cases k
  · rw [e]
    obtain none | none := none <;> simp [State.chooseDestination, none]
  · rw [e]
    have far : { s with dispatcher := d, link := l }.nearestFree
      ({ s with dispatcher := d, link := l }.wanted r) q.source = Option.none := far
    simp only [State.chooseDestination, hq, hr, far]
    rfl
  · rw [e]
    have near : { s with dispatcher := d, link := l }.nearestFree
      ({ s with dispatcher := d, link := l }.wanted r) q.source = some n := near
    simp only [State.chooseDestination, hq, hr, near]
    rfl

theorem State.createRequest_with (s : State) (d : Dispatcher) (l : Link) (k : Nat) :
    { s with dispatcher := d, link := l }.createRequest k = { s.createRequest k with dispatcher := d, link := l } := by
  cases hr : s.racks.get k with
  | none => rw [State.createRequest_none hr]; exact State.createRequest_none hr
  | some r =>
    rw [State.createRequest_eq hr]
    exact (State.createRequest_eq (s := { s with dispatcher := d, link := l }) hr).trans
      (State.chooseDestination_with (s.setRequest k (some (s.freshRequest r))) d l k)

theorem State.placeAdmitted_with (s : State) (d : Dispatcher) (l : Link) (e : QueueEntry) (k : Nat) :
    { s with dispatcher := d, link := l }.placeAdmitted e k = { s.placeAdmitted e k with
      dispatcher := { d with passesOwed := d.passesOwed + 1 }, link := l } := by
  rw [State.placeAdmitted_eq, State.placeAdmitted_eq]
  exact congrArg State.triggerPass (State.createRequest_with (s.seatEntry e k) d l k)

namespace State.Alike

theorem admitHead (h : s.Alike t) (e : QueueEntry) (rest : List QueueEntry) (k : Nat) :
    (s.admitHead e rest k).Alike (t.admitHead e rest k) ∧
      (t.link = s.link → (t.admitHead e rest k).link = (s.admitHead e rest k).link) := by
  obtain ⟨margin, alike⟩ := h
  generalize t.dispatcher = d at *
  generalize t.link = l at *
  subst alike
  have placed := State.placeAdmitted_with { s with queue := rest } d l e k
  have same : ({ s with queue := rest }.placeAdmitted e k).link = s.link := State.placeAdmitted_link _ e k
  have passes : ({ s with queue := rest }.placeAdmitted e k).dispatcher.admitMargin = s.dispatcher.admitMargin := by
    rw [State.placeAdmitted_eq]
    show (State.createRequest _ k).dispatcher.admitMargin = _
    rw [State.createRequest_dispatcher]
    rfl
  unfold State.admitHead
  show (State.noticeAdmitted _ k).Alike
      (State.noticeAdmitted ({ s with queue := rest, dispatcher := d, link := l }.placeAdmitted e k) k) ∧
    (l = s.link →
      (State.noticeAdmitted ({ s with queue := rest, dispatcher := d, link := l }.placeAdmitted e k) k).link = _)
  rw [placed]
  generalize { s with queue := rest }.placeAdmitted e k = v at *
  unfold State.noticeAdmitted
  dsimp only
  cases v.racks.get k with
  | none => exact ⟨⟨margin.trans passes.symm, rfl⟩, fun e => e.trans same.symm⟩
  | some r =>
    refine ⟨⟨margin.trans passes.symm, rfl⟩, fun e => ?_⟩
    subst e
    exact congrArg (Link.notify · _) same.symm

theorem retestFrom (h : s.Alike t) (n : Nat) : (s.retestFrom n).Alike (t.retestFrom n) ∧
    (t.link = s.link → (t.retestFrom n).link = (s.retestFrom n).link) := by
  induction n generalizing s t with
  | zero => exact ⟨h, id⟩
  | succ n ih =>
    have queue : t.queue = s.queue := by rw [h.rest]
    cases hq : s.queue with
    | nil =>
      rw [State.retestFrom_nil hq, State.retestFrom_nil (queue.trans hq)]
      exact ⟨h, id⟩
    | cons e rest =>
      have test : t.admissionTest e = s.admissionTest e := by
        have margin := h.margin
        have alike := h.rest
        generalize t.dispatcher = d at *
        generalize t.link = l at *
        subst alike
        have allows : { s with dispatcher := d, link := l }.marginAllows = s.marginAllows := by
          unfold State.marginAllows
          rw [margin]
          rfl
        unfold State.admissionTest
        rw [allows]
        rfl
      cases ht : s.admissionTest e with
      | false =>
        rw [State.retestFrom_fails hq ht, State.retestFrom_fails (queue.trans hq) (test.trans ht)]
        exact ⟨h, id⟩
      | true =>
        obtain ⟨k, hk⟩ := State.freeSlot_of_test ht
        have free : t.freeSlot = some k := by rw [h.rest]; exact hk
        rw [State.retestFrom_admits hq ht hk, State.retestFrom_admits (queue.trans hq) (test.trans ht) free]
        obtain ⟨alike, link⟩ := h.admitHead e rest k
        obtain ⟨alike', link'⟩ := ih alike
        exact ⟨alike', fun same => link' (link same)⟩

theorem retestHead (h : s.Alike t) :
    s.retestHead.Alike t.retestHead ∧ (t.link = s.link → t.retestHead.link = s.retestHead.link) := by
  have queue : t.queue = s.queue := by rw [h.rest]
  unfold State.retestHead
  rw [queue]
  exact h.retestFrom _

end State.Alike

/-! ### The margin notice state and the admit side (05 R104) -/

/-- What the crossing of the margin notice state makes of s: the state of the notice by the two marks, with MARGIN LOW or
CLEAR where it changes (05 R104). -/
structure State.NoticeCrossed (s t : State) (m : Option (Int × Nat)) : Prop where
  rest      : t = { s with dispatcher := { s.dispatcher with notice := t.dispatcher.notice }, link := t.link }
  same      : t.dispatcher.notice = s.dispatcher.notice → t.link = s.link
  low       : ∀ x ∈ m, s.dispatcher.notice = .clear → x.1 < (s.dispatcher.lowMark : Int) →
    t.Noticed (.marginLow x.1 (((s.racks.get x.2).map (·.id)).getD 0) x.2)
  clear     : s.dispatcher.notice = .low →
    (∀ x ∈ m, (s.dispatcher.lowMark : Int) + s.dispatcher.hysteresis ≤ x.1) → t.Noticed (.marginClear (m.map (·.1)))
  unbounded : m = none → t.dispatcher.notice = .clear
  bounded   : ∀ x ∈ m, t.dispatcher.notice =
    if x.1 < (s.dispatcher.lowMark : Int) then .low
    else if (s.dispatcher.lowMark : Int) + s.dispatcher.hysteresis ≤ x.1 then .clear else s.dispatcher.notice

theorem State.crossNotice_crossed (s : State) (m : Option (Int × Nat)) : s.NoticeCrossed (s.crossNotice m) m := by
  unfold State.crossNotice
  dsimp only
  cases hn : s.dispatcher.notice with
  | clear =>
    have notLow {P : Prop} (e : s.dispatcher.notice = .low) : P := nomatch hn.symm.trans e
    cases m with
    | none => exact ⟨rfl, fun _ => rfl, nofun, notLow, fun _ => hn, nofun⟩
    | some x =>
      obtain ⟨x, k⟩ := x
      dsimp only
      by_cases low : x < (s.dispatcher.lowMark : Int)
      · rw [if_pos low]
        refine ⟨rfl, fun e => notLow e.symm, ?_, notLow, nofun, ?_⟩
        · rintro _ ⟨⟩ - -
          dsimp only
          cases s.racks.get k <;> exact State.noticed_notify _ _
        · rintro _ ⟨⟩
          exact (if_pos low).symm
      · rw [if_neg low]
        refine ⟨rfl, fun _ => rfl, ?_, notLow, nofun, ?_⟩
        · rintro _ ⟨⟩ - lower
          exact absurd lower low
        · rintro _ ⟨⟩
          rw [if_neg low, hn, ite_self]
  | low =>
    have notClear {P : Prop} (e : s.dispatcher.notice = .clear) : P := nomatch hn.symm.trans e
    cases m with
    | none => exact ⟨rfl, fun e => notClear e.symm, nofun, fun _ _ => State.noticed_notify _ _, fun _ => rfl, nofun⟩
    | some x =>
      obtain ⟨x, k⟩ := x
      dsimp only
      by_cases high : (s.dispatcher.lowMark : Int) + s.dispatcher.hysteresis ≤ x
      · rw [if_pos high]
        refine ⟨rfl, fun e => notClear e.symm, fun _ _ => notClear, fun _ _ => State.noticed_notify _ _, nofun, ?_⟩
        rintro _ ⟨⟩
        rw [if_neg (by dsimp only; omega), if_pos high]
        rfl
      · rw [if_neg high]
        refine ⟨rfl, fun _ => rfl, fun _ _ => notClear, fun _ bound => absurd (bound _ rfl) high, nofun, ?_⟩
        rintro _ ⟨⟩
        rw [if_neg high, hn, ite_self]

/-- The line margin is back at the admit margin or past it, which retests the queue (05 R104). -/
def Dispatcher.rises (d : Dispatcher) (m : Option (Int × Nat)) : Bool :=
  decide (d.side = .below) && m.all (fun x => decide ((d.admitMargin : Int) ≤ x.1))

/-- The admit side a line margin leaves (05 R104). -/
def Dispatcher.sideAfter (d : Dispatcher) : Option (Int × Nat) → AdmitSide
  | none => .above
  | some x => if x.1 < (d.admitMargin : Int) then .below else .above

theorem State.crossAdmit_eq (s : State) (m : Option (Int × Nat)) : s.crossAdmit m =
    if s.dispatcher.rises m = true
    then State.retestHead { s with dispatcher := { s.dispatcher with side := s.dispatcher.sideAfter m } }
    else { s with dispatcher := { s.dispatcher with side := s.dispatcher.sideAfter m } } := by
  unfold State.crossAdmit Dispatcher.rises Dispatcher.sideAfter
  cases hs : s.dispatcher.side with
  | above =>
    have rest : s = { s with dispatcher := { s.dispatcher with side := .above } } := by rw [← hs]
    cases m with
    | none => simpa [hs] using rest
    | some x =>
      obtain ⟨x, k⟩ := x
      by_cases low : x < (s.dispatcher.admitMargin : Int)
      · simp [low, hs]
      · simpa [low, hs] using rest
  | below =>
    have rest : s = { s with dispatcher := { s.dispatcher with side := .below } } := by rw [← hs]
    cases m with
    | none => simp [hs]
    | some x =>
      obtain ⟨x, k⟩ := x
      obtain low | high := lt_or_ge x (s.dispatcher.admitMargin : Int)
      · simpa [low, not_le.mpr low, hs] using rest
      · simp [high, not_lt.mpr high, hs]

/-! ### The lapsed marks (05 R100) -/

theorem liveMark_eq (now : TickCount) (m : Option TickCount) :
    liveMark now m = m.filter (fun e => decide (0 < (e - now).toInt)) := by
  unfold liveMark
  cases m with
  | none => rfl
  | some e => rw [Option.filter_some]; rfl

theorem State.clearMarks_request (s : State) {k : Nat} (hk : k < 24) : s.clearMarks.requests.get k =
    (s.requests.get k).map (fun q => { q with
      markA := q.markA.filter (fun e => decide (0 < (e - s.tick).toInt))
      markB := q.markB.filter (fun e => decide (0 < (e - s.tick).toInt)) }) := by
  simp only [← liveMark_eq]
  exact Table.get_map _ _ hk

/-! ### The lookahead requests (05 R87) -/

/-- Requests created for the racks of the slots of a list, from s to t (05 R84, R87, R88). -/
structure State.RequestsMade (s t : State) (l : List Nat) : Prop where
  racks  : ∀ k, (t.racks.get k).map Rack.undirected = (s.racks.get k).map Rack.undirected
  made   : ∀ k ∈ l, ∀ r, s.racks.get k = some r → ∃ q ∈ t.requests.get k, q.undirected = s.freshRequest r
  others : ∀ k, k ∉ l → t.racks.get k = s.racks.get k ∧ t.requests.get k = s.requests.get k
  rest   : t = { s with stations := t.stations, racks := t.racks, requests := t.requests }

theorem State.createRequest_requestsMade (s : State) (k : Nat) : s.RequestsMade (s.createRequest k) [k] := by
  cases hr : s.racks.get k with
  | none =>
    rw [State.createRequest_none hr]
    refine ⟨fun _ => rfl, fun j hj r hr' => ?_, fun _ _ => ⟨rfl, rfl⟩, rfl⟩
    rw [List.mem_singleton.mp hj, hr] at hr'
    cases hr'
  | some r =>
    have made := State.createRequest_made hr
    refine ⟨fun j => ?_, fun j hj r' hr' => ?_, fun j hj => made.others j (mt List.mem_singleton.mpr hj), made.rest⟩
    · by_cases same : j = k
      · rw [same, made.rack, hr]; rfl
      · rw [(made.others j same).1]
    · obtain rfl := List.mem_singleton.mp hj
      obtain rfl := Option.some.inj (hr.symm.trans hr')
      obtain ⟨q, hq, form, -⟩ := made.request
      exact ⟨q, hq, form⟩

theorem State.foldl_requestsMade {l : List Nat} (nodup : l.Nodup) (s : State) :
    s.RequestsMade (l.foldl State.createRequest s) l := by
  induction l generalizing s with
  | nil => exact ⟨fun _ => rfl, nofun, fun _ _ => ⟨rfl, rfl⟩, rfl⟩
  | cons k l ih =>
    obtain ⟨fresh, nodup⟩ := List.nodup_cons.mp nodup
    have first := s.createRequest_requestsMade k
    have more := ih nodup (s.createRequest k)
    rw [List.foldl_cons]
    generalize s.createRequest k = u at *
    generalize l.foldl State.createRequest u = t at *
    refine ⟨fun j => (more.racks j).trans (first.racks j), fun j hj r hr => ?_, fun j hj => ?_, ?_⟩
    · obtain rfl | mem := List.mem_cons.mp hj
      · rw [(more.others j fresh).2]
        exact first.made j List.mem_cons_self r hr
      · have apart : j ∉ [k] := fun one => fresh (List.mem_singleton.mp one ▸ mem)
        have same : u.freshRequest r = s.freshRequest r := by rw [first.rest]; rfl
        rw [← same]
        exact more.made j mem r ((first.others j apart).1.trans hr)
    · obtain ⟨ne, other⟩ := not_or.mp (mt List.mem_cons.mpr hj)
      obtain ⟨racks, requests⟩ := first.others j (mt List.mem_singleton.mp ne)
      obtain ⟨racks', requests'⟩ := more.others j other
      exact ⟨racks'.trans racks, requests'.trans requests⟩
    · have rest := more.rest
      rw [first.rest] at rest
      exact rest

theorem State.lookahead_requestsMade (s : State) : s.RequestsMade s.lookahead s.lookaheadSlots :=
  State.foldl_requestsMade s.lookaheadSlots_nodup s

end Sys2Proof.Machine
end
section
/-! PROOFS. A dispatch pass: its margin, its lookahead and its walk (05 R87, R90 to R98, R104). -/

namespace Sys2Proof.Machine

variable {s t u w : State}

/-! ### The margin's crossings, with the retest they lead to (02 R40, 05 R104) -/

/-- The remaining ticks of a rack are the same after a retest. -/
theorem State.retestHead_remainingTicks (s : State) (r : Rack) : s.retestHead.remainingTicks r = s.remainingTicks r := by
  have step : s.retestHead.currentStep r = s.currentStep r := by
    unfold State.currentStep State.recipeStep
    rw [State.retestHead_recipes]
  have bath : s.retestHead.bathOfRack r = s.bathOfRack r := by
    have form := congrArg Station.bath (State.retestHead_station_form (s := s) (r.station.getD 0) .empty)
    exact form
  have active := State.retestHead_bath (s := s) Bath.active (fun _ _ => rfl) (s.bathOfRack r)
  have pending := State.retestHead_bath (s := s) Bath.pendingF (fun _ _ => rfl) (s.bathOfRack r)
  simp only [State.remainingTicks, State.predictionFactor, step, bath, active, pending]

/-- The state after the retest that the line margin leads to, if it does (05 R104). -/
def State.retested (s : State) : State := if s.dispatcher.rises s.lineMargin = true then s.retestHead else s

/-- A trigger of a pass served (05 R97). -/
def State.served (s : State) : State :=
  { s with dispatcher := { s.dispatcher with passesOwed := s.dispatcher.passesOwed - 1 } }

/-- What the first step of a pass makes of s (05 R104). -/
structure State.MarginsCrossed (s w : State) : Prop where
  alike     : s.retested.Alike w
  rest      : w = { s with
    queue := w.queue, racks := w.racks, requests := w.requests, stations := w.stations, baths := w.baths
    seqCounter := w.seqCounter, link := w.link
    dispatcher := { s.dispatcher with
      notice := w.dispatcher.notice, side := w.dispatcher.side, passesOwed := w.dispatcher.passesOwed } }
  passes    : s.dispatcher.passesOwed ≤ w.dispatcher.passesOwed + 1
  slot      : ∀ k, s.racks.get k ≠ none → w.racks.get k = s.racks.get k ∧ w.requests.get k = s.requests.get k
  remaining : ∀ r, w.remainingTicks r = s.remainingTicks r
  side      : w.dispatcher.side = s.dispatcher.sideAfter s.lineMargin
  same      : w.dispatcher.notice = s.dispatcher.notice → w.link = s.retested.link
  low       : ∀ x ∈ s.lineMargin, s.dispatcher.notice = .clear → x.1 < (s.dispatcher.lowMark : Int) →
    w.Noticed (.marginLow x.1 (((s.racks.get x.2).map (·.id)).getD 0) x.2)
  clear     : s.dispatcher.notice = .low →
    (∀ x ∈ s.lineMargin, (s.dispatcher.lowMark : Int) + s.dispatcher.hysteresis ≤ x.1) →
    w.Noticed (.marginClear (s.lineMargin.map (·.1)))
  unbounded : s.lineMargin = none → w.dispatcher.notice = .clear
  bounded   : ∀ x ∈ s.lineMargin, w.dispatcher.notice =
    if x.1 < (s.dispatcher.lowMark : Int) then .low
    else if (s.dispatcher.lowMark : Int) + s.dispatcher.hysteresis ≤ x.1 then .clear else s.dispatcher.notice

/-- What a retest of the admission queue leaves of s, be anything admitted or not (02 R40). -/
structure State.QueueServed (s t : State) : Prop where
  rest      : t = { s with
    queue := t.queue, racks := t.racks, requests := t.requests, stations := t.stations, baths := t.baths
    seqCounter := t.seqCounter, link := t.link
    dispatcher := { s.dispatcher with passesOwed := t.dispatcher.passesOwed } }
  passes    : s.dispatcher.passesOwed ≤ t.dispatcher.passesOwed
  slot      : ∀ k, s.racks.get k ≠ none → t.racks.get k = s.racks.get k ∧ t.requests.get k = s.requests.get k
  remaining : ∀ r, t.remainingTicks r = s.remainingTicks r
  notices   : s.link.KeepsNotices t.link

theorem State.QueueServed.refl (s : State) : s.QueueServed s :=
  ⟨rfl, Nat.le_refl _, fun _ _ => ⟨rfl, rfl⟩, fun _ => rfl, .refl _⟩

theorem State.retestHead_queueServed (s : State) : s.QueueServed s.retestHead :=
  ⟨s.retestHead_eq, s.retestHead_passes, fun _ hk => State.retestHead_slot hk, s.retestHead_remainingTicks,
    s.retestHead_keepsNotices⟩

theorem State.crossMargins_crossed (s : State) : s.MarginsCrossed s.served.crossMargins := by
  have n : s.served.NoticeCrossed (s.served.crossNotice s.lineMargin) s.lineMargin := s.served.crossNotice_crossed _
  have parts : s.served.crossMargins = (s.served.crossNotice s.lineMargin).crossAdmit s.lineMargin := rfl
  rw [parts, State.crossAdmit_eq]
  generalize s.served.crossNotice s.lineMargin = c at *
  have rises : c.dispatcher.rises s.lineMargin = s.dispatcher.rises s.lineMargin := by rw [n.rest]; rfl
  have side : c.dispatcher.sideAfter s.lineMargin = s.dispatcher.sideAfter s.lineMargin := by
    rw [n.rest]; cases s.lineMargin <;> rfl
  rw [rises, side]
  obtain ⟨v, hv⟩ : ∃ v, v = { c with dispatcher := { c.dispatcher with side := s.dispatcher.sideAfter s.lineMargin } } :=
    ⟨_, rfl⟩
  rw [← hv]
  have alike : s.Alike v := by
    rw [hv, n.rest]
    exact ⟨rfl, rfl⟩
  obtain ⟨w, hw⟩ : ∃ w, w = if s.dispatcher.rises s.lineMargin = true then v.retestHead else v := ⟨_, rfl⟩
  rw [← hw]
  have after : s.retested.Alike w ∧ (v.link = s.link → w.link = s.retested.link) := by
    rw [hw]
    unfold State.retested
    split
    · exact alike.retestHead
    · exact ⟨alike, id⟩
  have served : v.QueueServed w := by
    rw [hw]
    split
    · exact v.retestHead_queueServed
    · exact .refl v
  clear hw
  have link : v.link = c.link := by rw [hv]
  have dispatcher : v.dispatcher = { s.dispatcher with
      notice := c.dispatcher.notice, side := s.dispatcher.sideAfter s.lineMargin
      passesOwed := s.dispatcher.passesOwed - 1 } := by rw [hv, n.rest]; rfl
  have settings : w.dispatcher = { v.dispatcher with passesOwed := w.dispatcher.passesOwed } :=
    congrArg State.dispatcher served.rest
  have notice : w.dispatcher.notice = c.dispatcher.notice := by rw [settings, dispatcher]
  have told {m : OutMsg} (h : c.Noticed m) : w.Noticed m := h.mono (link ▸ served.notices)
  constructor
  case alike => exact after.1
  case rest =>
    have own : w.dispatcher = { s.dispatcher with
        notice := w.dispatcher.notice, side := w.dispatcher.side, passesOwed := w.dispatcher.passesOwed } := by
      rw [settings, dispatcher]
    have rest := served.rest
    rw [← settings, alike.rest] at rest
    rw [← own]
    exact rest
  case passes =>
    have passes := served.passes
    rw [dispatcher] at passes
    dsimp only at passes
    omega
  case slot =>
    intro k hk
    have same : v.racks = s.racks ∧ v.requests = s.requests := by rw [alike.rest]; exact ⟨rfl, rfl⟩
    rw [← same.1, ← same.2]
    exact served.slot k (same.1 ▸ hk)
  case remaining =>
    intro r
    rw [served.remaining, alike.rest]
    rfl
  case side => rw [settings, dispatcher]
  case same => exact fun same => after.2 (link.trans (n.same (notice.symm.trans same)))
  case low => exact fun x hx clear below => told (n.low x hx clear below)
  case clear => exact fun low above => told (n.clear low above)
  case unbounded => exact fun none => notice.trans (n.unbounded none)
  case bounded => exact fun x hx => notice.trans (n.bounded x hx)

/-! ### The state a pass walks from (05 R87, R97, R100) -/

/-- The state after the margin, the lapsed marks and the lookahead of a pass, from which its walk begins (05 R97). -/
def State.begun (s : State) : State := s.served.crossMargins.clearMarks.lookahead

theorem State.begun_made (s : State) :
    s.served.crossMargins.clearMarks.RequestsMade s.begun s.served.crossMargins.clearMarks.lookaheadSlots :=
  State.lookahead_requestsMade _

theorem State.begun_rest (s : State) : s.begun = { s.served.crossMargins with
    stations := s.begun.stations, racks := s.begun.racks, requests := s.begun.requests } := by
  have rest := s.begun_made.rest
  exact rest

theorem State.begun_rack (s : State) (k : Nat) :
    (s.begun.racks.get k).map Rack.undirected = (s.retested.racks.get k).map Rack.undirected := by
  have racks : s.served.crossMargins.racks = s.retested.racks := by rw [s.crossMargins_crossed.alike.rest]
  rw [s.begun_made.racks, ← racks]
  rfl

/-- A rack of s is there as the walk begins. -/
theorem State.begun_held {k : Nat} (hk : s.racks.get k ≠ none) : s.begun.racks.get k ≠ none := by
  have racks : s.served.crossMargins.racks.get k = s.racks.get k := (s.crossMargins_crossed.slot k hk).1
  have form := s.begun_made.racks k
  intro gone
  rw [gone] at form
  exact hk (racks.symm.trans (Option.map_eq_none_iff.mp form.symm))

/-- A request of s keeps its place, its lapsed marks cleared (05 R100). -/
theorem State.begun_request {k : Nat} {q : Request} (hk : s.racks.get k ≠ none) (hq : s.requests.get k = some q) :
    s.begun.requests.get k = some { q with
      markA := q.markA.filter (fun e => decide (0 < (e - s.tick).toInt))
      markB := q.markB.filter (fun e => decide (0 < (e - s.tick).toInt)) } := by
  have crossed := s.crossMargins_crossed
  have tick : s.served.crossMargins.tick = s.tick := by rw [crossed.rest]
  have cleared := s.served.crossMargins.clearMarks_request (Table.lt_of_get_some hq)
  rw [(crossed.slot k hk).2, hq, tick] at cleared
  have absent : k ∉ s.served.crossMargins.clearMarks.lookaheadSlots := fun mem => by
    have none := (State.mem_lookaheadSlots.mp mem).2.1
    rw [cleared] at none
    cases none
  exact (s.begun_made.others k absent).2.trans cleared

/-- An IMMERSED rack without a request, within the lookahead, has one as the walk begins (05 R87). -/
theorem State.begun_lookahead {k : Nat} {r : Rack} (hr : s.racks.get k = some r) (immersed : r.st = .immersed)
    (hq : s.requests.get k = none) (fits : s.remainingTicks r ≤ s.dispatcher.lookahead) :
    ∃ p ∈ s.begun.requests.get k, p.undirected = s.freshRequest r := by
  have crossed := s.crossMargins_crossed
  have lt := Table.lt_of_get_some hr
  obtain ⟨rack, request⟩ := crossed.slot k (by rw [hr]; nofun)
  have cleared := s.served.crossMargins.clearMarks_request lt
  rw [request, hq] at cleared
  have rack : s.served.crossMargins.clearMarks.racks.get k = some r := rack.trans hr
  have lookahead : s.served.crossMargins.clearMarks.dispatcher.lookahead = s.dispatcher.lookahead := by
    show s.served.crossMargins.dispatcher.lookahead = _
    rw [crossed.rest]
  have within : s.served.crossMargins.clearMarks.remainingTicks r ≤ s.dispatcher.lookahead :=
    Nat.le_trans (Nat.le_of_eq (crossed.remaining r)) fits
  have mem := State.mem_lookaheadSlots.mpr ⟨lt, cleared, r, rack, immersed, lookahead ▸ within⟩
  have same : s.served.crossMargins.clearMarks.freshRequest r = s.freshRequest r := by
    show s.served.crossMargins.freshRequest r = _
    rw [crossed.rest]
    rfl
  rw [← same]
  exact s.begun_made.made k mem r rack

/-! ### The whole pass (05 R97) -/

theorem State.pass_eq (s : State) : s.served.pass = s.begun.walk [] s.begun.urgencyOrder := by
  unfold State.pass State.begun
  rfl

theorem exec_dispatchPass (h : s.resetHeld = false) :
    exec .dispatchPass s = .next (s.begun.walk [] s.begun.urgencyOrder).driveOutputs := by
  rw [← State.pass_eq]
  exact liveDriven_next h (fun s => State.pass s.served)

/-- A pass ends in what its walk leaves. -/
theorem exec_dispatchPass_ends (h : s.resetHeld = false) : ∃ t, exec .dispatchPass s = .next t ∧
    (s.begun.walk [] s.begun.urgencyOrder).Kept t ∧ t.link = (s.begun.walk [] s.begun.urgencyOrder).link := by
  rw [exec_dispatchPass h]
  generalize s.begun.walk [] s.begun.urgencyOrder = w
  exact ⟨_, rfl, .of_eq rfl, rfl⟩

/-- What a pass leaves of s in t: of what is not the dispatcher's nothing, of the queue and the notices what w, the state
after the margin's crossings, has of them, and of requests, hoists and spans what the walk does (05 R87, R97, R100, R104). -/
structure State.Passed (s w t : State) : Prop where
  outside : t.tick = s.tick ∧ t.line = s.line ∧ t.gens = s.gens ∧ t.marks = s.marks ∧ t.windows = s.windows ∧
    t.io.inputs = s.io.inputs
  dispatcher : t.dispatcher = w.dispatcher
  orders  : t.link.channels.get 3 = w.link.channels.get 3 ∧
    t.link.dropped = w.link.dropped
  queue   : t.queue = s.retested.queue ∧ t.baths = s.retested.baths ∧ t.recipes = s.retested.recipes ∧
    t.seqCounter = s.retested.seqCounter
  rack    : ∀ k, (t.racks.get k).map Rack.undirected = (s.retested.racks.get k).map Rack.undirected
  held    : ∀ k, s.racks.get k ≠ none → t.racks.get k ≠ none
  request : ∀ k q, s.racks.get k ≠ none → s.requests.get k = some q → ∃ p ∈ t.requests.get k,
    { p with st := q.st } = { q with
      markA := q.markA.filter (fun e => decide (0 < (e - s.tick).toInt))
      markB := q.markB.filter (fun e => decide (0 < (e - s.tick).toInt)) } ∧ (q.st ≠ .ready → p.st = q.st)
  made    : ∀ k r, s.racks.get k = some r → r.st = .immersed → s.requests.get k = none →
    s.remainingTicks r ≤ s.dispatcher.lookahead → ∃ p ∈ t.requests.get k, p.undirected = s.freshRequest r
  hoist   : ∀ h, t.hoist h = s.hoist h ∨ ((s.hoist h).st = .idle ∧ ∃ o, o.number = nextNumber (s.hoist h).lastOrder ∧
    o.phase = .sent ∧ (t.requests.get o.slot).map (·.st) = some (.ordered h) ∧ t.hoist h = (s.hoist h).opened o false)
  stopped : s.line.st = .standby ∨ s.line.st = .halt → t.span = s.span ∧ ∀ h, t.hoist h = s.hoist h

theorem exec_dispatchPass_passed (h : s.resetHeld = false) : ∃ w t, exec .dispatchPass s = .next t ∧
    s.MarginsCrossed w ∧ s.Passed w t := by
  obtain ⟨t, run, kept, link⟩ := exec_dispatchPass_ends h
  obtain ⟨used, walked⟩ := s.begun.walk_walked s.begun.urgencyOrder
  have crossed := s.crossMargins_crossed
  have begun := s.begun_rest
  have rack := s.begun_rack
  have held {k : Nat} := s.begun_held (k := k)
  have request {k : Nat} {q : Request} := s.begun_request (k := k) (q := q)
  have lookahead {k : Nat} {r : Rack} := s.begun_lookahead (k := k) (r := r)
  refine ⟨_, t, run, crossed, ?_⟩
  clear run
  generalize s.begun.walk [] s.begun.urgencyOrder = v at *
  generalize s.begun = u at *
  generalize s.served.crossMargins = w at *
  have racks : t.racks = u.racks := kept.racks.trans (by rw [walked.rest])
  have line : u.line = s.line := by rw [begun, crossed.rest]
  have span : u.span = s.span := by rw [begun, crossed.rest]
  have hoist (h : Hoist) : u.hoist h = s.hoist h := by rw [begun, crossed.rest]; cases h <;> rfl
  have linkU : u.link = w.link := by rw [begun]
  constructor
  case outside =>
    have outer : u.tick = s.tick ∧ u.line = s.line ∧ u.gens = s.gens ∧ u.marks = s.marks ∧ u.windows = s.windows ∧
        u.io = s.io := by
      rw [begun, crossed.rest]; exact ⟨rfl, rfl, rfl, rfl, rfl, rfl⟩
    have inner : v.tick = u.tick ∧ v.line = u.line ∧ v.gens = u.gens ∧ v.marks = u.marks ∧ v.windows = u.windows ∧
        v.io = u.io := by
      rw [walked.rest]; exact ⟨rfl, rfl, rfl, rfl, rfl, rfl⟩
    obtain ⟨tick, line, gens, marks, windows, io⟩ := outer
    obtain ⟨tick', line', gens', marks', windows', io'⟩ := inner
    exact ⟨kept.tick.trans (tick'.trans tick), kept.line.trans (line'.trans line), kept.gens.trans (gens'.trans gens),
      kept.marks.trans (marks'.trans marks), kept.windows.trans (windows'.trans windows),
      kept.inputs.trans (congrArg StationIo.inputs (io'.trans io))⟩
  case dispatcher =>
    have own : u.dispatcher = w.dispatcher := by rw [begun]
    rw [kept.dispatcher, ← own, walked.rest]
  case orders => rw [link, ← linkU]; exact walked.orders
  case queue =>
    have same : v.queue = w.queue ∧ v.baths = w.baths ∧ v.recipes = w.recipes ∧ v.seqCounter = w.seqCounter := by
      rw [walked.rest, begun]; exact ⟨rfl, rfl, rfl, rfl⟩
    rw [kept.queue, kept.baths, kept.recipes, kept.seqCounter, same.1, same.2.1, same.2.2.1, same.2.2.2,
      crossed.alike.rest]
    exact ⟨rfl, rfl, rfl, rfl⟩
  case rack => intro k; rw [racks]; exact rack k
  case held => intro k hk; rw [racks]; exact held hk
  case request =>
    intro k q hk hq
    obtain ⟨p, hp, form, taken⟩ := walked.request k _ (request hk hq)
    exact ⟨p, kept.requests ▸ hp, form, taken⟩
  case made =>
    intro k r hr immersed hq fits
    obtain ⟨p, hp, form⟩ := lookahead hr immersed hq fits
    obtain ⟨p', hp', form', -⟩ := walked.request k p hp
    refine ⟨p', kept.requests ▸ hp', ?_⟩
    rw [← form, ← form']
    rfl
  case hoist =>
    intro h
    rw [kept.hoist, kept.requests, ← hoist]
    exact walked.hoist h
  case stopped =>
    intro stop
    obtain ⟨same, hoists⟩ := walked.stopped (line ▸ stop)
    exact ⟨kept.span.trans (same.trans span), fun h => (kept.hoist h).trans ((hoists h).trans (hoist h))⟩

end Sys2Proof.Machine
end
section
/-! PROOFS. The statement about DISPATCH_PASS: its parts, and the obligation (05 R87, R90 to R98, R104). -/

namespace Sys2Proof.Machine

variable {s t u w : State}

/-! ### The margin, the notices and the queue of a pass (05 R104) -/

theorem State.Noticed.found {m : OutMsg} (h : t.Noticed m) :
    ((t.link.channels.get 3).queue.any (fun f => decide (f.msg = m)) ||
      (t.link.dropped && decide (5 ≤ t.link.held 3))) = true := by
  simpa [State.Noticed] using h

/-! ### The first giving of a pass (05 R97, R98) -/

theorem State.walk_first {pre post : List Nat} {k : Nat} {h : Hoist} (passed : ∀ j ∈ pre, s.chosenHoist [] j = none)
    (chosen : s.chosenHoist [] k = some h) : s.walk [] (pre ++ k :: post) = (s.giveRequest h k).walk [h] post := by
  rw [State.walk_passes passed, State.walk_cons, chosen]

theorem startStage_widening (narrowed old : Span) (outside : Bool) :
    startStage narrowed old outside = .widening ↔ narrowed = old := by
  by_cases same : narrowed = old
  · simp [startStage, same]
  · cases outside <;> simp [startStage, same]

theorem startStage_shrinking (narrowed old : Span) (outside : Bool) :
    startStage narrowed old outside = .shrinking ↔ narrowed ≠ old ∧ outside = false := by
  by_cases same : narrowed = old
  · simp [startStage, same]
  · cases outside <;> simp [startStage, same]

theorem startStage_ne_none (narrowed old : Span) (outside : Bool) : startStage narrowed old outside ≠ .none := by
  unfold startStage
  split
  · exact nofun
  · split <;> exact nofun

section
variable {h : Hoist} {k : Nat} {q : Request} {r : Rack} {used : List Hoist}

/-- A request given within reach is ORDERED with its MOVE at the end of the pass (05 R98, 06 R112). -/
theorem State.GivingKept.ordered (kept : (s.openOrder h k).GivingKept t h k used) (hq : s.requests.get k = some q)
    (hr : s.racks.get k = some r) : t.requests.get k = some { q with st := .ordered h } ∧ (t.hoist h).st = .busy ∧
      ∃ o ∈ (t.hoist h).order, o.slot = k ∧ o.source = q.source ∧ o.dest = q.dest.getD 0 ∧ o.drain = s.drainOf r ∧
        o.phase = .sent ∧ (s.link.held h.channel < 4 → ∃ f ∈ (t.link.channels.get h.channel).queue,
          f.msg = .move o.number q.source (s.drainOf r) (q.dest.getD 0)) := by
  have opened := State.openOrder_eq h hq hr
  have hoist := kept.hoist
  have request := kept.request
  obtain ⟨more, queue⟩ := kept.queue h.channel
  rw [opened] at hoist request queue
  refine ⟨request.trans (Table.get_set_self _ (Table.lt_of_get_some hq) _), ?_, ?_⟩
  · rw [hoist]; cases h <;> rfl
  · refine ⟨newOrder (nextNumber (s.hoist h).lastOrder) k q.source (s.drainOf r) (q.dest.getD 0), ?_, rfl, rfl, rfl,
      rfl, rfl, fun room => ?_⟩
    · rw [hoist]; cases h <;> rfl
    · have sent : (s.link.send h.channel (.move (nextNumber (s.hoist h).lastOrder) q.source (s.drainOf r)
          (q.dest.getD 0))) = s.link.push h.channel _ := if_pos room
      have mem : OutMsg.move (nextNumber (s.hoist h).lastOrder) q.source (s.drainOf r) (q.dest.getD 0) ∈
          t.queued h.channel := by
        rw [queue]
        unfold State.queued
        dsimp only
        rw [sent, s.link.push_queue (by cases h <;> decide)]
        simp
      exact List.mem_map.mp mem

/-- A request given beyond reach is BOUND with its handover at the end of the pass (05 R98, 07 R136, R137). -/
theorem State.GivingKept.bound {narrowed : Span} {stage : Stage} (started : s.HandoverStarted u h k q narrowed stage)
    (begun : stage ≠ .none) (kept : u.GivingKept t h k used) (hq : s.requests.get k = some q) :
    t.requests.get k = some { q with st := .bound h } ∧ t.hoist h = s.hoist h ∧ t.span = u.span := by
  refine ⟨kept.request.trans ?_, kept.hoist.trans ?_, kept.span ?_⟩
  · rw [started.rest]; exact Table.get_set_self _ (Table.lt_of_get_some hq) _
  · rw [started.rest]; cases h <;> rfl
  · rw [started.record]; exact begun

end

/-- Settles O56: a pass by its margin, its lookahead and its walk. -/
theorem dispatchPassWalks : Obligations.DispatchPassWalks := by
  refine ⟨?pass, ?keys, ?urgency, ?eligible, ?walk, ?steps, ?giving, ?lookahead⟩
  case pass =>
    intro s k q m h live hk rises v
    have same : v = s.retested := rfl
    clear_value v
    subst same
    obtain ⟨w, t, run, crossed, passed⟩ := exec_dispatchPass_passed live
    have told {e : OutMsg} (n : w.Noticed e) : t.Noticed e := n.mono (.of_same passed.orders.1 passed.orders.2)
    obtain ⟨tick, line, gens, marks, windows, inputs⟩ := passed.outside
    obtain ⟨queue, baths, recipes, seqCounter⟩ := passed.queue
    refine ⟨t, run, tick, line, gens, marks, windows, inputs, ?passes, ⟨fun x hx clear low => ?low, fun low clear => ?clear⟩,
      ?link, queue, baths, recipes, seqCounter, passed.rack k, ?unbounded, ?bounded, fun r hr => ⟨?held, ?made⟩, ?request,
      ?idle, fun stop => (passed.stopped stop).1, ?hoist⟩
    case low => exact (told (crossed.low x hx clear low)).found
    case clear => exact (told (crossed.clear low clear)).found
    case passes => rw [passed.dispatcher]; exact crossed.passes
    case link =>
      intro same
      rw [passed.dispatcher] at same
      rw [passed.orders.1, crossed.same same]
    case unbounded =>
      intro none
      rw [passed.dispatcher, crossed.side, none]
      exact ⟨crossed.unbounded none, rfl⟩
    case bounded =>
      intro hm
      obtain ⟨x, hx, rfl⟩ := Option.map_eq_some_iff.mp hm
      rw [passed.dispatcher, crossed.bounded x hx, crossed.side, hx]
      refine ⟨fun low => if_pos low, fun high => ?_, fun above below => ?_, rfl⟩
      · rw [if_neg (by omega), if_pos high]
      · rw [if_neg (not_lt.mpr above), if_neg (not_le.mpr below)]
    case held => exact passed.held k (by rw [hr]; nofun)
    case made =>
      intro immersed none fits
      obtain ⟨p, hp, form⟩ := passed.made k r hr immersed none fits
      exact ⟨p, hp, congrArg Request.source form, congrArg Request.cls form, congrArg Request.created form,
        congrArg Request.markA form, congrArg Request.markB form⟩
    case request =>
      intro there hq
      obtain ⟨p, hp, form, taken⟩ := passed.request k q there hq
      obtain ⟨source, dest, cls, -, -, markA, markB⟩ := Request.mk.inj form
      exact ⟨p, hp, source, dest, cls, markA, markB, taken⟩
    case idle =>
      rintro (busy | stop)
      · exact (passed.hoist h).resolve_right fun given => busy given.1
      · exact (passed.stopped stop).2 h
    case hoist =>
      refine (passed.hoist h).imp id ?_
      rintro ⟨-, o, number, phase, ordered, e⟩
      rw [e]
      exact ⟨o, rfl, ordered, phase, number, rfl⟩
  case keys =>
    intro s h r q st p now x f rate n need travel order
    exact ⟨fun step pos => State.remainingTicks_ceil step pos, State.predictedDue_eq r q,
      State.orderTimeBy_unknown r q now, State.orderTimeBy_known r q now⟩
  case urgency =>
    intro s i j a b x y hi hj ne ha hx hb hy lift rank deadline byClass age
    refine ⟨s.urgencyOrder_nodup, fun k _ => State.mem_urgencyOrder, fun near => ?_⟩
    have lifts : s.latestLift = lift := funext State.latestLift_eq
    clear_value lift
    subst lifts
    have nearX := near i hi x hx
    have nearY := near j hj y hy
    have before := State.urgencyOrder_before near (State.urgencyKey_eq_some.mpr ⟨a, ha, x, hx, rfl⟩)
      (State.urgencyKey_eq_some.mpr ⟨b, hb, y, hy, rfl⟩)
    have latest : compareLatest (s.latestLift x) (s.latestLift y) = deadline :=
      compareLatest_cases nearX.2.1 nearY.2.1
    have cls : compareClass a.cls b.cls = byClass := by
      show compareClass a.cls b.cls = compare (rank a.cls) (rank b.cls)
      cases a.cls <;> cases b.cls <;> rfl
    have seq : compareAge x.seq y.seq = age := compareAge_near nearX.1 nearY.1
    rw [UrgencyKey.before_eq, latest, cls, seq] at before
    refine before.trans ?_
    cases s.dispatcher.mode <;> exact Iff.rfl
  case eligible =>
    intro s h k q r p used hq hr pos
    intro x v hv d reach travel drain job critical allowed marked held startable addedA addedB
    have reaches : reach = s.within := funext fun g => funext fun a => funext fun b => (s.within_eq g a b).symm
    have allows : allowed = s.lineAllows := funext fun u => by unfold State.lineAllows; rw [State.nextCritical_eq]
    have marks : marked = fun w => s.markStands w h := funext fun w => by rw [State.markStands_eq]; cases h <;> rfl
    have jobs : job = s.jobEstimate h r q p := rfl
    have a : addedA = s.stationsAdded .a q.source d := (s.stationsAdded_a q.source d).symm
    have b : addedB = s.stationsAdded .b q.source d := (s.stationsAdded_b q.source d).symm
    clear_value reach allowed marked job addedA addedB
    subst reaches allows marks jobs a b
    refine ⟨(State.eligible_iff hq hr pos).trans ?_, State.chosenHoist_eq hq⟩
    have start : s.canHandover h q.source d = true ↔ s.within h q.source d = false ∧ startable := State.canHandover_iff
    have able : s.within h q.source d = true ∨ s.canHandover h q.source d = true ↔
        s.within h q.source d = true ∨ startable := by
      rw [start]; cases s.within h q.source d <;> simp
    rw [able]
    simp only [State.holdsBack_iff]
    exact Iff.rfl
  case walk =>
    intro s pre post k q r h live hk u d old widened narrowed outside drain
    obtain ⟨t, run, kept, link⟩ := exec_dispatchPass_ends live
    have whole := exec_dispatchPass live
    have begun : s.begun = u := rfl
    rw [begun] at kept link whole
    refine ⟨fun none => ?idle, fun order passed chosen hq hr => ⟨t, run, fun near => ?within, fun far => ?beyond⟩⟩
    case idle =>
      have idle := State.walk_passes none []
      rw [List.append_nil] at idle
      rw [whole, idle, State.walk_nil]
    case within =>
      rw [order, State.walk_first passed chosen, State.giveRequest_within hq near] at kept link
      have request : (u.openOrder h k).requests.get k = some { q with st := .ordered h } := by
        rw [State.openOrder_eq h hq hr]
        exact Table.get_set_self _ hk _
      obtain ⟨used, first⟩ := State.walk_givingKept (h := h) request nofun post
      obtain ⟨ordered, busy, o, mem, slot, source, dest, drains, phase, sent⟩ := first.ordered hq hr
      rw [kept.requests, kept.hoist, link]
      exact ⟨ordered, busy, o, mem, slot, source, dest, drains, phase, sent⟩
    case beyond =>
      rw [order, State.walk_first passed chosen, State.giveRequest_beyond hq far] at kept link
      have started := State.startHandover_started hq (narrowedSpan_eq h u.span.guardGap q.source d (u.spanOf h.other))
      rw [HoistRec.ordersOutside_eq] at started
      have widens : widenedSpan h q.source d = widened := by cases h <;> rfl
      have request : (u.startHandover h k).requests.get k = some { q with st := .bound h } := by
        rw [started.rest]
        exact Table.get_set_self _ hk _
      obtain ⟨used, first⟩ := State.walk_givingKept (h := h) request nofun post
      obtain ⟨bound, hoist, span⟩ := first.bound started (startStage_ne_none _ _ _) hq
      have span : t.span = (u.startHandover h k).span := kept.span.trans span
      have spans (g : Hoist) : t.spanOf g = (u.startHandover h k).spanOf g := by unfold State.spanOf; rw [span]
      rw [kept.requests, kept.hoist, span, spans, spans, started.record, started.taker, started.victim, widens]
      exact ⟨bound, hoist, rfl, rfl, rfl, rfl, rfl, rfl, rfl, if_congr (startStage_widening _ _ _) rfl rfl,
        if_congr (startStage_shrinking _ _ _) rfl rfl⟩
  case steps =>
    intro s used h k rest
    refine ⟨State.eligible_unknown k, State.walk_nil s used, State.walk_cons s used k rest, exec_dispatchPass⟩
  case giving =>
    intro s h k q r hq hr x hv d reach number drain old widened narrowed outside stage party sequence t
    have reaches : s.within h q.source d = reach := s.within_eq h q.source d
    refine ⟨fun near => ?within, fun far => ?beyond⟩
    case within => exact (State.giveRequest_within hq (reaches.trans near)).trans (State.openOrder_eq h hq hr)
    case beyond =>
      have given : s.startHandover h k = t := (State.giveRequest_beyond hq (reaches.trans far)).symm
      have started := State.startHandover_started hq (narrowedSpan_eq h s.span.guardGap q.source d (s.spanOf h.other))
      rw [given, HoistRec.ordersOutside_eq] at started
      have widens : widenedSpan h q.source d = widened := by cases h <;> rfl
      obtain ⟨rest, ⟨gap, split⟩, taker, victim, record, link, own, other⟩ := started
      rw [widens] at taker record
      exact ⟨rest, gap, split, taker, victim, record, link, own, other⟩
  case lookahead =>
    intro s k r
    exact ⟨State.createRequest_eq, s.lookaheadSlots, s.lookahead_eq, s.lookaheadSlots_nodup,
      fun j => State.mem_lookaheadSlots, State.lookaheadSlots_ascends⟩

end Sys2Proof.Machine
end

section
/-! PROOFS. The laws of the invariance statements right after reset (06 R107, R109, 07 R130, 09 R159, 10 R179, 11
R185). -/

namespace Sys2Proof.Machine

/-- Right after reset no output function is on: the line is in STANDBY, no station is a bath and no rack is in the
table (08 R154, 09 R168, R169). -/
theorem State.reset_outputFunction {n : Nat} (h : n < 35) : State.reset.outputFunction n = false := by
  unfold State.outputFunction
  split
  · rfl
  · split
    · rfl
    · split
      · rfl
      · next hA hB hS =>
        have hn : n < 32 := by simp only [Config.permitA, Config.permitB, Config.sounder] at hA hB hS; omega
        simp [State.valveFunction, State.reset_station hn]

/-- Right after reset every commanded level is its source (10 R179). -/
theorem State.reset_outputsFollow : State.reset.OutputsFollow := fun n h => by
  rw [State.reset_output h]
  exact (State.reset_outputFunction h).symm

/-- Settles O3: each law at the reset value of the fields it speaks of. -/
theorem resetKeepsLaws : Obligations.ResetKeepsLaws := by
  refine ⟨State.reset_outputsFollow, ?causes, rfl, ?suspended, State.reset_bathsLawful, ?queues, ⟨rfl, rfl⟩, ?timings,
    ?spans⟩
  case causes => exact ⟨fun _ => rfl, nofun⟩
  case suspended => exact ⟨⟨nofun, nofun⟩, ⟨nofun, nofun⟩, fun h => absurd rfl h⟩
  case queues =>
    have empty (c : Nat) (h : c < 4) : State.reset.link.held c ≤ 4 := by rw [State.reset_held h]; omega
    exact ⟨empty 0 (by decide), empty 1 (by decide), empty 2 (by decide), (empty 3 (by decide)).trans (by decide),
      le_rfl⟩
  case timings => unfold State.TimingsInRange Timing.InRange; decide
  case spans => exact ⟨trivial, by decide, by decide, fun _ => ⟨rfl, rfl, rfl⟩, nofun, nofun⟩

end Sys2Proof.Machine
end

section
/-! PROOFS. The tick count and the queue of waiting commands: which operations and commands leave both as they are (03
R44, 11 R185, log 1, log 9). -/

namespace Sys2Proof.Machine

/-! ### LINE CLEAR and the other effects of requests -/

@[simp] theorem State.discardQueue_clock (s : State) :
    s.discardQueue.tick = s.tick ∧ s.discardQueue.pending = s.pending :=
  ⟨State.foldl_same State.tick (fun (t : State) (e : QueueEntry) => t.lowerRefs e.recipe) (fun _ _ => rfl) s.queue s,
    State.foldl_same State.pending (fun (t : State) (e : QueueEntry) => t.lowerRefs e.recipe) (fun _ _ => rfl) s.queue s⟩

@[simp] theorem State.cancelOpen_clock (s : State) (h : Hoist) :
    (s.cancelOpen h).tick = s.tick ∧ (s.cancelOpen h).pending = s.pending := by
  unfold State.cancelOpen; split <;> simp

@[simp] theorem State.resumeIfHalted_clock (s : State) :
    s.resumeIfHalted.tick = s.tick ∧ s.resumeIfHalted.pending = s.pending := by
  unfold State.resumeIfHalted; split <;> simp

@[simp] theorem State.clearBlocks_clock (s : State) :
    s.clearBlocks.tick = s.tick ∧ s.clearBlocks.pending = s.pending := by
  simp [State.clearBlocks, State.clearHoist, State.clearStations]

@[simp] theorem State.clearSlot_clock (s : State) (k : Nat) :
    (s.clearSlot k).tick = s.tick ∧ (s.clearSlot k).pending = s.pending := by
  unfold State.clearSlot; split <;> simp

@[simp] theorem State.clearLine_clock (s : State) : s.clearLine.tick = s.tick ∧ s.clearLine.pending = s.pending := by
  simp [State.clearLine, State.foldl_same State.tick, State.foldl_same State.pending]

@[simp] theorem State.writeStation_clock (s : State) (n : Nat) (k : StationKind) (b : Nat) (se sv : Bool) :
    (s.writeStation n k b se sv).tick = s.tick ∧ (s.writeStation n k b se sv).pending = s.pending := by
  unfold State.writeStation; dsimp only; split <;> simp

@[simp] theorem State.releaseHoist_clock (s : State) (h : Hoist) :
    (s.releaseHoist h).tick = s.tick ∧ (s.releaseHoist h).pending = s.pending := by
  simp [State.releaseHoist]

@[simp] theorem State.cycleStart_clock (s : State) (b : Nat) :
    (s.cycleStart b).tick = s.tick ∧ (s.cycleStart b).pending = s.pending := by
  unfold State.cycleStart; dsimp only; split <;> simp

@[simp] theorem State.setProgram_clock (s : State) (b : Nat) (p : Program) :
    (s.setProgram b p).tick = s.tick ∧ (s.setProgram b p).pending = s.pending := by
  unfold State.setProgram; dsimp only; (repeat' split) <;> simp

@[simp] theorem State.withdrawEntry_clock (s : State) (e : QueueEntry) :
    (s.withdrawEntry e).tick = s.tick ∧ (s.withdrawEntry e).pending = s.pending := by
  unfold State.withdrawEntry; dsimp only; split <;> simp

@[simp] theorem State.placeByHand_clock (s : State) (k : Nat) (r : Rack) (j n : Nat) :
    (s.placeByHand k r j n).tick = s.tick ∧ (s.placeByHand k r j n).pending = s.pending := by
  unfold State.placeByHand; dsimp only; (repeat' split) <;> simp

@[simp] theorem State.startRun_clock (s : State) : s.startRun.tick = s.tick ∧ s.startRun.pending = s.pending := by
  unfold State.startRun; dsimp only; split <;> simp

@[simp] theorem State.resumeHandover_clock (s : State) :
    s.resumeHandover.tick = s.tick ∧ s.resumeHandover.pending = s.pending := by
  unfold State.resumeHandover; dsimp only; split <;> simp

@[simp] theorem State.resumeLine_clock (s : State) : s.resumeLine.tick = s.tick ∧ s.resumeLine.pending = s.pending := by
  simp [State.resumeLine, State.resumeHoist]

theorem handleAdmit_clock (e : QueueEntry) (s : State) :
    (handleAdmit e s).tick = s.tick ∧ (handleAdmit e s).pending = s.pending := by
  unfold handleAdmit State.joinQueue; (repeat' split) <;> simp

theorem handleLineRun_clock (s : State) :
    (handleLineRun s).tick = s.tick ∧ (handleLineRun s).pending = s.pending := by
  rw [← s.evaluateBound_tick, ← s.evaluateBound_pending]
  unfold handleLineRun
  generalize s.evaluateBound = u
  dsimp only
  split <;> simp

theorem handleLineResume_clock (s : State) :
    (handleLineResume s).tick = s.tick ∧ (handleLineResume s).pending = s.pending := by
  rw [← s.evaluateBound_tick, ← s.evaluateBound_pending]
  unfold handleLineResume
  generalize s.evaluateBound = u
  dsimp only
  (repeat' split) <;> simp

/-- The handlers of the requests that can write the bath table leave the tick count and the waiting commands as they
are. -/
theorem handleRequest_clock_of {i : Instr} (h : i.writesBaths = true) (s : State) :
    (handleRequest i s).tick = s.tick ∧ (handleRequest i s).pending = s.pending := by
  cases i <;> simp only [Instr.writesBaths, Bool.false_eq_true] at h
  case admitRack => exact handleAdmit_clock _ s
  case withdraw => simp only [handleRequest, handleWithdraw]; (repeat' split) <;> simp
  case rackRemove => simp only [handleRequest, handleRackRemove]; (repeat' split) <;> simp
  case rackPlace => simp only [handleRequest, handleRackPlace]; (repeat' split) <;> simp
  case bathSet => unfold handleRequest handleBathSet; dsimp only; split <;> exact ⟨rfl, rfl⟩
  case bathTableSet => unfold handleRequest handleBathTableSet; dsimp only; split <;> exact ⟨rfl, rfl⟩
  case bathOwedClear => simp only [handleRequest, handleBathOwedClear]; split <;> simp
  case lineRun => exact handleLineRun_clock s
  case lineResume => exact handleLineResume_clock s
  case lineClear => simp only [handleRequest, handleLineClear]; split <;> simp

/-- Every handler of a request leaves the tick count and the waiting commands as they are. -/
theorem handleRequest_clock (i : Instr) (s : State) :
    (handleRequest i s).tick = s.tick ∧ (handleRequest i s).pending = s.pending := by
  cases hw : i.writesBaths with
  | true => exact handleRequest_clock_of hw s
  | false =>
    cases i <;> simp only [Instr.writesBaths, Bool.true_eq_false] at hw
    all_goals
      simp only [handleRequest, handleRackQuery, handleStationSet, handleStationQuery, handleBathQuery,
        handleRecipeOpen, handleStepSet, handleRecipeClose, handleRecipeQuery, handleDispatchConfig, handleQueueQuery,
        handleHoistTiming, handleHoistCancel, handleHoistRelease, handleHoistQuery, handleSpanConfig, handleSpanQuery,
        handleAgitationSet, handleAgitationQuery, handleLineHold, handleLineHalt, handleCauseClear, handleLineQuery,
        handleInputSet, handleOutputMode, handleOutputLatch, handleIoQuery, handleLinkQuery, State.clearCauses, id]
      (repeat' split) <;> simp

/-- Every report leaves the tick count and the waiting commands as they are. -/
theorem takeReport_clock (i : Instr) (s : State) :
    (takeReport i s).tick = s.tick ∧ (takeReport i s).pending = s.pending := by
  cases i <;>
    simp only [takeReport, takeHello, takeAccept, takeRefuse, takePoised, takeLifted, takePlaced, takeCancelled,
      takePosition, takeSpanAckReport, takeFault, takeTemp, takePumped, State.orderReport, State.poise, State.toPhase,
      State.helloIdle, State.checkHello, State.keepRefusal, State.strayCabinet, id]
  all_goals (repeat' split) <;> simp

/-! ### Inputs, samples and frames -/

@[simp] theorem State.sampleGen_clock (s : State) (b : Nat) :
    (s.sampleGen b).tick = s.tick ∧ (s.sampleGen b).pending = s.pending := by
  unfold State.sampleGen State.settleGen; dsimp only; (repeat' split) <;> simp

@[simp] theorem State.loseAgitation_clock (s : State) (n : Nat) :
    (s.loseAgitation n).tick = s.tick ∧ (s.loseAgitation n).pending = s.pending := by
  unfold State.loseAgitation; (repeat' split) <;> simp

@[simp] theorem State.gasLost_clock (s : State) : s.gasLost.tick = s.tick ∧ s.gasLost.pending = s.pending := by
  simp [State.gasLost, State.foldl_same State.tick, State.foldl_same State.pending]

@[simp] theorem State.faultMarked_clock (s : State) (n : Nat) :
    (s.faultMarked n).tick = s.tick ∧ (s.faultMarked n).pending = s.pending := by
  unfold State.faultMarked; dsimp only; split <;> simp

@[simp] theorem State.seatedAt_clock (s : State) (n : Nat) :
    (s.seatedAt n).tick = s.tick ∧ (s.seatedAt n).pending = s.pending := by
  unfold State.seatedAt; (repeat' split) <;> simp

@[simp] theorem State.releasedAt_clock (s : State) (n : Nat) :
    (s.releasedAt n).tick = s.tick ∧ (s.releasedAt n).pending = s.pending := by
  unfold State.releasedAt State.loadReleased State.bathReleased; (repeat' split) <;> simp

@[simp] theorem State.inputEvent_clock (s : State) (n : Nat) (level : Bool) :
    (s.inputEvent n level).tick = s.tick ∧ (s.inputEvent n level).pending = s.pending := by
  unfold State.inputEvent State.seatEvent State.releaseEvent; (repeat' split) <;> simp

@[simp] theorem State.pinEvent_clock (s : State) (n : Nat) (level : Bool) :
    (s.pinEvent n level).tick = s.tick ∧ (s.pinEvent n level).pending = s.pending := by
  unfold State.pinEvent; split <;> simp

@[simp] theorem State.sampleEvents_clock (s before : State) :
    (s.sampleEvents before).tick = s.tick ∧ (s.sampleEvents before).pending = s.pending := by
  simp [State.sampleEvents, State.foldl_same State.tick, State.foldl_same State.pending]

@[simp] theorem State.takeRequest_clock (s : State) (i : Instr) :
    (s.takeRequest i (handleRequest i)).tick = s.tick ∧ (s.takeRequest i (handleRequest i)).pending = s.pending :=
  State.takeRequest_keeps (P := fun t => t.tick = s.tick ∧ t.pending = s.pending) i ⟨rfl, rfl⟩ (fun _ _ h => h)
    (fun t h => ⟨(handleRequest_clock i t).1.trans h.1, (handleRequest_clock i t).2.trans h.2⟩)

@[simp] theorem State.refuseFrame_clock (s : State) (c : Nat) (kind : Byte) :
    (s.refuseFrame c kind).tick = s.tick ∧ (s.refuseFrame c kind).pending = s.pending := by
  unfold State.refuseFrame State.takeRefused State.serve refuseOnThree
  dsimp only
  (repeat' split) <;> exact ⟨rfl, rfl⟩

@[simp] theorem State.endFrame_clock (s : State) (c : Nat) (kind : Byte) (payload : List Byte) :
    (s.endFrame c kind payload).tick = s.tick ∧ (s.endFrame c kind payload).pending = s.pending := by
  unfold State.endFrame State.endGood State.endRefused State.deliver
  (repeat' split) <;> simp [takeReport_clock]

@[simp] theorem State.endSend_clock (s : State) (f : Counts → Counts) :
    (s.endSend f).tick = s.tick ∧ (s.endSend f).pending = s.pending := by
  unfold State.endSend State.afterLeave State.serveSlot State.serve refuseOnThree
  (repeat' split) <;> simp [handleRequest_clock]

/-! ### Commands -/

/-- A command whose meaning leaves the tick count and the waiting commands as they are does so too. -/
theorem live_clock {s t : State} {f : State → State} (h : live s f = .next t)
    (hf : ∀ s : State, (f s).tick = s.tick ∧ (f s).pending = s.pending) : t.tick = s.tick ∧ t.pending = s.pending :=
  live_keeps (P := fun u => u.tick = s.tick ∧ u.pending = s.pending) h ⟨rfl, rfl⟩
    (fun u hu => ⟨(hf u).1.trans hu.1, (hf u).2.trans hu.2⟩)

/-- The driving of the outputs leaves both as they are too. -/
theorem liveDriven_clock {s t : State} {f : State → State} (h : liveDriven s f = .next t)
    (hf : ∀ s : State, (f s).tick = s.tick ∧ (f s).pending = s.pending) : t.tick = s.tick ∧ t.pending = s.pending :=
  live_clock h hf

/-- Every command but POWER_ON, RESET_ASSERTED and LINE_TICK leaves the tick count and the waiting commands as they
are. -/
theorem exec_clock {s t : State} {c : Instr} (h : exec c s = .next t) (on : c ≠ .powerOn) (reset : c ≠ .resetAsserted)
    (tick : c ≠ .lineTick) : t.tick = s.tick ∧ t.pending = s.pending := by
  by_cases hq : c.isRequest = true
  · cases query : c.isQuery with
    | true => exact live_clock (exec_query query s ▸ h) (fun u => u.takeRequest_clock c)
    | false => exact liveDriven_clock (exec_request hq query s ▸ h) (fun u => u.takeRequest_clock c)
  by_cases hr : c.isReport = true
  · exact liveDriven_clock (exec_report hr s ▸ h) (takeReport_clock c)
  cases c <;> simp only [Instr.isRequest, Instr.isReport, not_true_eq_false] at hq hr
  all_goals unfold exec at h
  case powerOn => exact absurd rfl on
  case resetAsserted => exact absurd rfl reset
  case lineTick => exact absurd rfl tick
  case sampleEvent =>
    refine liveDriven_clock h (fun u => ?_)
    split <;> simp [State.foldl_same State.tick, State.foldl_same State.pending, State.sampleLines]
  case dispatchPass => exact liveDriven_clock h (fun u => by simp)
  case frameSent => exact liveDriven_clock h (fun u => u.endSend_clock _)
  case missingAcknowledge => exact liveDriven_clock h (fun u => u.endSend_clock _)
  case noClocking => exact liveDriven_clock h (fun u => u.endSend_clock _)
  case startBit => exact live_clock h (fun u => by split <;> simp)
  case frameTruncated => exact live_clock h (fun u => by split <;> simp)
  case lengthError => exact live_clock h (fun u => by (repeat' split) <;> simp)
  case characterError => exact live_clock h (fun u => by (repeat' split) <;> simp)
  case discardWaitEnd => exact live_clock h (fun u => by split <;> simp)
  case sendBegin => exact live_clock h (fun u => by split <;> simp)
  case listenWindowEnd => exact live_clock h (fun u => by split <;> simp)
  case refusedFrame => exact liveDriven_clock h (fun u => by split <;> simp [State.endRefused])
  case outputFaultMarkSet => exact liveDriven_clock h (fun u => by dsimp only; split <;> simp)
  case outputFaultMarkClear => exact liveDriven_clock h (fun u => by dsimp only; split <;> simp)
  all_goals exact liveDriven_clock h (fun u => by (repeat' split) <;> simp)

@[simp] theorem State.expiries_clock (s : State) : s.expiries.tick = s.tick ∧ s.expiries.pending = s.pending := by
  simp [State.expiries, State.foldl_same State.tick, State.foldl_same State.pending]

theorem State.compensate_clock (s : State) : s.compensate.tick = s.tick ∧ s.compensate.pending = s.pending := by
  have loaded : s.loadPending.tick = s.tick ∧ s.loadPending.pending = s.pending := by
    unfold State.loadPending; split <;> exact ⟨rfl, rfl⟩
  simp [State.compensate, State.foldl_same State.tick, State.foldl_same State.pending, State.advanceRacks, loaded]

/-- Out of RESET, LINE_TICK counts, compensates, takes what has expired and triggers its pass (03 R44, R45, 05 R97; log
5). -/
theorem exec_lineTick {s : State} (running : s.resetHeld = false) :
    exec .lineTick s = .next s.countTick.compensate.expiries.triggerPass.driveOutputs := by
  unfold exec execLineTick; exact liveDriven_next running _

/-- LINE_TICK raises the tick count by one and leaves the waiting commands as they are (03 R44, log 1). -/
theorem exec_lineTick_clock {s t : State} (running : s.resetHeld = false) (h : exec .lineTick s = .next t) :
    t.tick = s.tick + 1 ∧ t.pending = s.pending := by
  rw [exec_lineTick running, Host.Outcome.next.injEq] at h
  obtain ⟨tick, pending⟩ := s.countTick.compensate_clock
  rw [← h, State.driveOutputs_tick, State.driveOutputs_pending, State.triggerPass_tick, State.triggerPass_pending,
    (State.expiries_clock _).1, (State.expiries_clock _).2, tick, pending]
  exact ⟨rfl, rfl⟩

/-- While RESET is held low every command but the two of power and RESET changes nothing (11 R185; log 9). -/
theorem exec_held {s : State} {c : Instr} (held : s.resetHeld = true) (on : c ≠ .powerOn) (reset : c ≠ .resetAsserted) :
    exec c s = .next s := by
  by_cases hq : c.isRequest = true
  · cases query : c.isQuery with
    | true => exact (exec_query query s).trans (live_held held _)
    | false => exact (exec_request hq query s).trans (liveDriven_held held _)
  by_cases hr : c.isReport = true
  · exact (exec_report hr s).trans (liveDriven_held held _)
  cases c <;> simp only [Instr.isRequest, Instr.isReport, not_true_eq_false] at hq hr
  case powerOn => exact absurd rfl on
  case resetAsserted => exact absurd rfl reset
  all_goals unfold exec
  case startBit | frameTruncated | lengthError | characterError | discardWaitEnd | sendBegin | listenWindowEnd =>
    exact live_held held _
  all_goals exact liveDriven_held held _

/-- Settles O4: a command that runs while RESET is held changes nothing, and otherwise LINE_TICK alone writes the tick
count. -/
theorem resetHeldAndTickCount : Obligations.ResetHeldAndTickCount := by
  refine ⟨fun s c held on reset => exec_held held on reset, fun s t c h => ?_⟩
  by_cases power : c = .powerOn ∨ c = .resetAsserted
  · obtain rfl | rfl := power
    · obtain rfl := Host.Outcome.next.inj h
      exact ⟨rfl, fun on => absurd rfl on⟩
    · obtain rfl := Host.Outcome.next.inj h
      exact ⟨rfl, fun _ reset => absurd rfl reset⟩
  obtain ⟨on, reset⟩ := not_or.mp power
  by_cases tick : c = .lineTick ∧ s.resetHeld = false
  · obtain ⟨rfl, running⟩ := tick
    obtain ⟨raised, pending⟩ := exec_lineTick_clock running h
    exact ⟨pending, fun _ _ => by rw [raised, if_pos ⟨rfl, running⟩]⟩
  have same : t.tick = s.tick ∧ t.pending = s.pending := by
    cases held : s.resetHeld with
    | true =>
      obtain rfl := Host.Outcome.next.inj ((exec_held held on reset).symm.trans h)
      exact ⟨rfl, rfl⟩
    | false => exact exec_clock h on reset (fun e => tick ⟨e, held⟩)
  exact ⟨same.2, fun _ _ => by rw [same.1, if_neg tick]⟩

end Sys2Proof.Machine
end

section
/-! PROOFS. The rate factors of a bath: the temperature factor interpolated and rounded, the activity factor and the
combined factor (03 R46 to R51). -/

namespace Sys2Proof.Machine

/-! ### The temperature factor (03 R46, R47, R48) -/

/-- Clamping is the range's bounds taken by maximum and minimum. -/
theorem clampFactor_eq (v : Int) : clampFactor v = (max 256 (min 4095 v)).toNat := by
  unfold clampFactor
  split
  · omega
  · split <;> omega

theorem clampFactor_natCast (v : Nat) : clampFactor v = max 256 (min 4095 v) := by
  rw [clampFactor_eq]; omega

/-- Halves rounded away from zero, on either side of it (03 R47). -/
theorem roundBy20_add (p dr : Int) :
    p + roundBy20 dr = if 0 ≤ dr then p + (dr + 10) / 20 else p - (10 - dr) / 20 := by
  unfold roundBy20; split <;> omega

section
variable (x : Bath) (t : Int)

theorem Bath.deltaT_eq : x.deltaT t = max (-80) (min 80 (t - x.tRef)) := by
  unfold Bath.deltaT
  dsimp only
  split
  · omega
  · split <;> omega

theorem Bath.deltaClamped_eq : x.deltaClamped t = decide (t - x.tRef < -80 ∨ 80 < t - x.tRef) := by
  simp [Bath.deltaClamped]

/-- The interpolation between the point the clamped difference d has reached and the next one (03 R47). -/
def Bath.between (d : Int) : Int :=
  let k := ((d + 80) / 20).toNat
  let dr : Int := ((x.point (k + 1) : Int) - x.point k) * ((d + 80) % 20)
  if d = 80 then x.point 8 else if 0 ≤ dr then x.point k + (dr + 10) / 20 else x.point k - (10 - dr) / 20

theorem Bath.interpolate_eq : x.interpolate t = x.between (max (-80) (min 80 (t - x.tRef))) := by
  unfold Bath.interpolate Bath.between
  rw [Bath.deltaT_eq]
  generalize hd : max (-80) (min 80 (t - (x.tRef : Int))) = d
  have low : -80 ≤ d := by omega
  have high : d ≤ 80 := by omega
  have point : (d + 80).toNat / 20 = ((d + 80) / 20).toNat := by omega
  have rest : (((d + 80).toNat - 20 * ((d + 80) / 20).toNat : Nat) : Int) = (d + 80) % 20 := by omega
  have last : ((d + 80) / 20).toNat = 8 ↔ d = 80 := by omega
  simp only [point, rest, last, roundBy20_add]

/-- Rounding a value between two points leaves it between them, the later point excluded from the remainder (03 R47). -/
theorem rounded_between {p q r : Int} (r0 : 0 ≤ r) (r20 : r < 20) :
    let dr := (q - p) * r
    let v := if 0 ≤ dr then p + (dr + 10) / 20 else p - (10 - dr) / 20
    min p q ≤ v ∧ v ≤ max p q := by
  dsimp only
  obtain up | down := le_or_gt p q
  · have lower : 0 ≤ (q - p) * r := mul_nonneg (by omega) r0
    have upper : (q - p) * r ≤ (q - p) * 19 := mul_le_mul_of_nonneg_left (by omega) (by omega)
    rw [if_pos lower]
    omega
  · have upper : (q - p) * r ≤ 0 := mul_nonpos_of_nonpos_of_nonneg (by omega) r0
    have lower : (q - p) * 19 ≤ (q - p) * r := mul_le_mul_of_nonpos_left (by omega) (by omega)
    split <;> omega

variable {x}

/-- Points of a table of nine in range are read in range. -/
theorem Bath.point_mem (length : x.points.length = 9) (inRange : ∀ p ∈ x.points, 256 ≤ p ∧ p ≤ 4095) {k : Nat}
    (h : k ≤ 8) : 256 ≤ x.point k ∧ x.point k ≤ 4095 := by
  have hk : k < x.points.length := by omega
  rw [Bath.point, List.getD_eq_getElem _ _ hk]
  exact inRange _ (List.getElem_mem hk)

/-- Between points in range the interpolated value is in range: the clamp of R47 acts on no table that BATH TABLE SET
takes. -/
theorem Bath.between_range (length : x.points.length = 9) (inRange : ∀ p ∈ x.points, 256 ≤ p ∧ p ≤ 4095) {d : Int}
    (low : -80 ≤ d) (high : d ≤ 80) : 256 ≤ x.between d ∧ x.between d ≤ 4095 := by
  unfold Bath.between
  dsimp only
  split
  · have := Bath.point_mem length inRange (le_refl 8)
    omega
  · have here := Bath.point_mem length inRange (show ((d + 80) / 20).toNat ≤ 8 by omega)
    have next := Bath.point_mem length inRange (show ((d + 80) / 20).toNat + 1 ≤ 8 by omega)
    have within := rounded_between (p := x.point ((d + 80) / 20).toNat) (q := x.point (((d + 80) / 20).toNat + 1))
      (show 0 ≤ (d + 80) % 20 by omega) (show (d + 80) % 20 < 20 by omega)
    dsimp only at within
    omega

theorem Bath.tempFactor_none (h : x.status = .none) : x.tempFactor = (x.point 4, false) := by
  simp [Bath.tempFactor, h]

theorem Bath.tempFactor_some {t : Int} (h : x.status ≠ .none) (ht : x.temp = some t) :
    x.tempFactor = (clampFactor (x.interpolate t),
      x.deltaClamped t || decide (x.interpolate t < 256) || decide (4095 < x.interpolate t)) := by
  unfold Bath.tempFactor
  split
  · exact absurd ‹_› h
  · simp_all
  · simp_all

end

/-! ### The activity factor and the combined factor (03 R49, R50, R51) -/

/-- The activity factor falls by the owed volume's part of the slope down to its floor (03 R49). -/
theorem Bath.activityFactor_eq (x : Bath) : x.activityFactor =
    (if 512 < x.owed * x.slope / 256 then 512 else 1024 - x.owed * x.slope / 256,
      decide (512 < x.owed * x.slope / 256)) := by
  unfold Bath.activityFactor
  dsimp only
  split <;> simp_all

/-- Settles O19: the factors by their equations, and the interpolation that stays between two points of the table. -/
theorem rateFactors : Obligations.RateFactors := by
  refine ⟨fun x t => ⟨Bath.tempFactor_none, fun fresh ht => ?temperature⟩, fun x => ?activity⟩
  case temperature =>
    refine ⟨?_, fun length inRange => Bath.between_range length inRange (by omega) (by omega)⟩
    rw [Bath.tempFactor_some fresh ht, Bath.interpolate_eq, Bath.deltaClamped_eq, clampFactor_eq]
    simp only [← Bool.decide_or, or_assoc]
    rfl
  case activity =>
    intro q g v
    have factor : x.activityFactor = (g, decide (512 < q)) := x.activityFactor_eq
    have bound : g ≤ 1024 := by have := x.activityFactor_range.2; rwa [factor] at this
    simp only [Bath.computeFactors, factor, clampFactor_natCast, ← Bool.decide_or, or_assoc]
    exact ⟨trivial, bound, fun flat => by simp [g, q, flat], trivial, trivial, rfl, rfl⟩

end Sys2Proof.Machine
end

section
/-! PROOFS. DUE and OVERTIME: the rack that becomes due, the request it is given and the LIFT it may bring, and the
overtime flag (03 R60, R61, R63, 05 R84, R87, R88, 06 R115). -/

namespace Sys2Proof.Machine

variable {s : State} {k : Nat} {r : Rack} {h : Hoist} {o : Order}

/-! ### The request a due rack is given (05 R84, R87, R88) -/

/-- A request created takes a free station of the table at once, or is BLOCKED and leaves the station map alone (05 R84,
R88). -/
theorem State.createRequest_directs (hr : s.racks.get k = some r) : ∃ q ∈ (s.createRequest k).requests.get k,
    q.undirected = s.freshRequest r ∧
      (q.st = .blocked ∧ q.dest = none ∧ (s.createRequest k).stations = s.stations ∨
        q.st = .ready ∧ ∃ d ∈ q.dest, d < 32 ∧ (s.stations.get d).occ = .empty ∧
          (s.stations.get d).inService = true ∧
          (s.createRequest k).stations = s.stations.set d { s.stations.get d with occ := .reservedRack k }) := by
  have hk := Table.lt_of_get_some hr
  have fresh : (s.setRequest k (some (s.freshRequest r))).requests.get k = some (s.freshRequest r) :=
    Table.get_set_self _ hk _
  rw [State.createRequest_eq hr]
  obtain ⟨none, -⟩ | ⟨q, x, hq, -, ⟨-, e⟩ | ⟨d, free, e⟩⟩ :=
    (s.setRequest k (some (s.freshRequest r))).chooseDestination_cases k
  · rw [fresh] at none
    obtain none | none := none
    · cases none
    · exact absurd (hr.symm.trans none) nofun
  all_goals
    obtain rfl : s.freshRequest r = q := Option.some.inj (fresh.symm.trans hq)
    rw [e]
    refine ⟨_, Table.get_set_self _ hk _, rfl, ?_⟩
  · exact .inl ⟨rfl, rfl, rfl⟩
  · obtain ⟨hd, isFree, -⟩ := State.nearestFree_some free
    obtain ⟨empty, inService⟩ := (Station.isFree_iff _).mp isFree
    exact .inr ⟨rfl, d, rfl, hd, empty, inService, rfl⟩

theorem State.requestIfNone_none (hq : s.requests.get k = none) :
    s.requestIfNone k = (s.createRequest k).triggerPass := by simp only [State.requestIfNone, hq]

theorem State.requestIfNone_some (hq : s.requests.get k ≠ none) : s.requestIfNone k = s := by
  obtain ⟨q, hq⟩ := Option.ne_none_iff_exists'.mp hq
  simp only [State.requestIfNone, hq]

/-- A rack whose record may gain a request keeps all of it but its destination. -/
theorem State.requestIfNone_rack (s : State) (k j : Nat) :
    ((s.requestIfNone k).racks.get j).map Rack.undirected = (s.racks.get j).map Rack.undirected := by
  by_cases hq : s.requests.get k = none
  · rw [State.requestIfNone_none hq]
    cases hr : s.racks.get k with
    | none => rw [State.createRequest_none hr]; rfl
    | some r =>
      have made := State.createRequest_made hr
      by_cases hj : j = k
      · subst hj; rw [hr]; exact made.rack
      · exact congrArg (Option.map Rack.undirected) (made.others j hj).1
  · rw [State.requestIfNone_some hq]

/-! ### The LIFT of a hoist POISED over a due rack (06 R115) -/

/-- LIFT sent for the open order o of hoist h: phase RELEASED with its timer, and the source left by its generator and
its seat window (06 R113, R115, 08 R153, 10 R177). -/
def State.liftSent (s : State) (h : Hoist) (o : Order) : State :=
  { s.setHoist h { s.hoist h with
      order := some { o with phase := .released }, timer := some (s.hoist h).timing.lift
      suspended := decide (s.line.st = .halt) } with
    link := s.link.send h.channel (.lift o.number)
    marks := s.marks.set o.source .out
    windows := s.windows.set o.source none }

theorem State.releaseLift_eq (ho : (s.hoist h).order = some o) : s.releaseLift h = s.liftSent h o := by
  cases h <;> simp only [State.releaseLift, ho] <;> rfl

theorem State.liftSent_hoist (s : State) (h : Hoist) (o : Order) (g : Hoist) : (s.liftSent h o).hoist g =
    if g = h then { s.hoist h with
      order := some { o with phase := .released }, timer := some (s.hoist h).timing.lift
      suspended := decide (s.line.st = .halt) } else s.hoist g := by
  cases g <;> cases h <;> rfl

/-- A due rack sends LIFT exactly where its order is POISED with no cancel outstanding (03 R60, 06 R115, R122). -/
theorem State.liftIfPoised_cases (s : State) (k : Nat) :
    (s.liftIfPoised k = s ∧ ∀ h o, s.orderFor k = some (h, o) → o.phase ≠ .poised ∨ o.cancelOut = true) ∨
    ∃ h o, s.orderFor k = some (h, o) ∧ (s.hoist h).order = some o ∧ o.phase = .poised ∧ o.cancelOut = false ∧
      s.liftIfPoised k = s.liftSent h o := by
  unfold State.liftIfPoised
  split
  · next h o e =>
    have ho := State.orderFor_order e
    split
    · next poised => exact .inr ⟨h, o, e, ho, poised.1, poised.2, State.releaseLift_eq ho⟩
    · next not =>
      refine .inl ⟨rfl, fun g p e' => ?_⟩
      obtain ⟨rfl, rfl⟩ : h = g ∧ o = p := by simpa [e] using e'
      simpa [imp_iff_not_or] using not
  · next e => exact .inl ⟨rfl, fun h o e' => by rw [e] at e'; cases e'⟩

/-! ### DUE (03 R60) -/

/-- The record of a rack that becomes DUE at a tick (03 R60). -/
def Rack.dueAt (r : Rack) (now : TickCount) : Rack := { r with st := .due, dueTick := some now }

theorem Rack.reached_iff (r : Rack) : r.reached = true ↔ r.st = .immersed ∧ r.target ≤ r.acc := by
  simp [Rack.reached]

theorem State.makeDue_reached (hr : s.racks.get k = some r) (reached : r.reached = true) :
    s.makeDue k = ((s.setRack k (some (r.dueAt s.tick))).requestIfNone k).liftIfPoised k := by
  simp only [State.makeDue, hr, reached, if_true]; rfl

theorem State.makeDue_unreached (h : ∀ r ∈ s.racks.get k, r.reached = false) : s.makeDue k = s := by
  unfold State.makeDue
  split
  · next r hr => simp [h r hr]
  · rfl

theorem exec_due (running : s.resetHeld = false) (k : Nat) : exec (.due k) s = .next (s.makeDue k).driveOutputs := by
  unfold exec execDue; exact liveDriven_next running _

/-! ### OVERTIME (03 R63) -/

/-- A rack in a step is overdue: its overrun exceeds the step's late tolerance, where that is not unlimited, and the
flag is not yet set (03 R63). -/
def Rack.overdue (r : Rack) (st : RecipeStep) : Bool :=
  decide (r.st = .due ∧ st.tolerance ≠ 65535 ∧ st.tolerance < r.overrun ∧ StepFlag.overtime ∉ r.flags)

theorem State.overtimeTest_eq {st : RecipeStep} (hr : s.racks.get k = some r) (step : s.currentStep r = some st) :
    s.overtimeTest k = if r.overdue st then
      (s.setRack k (some { r with flags := StepFlag.overtime.addTo r.flags })).notify
        (.rack (.overtime r.overrun st.tolerance) r.id k r.st r.stepIdx r.station)
    else s := by
  simp only [State.overtimeTest, hr, step, Rack.overdue, decide_eq_true_eq]
  rfl

theorem exec_overtime (running : s.resetHeld = false) (k : Nat) :
    exec (.overtime k) s = .next (s.overtimeTest k).driveOutputs := by
  unfold exec execOvertime; exact liveDriven_next running _

/-! ### The two commands -/

/-- What DUE hands on for the rack r of slot k, from s to t: the record due at the present tick, a request, and LIFT
where a hoist is POISED over the rack (03 R60, R61, 05 R84, R87, R88, 06 R115). -/
theorem State.makeDue_handsOn (hr : s.racks.get k = some r) (reached : r.reached = true) :
    (∃ r' ∈ (s.makeDue k).racks.get k, r'.undirected = (r.dueAt s.tick).undirected) ∧
    (s.requests.get k = none → (s.makeDue k).dispatcher.passesOwed = s.dispatcher.passesOwed + 1 ∧
      ∃ q ∈ (s.makeDue k).requests.get k, q.undirected = s.freshRequest r ∧
        (q.st = .blocked ∧ q.dest = none ∧ (s.makeDue k).stations = s.stations ∨
          q.st = .ready ∧ ∃ d ∈ q.dest, d < 32 ∧ (s.stations.get d).occ = .empty ∧
            (s.stations.get d).inService = true ∧
            (s.makeDue k).stations = s.stations.set d { s.stations.get d with occ := .reservedRack k })) ∧
    (s.requests.get k ≠ none → (s.makeDue k).requests = s.requests ∧ (s.makeDue k).stations = s.stations) := by
  have hk := Table.lt_of_get_some hr
  have due : (s.setRack k (some (r.dueAt s.tick))).racks.get k = some (r.dueAt s.tick) := Table.get_set_self _ hk _
  rw [State.makeDue_reached hr reached]
  refine ⟨?record, fun hq => ?made, fun hq => ?had⟩
  case record =>
    have kept := State.requestIfNone_rack (s.setRack k (some (r.dueAt s.tick))) k k
    rw [due, Option.map_some, Option.map_eq_some_iff] at kept
    obtain ⟨r', hr', same⟩ := kept
    exact ⟨r', by rwa [State.liftIfPoised_racks], same⟩
  case made =>
    rw [State.liftIfPoised_dispatcher, State.liftIfPoised_requests, State.liftIfPoised_stations,
      State.requestIfNone_none (s := s.setRack k (some (r.dueAt s.tick))) hq]
    have directed := State.createRequest_directs due
    refine ⟨?_, directed⟩
    rw [State.triggerPass, State.createRequest_dispatcher]; rfl
  case had =>
    rw [State.liftIfPoised_requests, State.liftIfPoised_stations,
      State.requestIfNone_some (s := s.setRack k (some (r.dueAt s.tick))) hq]
    exact ⟨rfl, rfl⟩

/-- The hoists, the agitation marks and the link after DUE: LIFT for an order POISED with no cancel outstanding, and
nothing otherwise (03 R60, 06 R115, R122). -/
theorem State.makeDue_lifts (hr : s.racks.get k = some r) (reached : r.reached = true)
    (order : s.orderFor k = some (h, o)) :
    (o.phase = .poised → o.cancelOut = false → ((s.makeDue k).hoist h).order = some { o with phase := .released } ∧
      ((s.makeDue k).hoist h).timer = some (s.hoist h).timing.lift ∧
      (s.makeDue k).marks = s.marks.set o.source .out ∧
      (s.makeDue k).link = s.link.send h.channel (.lift o.number)) ∧
    (o.phase ≠ .poised ∨ o.cancelOut = true →
      (s.makeDue k).hoistA = s.hoistA ∧ (s.makeDue k).hoistB = s.hoistB ∧ (s.makeDue k).link = s.link) := by
  rw [State.makeDue_reached hr reached]
  generalize hv : (s.setRack k (some (r.dueAt s.tick))).requestIfNone k = v
  have hoistA : v.hoistA = s.hoistA := by rw [← hv]; simp
  have hoistB : v.hoistB = s.hoistB := by rw [← hv]; simp
  have link : v.link = s.link := by rw [← hv]; simp
  have marks : v.marks = s.marks := by rw [← hv]; simp
  have hoist (g : Hoist) : v.hoist g = s.hoist g := by cases g; exacts [hoistA, hoistB]
  have order : v.orderFor k = some (h, o) := by rw [← order]; unfold State.orderFor; rw [hoistA, hoistB]
  obtain ⟨same, not⟩ | ⟨g, p, e, -, poised, quiet, lifted⟩ := v.liftIfPoised_cases k
  · refine ⟨fun poised quiet => ?_, fun _ => by rw [same]; exact ⟨hoistA, hoistB, link⟩⟩
    obtain other | out := not h o order
    · exact absurd poised other
    · rw [quiet] at out; cases out
  · obtain ⟨rfl, rfl⟩ : h = g ∧ o = p := by simpa [order] using e
    refine ⟨fun _ _ => ?_, fun other => ?_⟩
    · rw [lifted, State.liftSent_hoist, if_pos rfl, hoist]
      refine ⟨rfl, rfl, ?_, ?_⟩
      · show v.marks.set o.source .out = _
        rw [marks]
      · show v.link.send h.channel (.lift o.number) = _
        rw [link]
    · obtain other | out := other
      · exact absurd poised other
      · rw [quiet] at out; cases out

/-- Settles O52: the commands run the two operations, whose effects are those of the tick. -/
theorem dueAndOvertime : Obligations.DueAndOvertime := by
  refine ⟨fun s k r h o running hk hr => ⟨fun not => ?waits, fun immersed target => ?due⟩,
    fun s k r st running hk hr step => ?overtime⟩
  case waits =>
    rw [exec_due running, State.makeDue_unreached]
    intro x hx
    obtain rfl : r = x := Option.some.inj (hr.symm.trans hx)
    rwa [← Bool.not_eq_true, Rack.reached_iff]
  case due =>
    have reached := (Rack.reached_iff r).mpr ⟨immersed, target⟩
    obtain ⟨⟨r', hr', same⟩, made, had⟩ := State.makeDue_handsOn hr reached
    refine ⟨_, exec_due running k, ⟨r', hr', ?_⟩, ?_, fun hq => ?_, fun hq => had hq, fun order poised quiet _ => ?_,
      fun order other => (State.makeDue_lifts hr reached order).2 other, s.makeDue_line k, s.makeDue_baths k,
      s.makeDue_tick k⟩
    · exact congrArg (fun x : Rack => { x with dest := r.dest }) same
    · by_cases hq : s.requests.get k = none
      · obtain ⟨-, q, hq, -⟩ := made hq
        exact Option.isSome_iff_exists.mpr ⟨q, hq⟩
      · show ((s.makeDue k).requests.get k).isSome = true
        rw [(had hq).1]
        exact Option.isSome_iff_ne_none.mpr hq
    · obtain ⟨passes, q, hq, fresh, directed⟩ := made hq
      have form {β : Type} (part : Request → β) (h : ∀ x, part x.undirected = part x) :
          part q = part (s.freshRequest r) := by rw [← h q, fresh]
      exact ⟨passes, q, hq, form (·.source) (fun _ => rfl), form (·.cls) (fun _ => rfl), form (·.created) (fun _ => rfl),
        form (·.markA) (fun _ => rfl), form (·.markB) (fun _ => rfl), directed⟩
    · obtain ⟨order, timer, marks, link⟩ := (State.makeDue_lifts hr reached order).1 poised quiet
      exact ⟨order, timer, fun source => by
        show (s.makeDue k).marks.get o.source = .out
        rw [marks, Table.get_set_self _ source], link⟩
  case overtime =>
    rw [exec_overtime running, State.overtimeTest_eq hr step]
    unfold Rack.overdue
    simp only [decide_eq_true_eq]
    congr 2
    split
    · next overdue => rw [StepFlag.addTo, if_neg overdue.2.2.2]; rfl
    · rfl

end Sys2Proof.Machine
end

section
/-! PROOFS. The stages of LINE_TICK, the loops they are made of, and what every operation of a tick carries on: the
notices told, the causes and the passes owed (03 R44, R45, 05 R97, 09 R160, 11 R192). -/

namespace Sys2Proof.Machine

variable {s t u : State}

/-! ### Loops over numbers -/

/-- A loop that comes to a number once: P holds until its turn, the turn brings Q, and Q stays. -/
theorem State.foldl_turn {f : State → Nat → State} {P Q : State → Prop} {l : List Nat} {k : Nat} (nodup : l.Nodup)
    (mem : k ∈ l) (before : ∀ u, ∀ j ∈ l, j ≠ k → P u → P (f u j)) (turn : ∀ u, P u → Q (f u k))
    (after : ∀ u, ∀ j ∈ l, j ≠ k → Q u → Q (f u j)) (start : P s) : Q (l.foldl f s) := by
  obtain ⟨pre, post, rfl⟩ := List.append_of_mem mem
  have others (j : Nat) (hj : j ∈ pre ∨ j ∈ post) : j ∈ pre ++ k :: post ∧ j ≠ k := by
    refine ⟨by simpa using hj.imp id .inr, ?_⟩
    rintro rfl
    obtain ⟨-, fresh, apart⟩ := List.nodup_append.mp nodup
    exact hj.elim (fun h => apart _ h _ List.mem_cons_self rfl) (List.nodup_cons.mp fresh).1
  rw [List.foldl_append, List.foldl_cons]
  refine List.foldlRecOn post f (turn _ (List.foldlRecOn pre f start fun u hu j hj => ?_)) fun u hu j hj => ?_
  · obtain ⟨here, ne⟩ := others j (.inl hj)
    exact before u j here ne hu
  · obtain ⟨here, ne⟩ := others j (.inr hj)
    exact after u j here ne hu

/-! ### What every operation of a tick carries on -/

/-- From s to t notices told stay told, causes stay, and the passes owed do not fall. -/
structure State.Carries (s t : State) : Prop where
  notices : s.link.KeepsNotices t.link
  causes  : s.line.causes ⊆ t.line.causes
  passes  : s.dispatcher.passesOwed ≤ t.dispatcher.passesOwed

namespace State.Carries

theorem refl (s : State) : s.Carries s := ⟨.refl _, fun _ h => h, Nat.le_refl _⟩

theorem trans (h : s.Carries t) (g : t.Carries u) : s.Carries u :=
  ⟨h.notices.trans g.notices, fun _ hc => g.causes (h.causes hc), h.passes.trans g.passes⟩

theorem of_same (link : t.link = s.link) (line : t.line = s.line) (dispatcher : t.dispatcher = s.dispatcher) :
    s.Carries t :=
  ⟨link ▸ .refl _, line ▸ fun _ h => h, dispatcher ▸ Nat.le_refl _⟩

theorem foldl {f : State → Nat → State} (hf : ∀ (u : State) (j : Nat), u.Carries (f u j)) (l : List Nat) (s : State) :
    s.Carries (l.foldl f s) :=
  List.foldlRecOn l f (refl s) fun u h j _ => h.trans (hf u j)

theorem notify (s : State) (m : OutMsg) : s.Carries (s.notify m) :=
  ⟨s.link.notify_keepsNotices m, fun _ h => h, Nat.le_refl _⟩

theorem triggerPass (s : State) : s.Carries s.triggerPass := ⟨.refl _, fun _ h => h, Nat.le_succ _⟩

theorem retried (h : s.Retried t) : s.Carries t :=
  ⟨h.link ▸ .refl _, h.line ▸ fun _ h => h, h.passes⟩

end State.Carries

/-- A cause that does not halt the line joins the causes there are (09 R160). -/
theorem State.mem_causes_addCause {c : Cause} (hc : c.isHalt = false) (d : Cause) :
    d ∈ (s.addCause c).line.causes ↔ d = c ∨ d ∈ s.line.causes := by
  unfold State.addCause
  split
  · next here => exact ⟨.inr, fun h => h.elim (fun e => e ▸ here) id⟩
  · show d ∈ (State.moveFor _ c).line.causes ↔ _
    rw [State.moveFor_line hc]
    split <;> exact Cause.mem_addTo _ _ _

theorem State.Carries.addCause (s : State) {c : Cause} (hc : c.isHalt = false) : s.Carries (s.addCause c) where
  notices := by
    obtain e | ⟨m, e⟩ := State.addCause_link (s := s) hc
    · rw [e]; exact .refl _
    · rw [e]; exact s.link.notify_keepsNotices m
  causes d h := (State.mem_causes_addCause hc d).mpr (.inr h)
  passes := by rw [State.addCause_dispatcher]

/-- Such a cause leaves the hoists and span control alone. -/
theorem State.addCause_hoist_eq {c : Cause} (hc : c.isHalt = false) (g : Hoist) :
    (s.addCause c).hoist g = s.hoist g := by
  rw [State.addCause_rest hc]; cases g <;> rfl

theorem State.addCause_span_eq {c : Cause} (hc : c.isHalt = false) : (s.addCause c).span = s.span := by
  rw [State.addCause_rest hc]

/-! ### The stages of LINE_TICK (log 5) -/

/-- A bath's turn at a tick: FRESH to STALE, and STALE to LAPSED (04 R71). -/
def State.bathTurn (s : State) (b : Nat) : State := (s.becomeStale b).becomeLapsed b

/-- After the counts, the load and the advance of the racks (03 R45 steps 1 and 2). -/
def State.tickAdvanced (s : State) : State := s.countTick.loadPending.advanceRacks

/-- After the racks that have reached their targets have become DUE (03 R60). -/
def State.tickDue (s : State) : State := (List.range 24).foldl State.makeDue s.tickAdvanced

/-- After the overrun of the racks that were DUE (03 R62, R63). -/
def State.tickOverrun (s : State) : State := s.countTick.dueSlots.foldl State.overrunOne s.tickDue

/-- After the turns of the baths (04 R71). -/
def State.tickBaths (s : State) : State := (List.range 8).foldl State.bathTurn s.tickOverrun

/-- After the expiry of the phase timers and of the acknowledgement timer (06 R123, 07 R141). -/
def State.tickTimers (s : State) : State := ((s.tickBaths.expirePhase .a).expirePhase .b).expireAck

/-- After the expiry of the seat windows (10 R177). -/
def State.tickWindows (s : State) : State := (List.range 32).foldl State.expireWindow s.tickTimers

theorem exec_lineTick_stages (running : s.resetHeld = false) :
    exec .lineTick s = .next s.tickWindows.triggerPass.driveOutputs := exec_lineTick running

theorem State.loadPending_eq (s : State) : s.loadPending =
    { s with baths := if s.phase = 0 then s.baths.map Bath.loadFactors else s.baths } := by
  unfold State.loadPending; split <;> rfl

/-- The advance of a tick counts, and writes the baths and the racks besides. -/
theorem State.tickAdvanced_eq (s : State) : s.tickAdvanced =
    { s.countTick with baths := s.countTick.loadPending.baths, racks := s.tickAdvanced.racks } := by
  unfold State.tickAdvanced State.advanceRacks
  rw [State.loadPending_eq]

/-! ### Each operation of the tick carries -/

namespace State.Carries

theorem requestIfNone (s : State) (k : Nat) : s.Carries (s.requestIfNone k) := by
  by_cases hq : s.requests.get k = none
  · rw [State.requestIfNone_none hq]
    exact (of_same (by simp) (by simp) (by simp)).trans (triggerPass _)
  · rw [State.requestIfNone_some hq]; exact refl s

theorem liftSent (s : State) (h : Hoist) (o : Order) : s.Carries (s.liftSent h o) where
  notices := s.link.send_keepsNotices (by cases h <;> decide) _
  causes := by cases h <;> exact fun _ h => h
  passes := by cases h <;> exact Nat.le_refl _

theorem liftIfPoised (s : State) (k : Nat) : s.Carries (s.liftIfPoised k) := by
  obtain ⟨e, -⟩ | ⟨h, o, -, -, -, -, e⟩ := s.liftIfPoised_cases k <;> rw [e]
  · exact refl s
  · exact liftSent s h o

theorem makeDue (s : State) (k : Nat) : s.Carries (s.makeDue k) := by
  unfold State.makeDue
  split
  · split
    · exact ((of_same rfl rfl rfl : s.Carries (s.setRack k _)).trans (requestIfNone _ k)).trans (liftIfPoised _ k)
    · exact refl s
  · exact refl s

theorem overtimeTest (s : State) (k : Nat) : s.Carries (s.overtimeTest k) := by
  unfold State.overtimeTest
  repeat' split
  · exact (of_same rfl rfl rfl : s.Carries (s.setRack k _)).trans (notify _ _)
  all_goals exact refl s

theorem overrunOne (s : State) (k : Nat) : s.Carries (s.overrunOne k) := by
  unfold State.overrunOne
  repeat' split
  · exact (of_same rfl rfl rfl : s.Carries (s.setRack k _)).trans (overtimeTest _ k)
  all_goals exact refl s

theorem becomeStale (s : State) (b : Nat) : s.Carries (s.becomeStale b) := by
  unfold State.becomeStale
  dsimp only
  split
  · exact (of_same rfl rfl rfl : s.Carries (s.setBath b _)).trans (notify _ _)
  · exact refl s

theorem becomeLapsed (s : State) (b : Nat) : s.Carries (s.becomeLapsed b) := by
  have told (x : Bath) : s.Carries ((s.setBath b x).bathNotice .lapsed b) :=
    (of_same rfl rfl rfl : s.Carries (s.setBath b x)).trans (notify _ _)
  unfold State.becomeLapsed
  dsimp only
  split
  · split
    · exact (told _).trans (addCause _ rfl)
    · exact told _
  · exact refl s

theorem bathTurn (s : State) (b : Nat) : s.Carries (s.bathTurn b) := (becomeStale s b).trans (becomeLapsed _ b)

theorem returnRequest (s : State) (k : Nat) : s.Carries (s.returnRequest k) := of_same (by simp) (by simp) (by simp)

theorem strand (s : State) (k : Nat) (lifted : Bool) : s.Carries (s.strand k lifted) := by
  unfold State.strand
  split
  · refine ((((of_same ?_ ?_ ?_).trans (notify _ _)).trans (retried (.retryIf _ _))).trans (retried (.retryIf _ _))) <;>
      simp
  · exact refl s

theorem faultClose (s : State) (o : Order) : s.Carries (s.faultClose o) := by
  unfold State.faultClose
  split
  · exact returnRequest s _
  · exact returnRequest s _
  · exact returnRequest s _
  · split
    · exact returnRequest s _
    · exact strand s _ _
  · exact strand s _ _

theorem faultCloseOpen (s : State) (h : Hoist) : s.Carries (s.faultCloseOpen h) := by
  unfold State.faultCloseOpen
  split
  · exact (of_same (by simp) (by simp) (by simp) : s.Carries (s.setHoist h _)).trans (faultClose _ _)
  · exact refl s

theorem handoverFault (s : State) (h : Hoist) : s.Carries (s.handoverFault h) := by
  have returned (hv : Handover) : s.Carries (s.returnBound.setHandover hv) := of_same (by simp) (by simp) (by simp)
  unfold State.handoverFault
  dsimp only
  split
  · exact refl s
  · split
    · exact (returned _).trans (triggerPass _)
    · exact (returned Handover.blank).trans (triggerPass _)

theorem enterFault (s : State) (h : Hoist) (reason : FaultReason) : s.Carries (s.enterFault h reason) :=
  (((of_same (by simp) (by simp) (by simp) : s.Carries (s.setHoist h _)).trans (faultCloseOpen _ h)).trans
    (addCause _ (by cases h <;> rfl))).trans (handoverFault _ h)

theorem expirePhase (s : State) (h : Hoist) : s.Carries (s.expirePhase h) := by
  unfold State.expirePhase
  dsimp only
  split
  · exact enterFault _ _ _
  · exact refl s

theorem expireAck (s : State) : s.Carries s.expireAck := by
  unfold State.expireAck
  dsimp only
  split
  · exact (addCause s rfl).trans (enterFault _ _ _)
  · exact enterFault _ _ _
  · exact refl s

theorem expireWindow (s : State) (n : Nat) : s.Carries (s.expireWindow n) := of_same (by simp) (by simp) (by simp)

/-! ### The stages carry -/

theorem toDue (s : State) : s.Carries s.tickDue :=
  (of_same (by rw [State.tickAdvanced_eq]; rfl) (by rw [State.tickAdvanced_eq]; rfl)
    (by rw [State.tickAdvanced_eq]; rfl) : s.Carries s.tickAdvanced).trans (foldl makeDue _ _)

theorem fromDue (s : State) : s.tickDue.Carries s.tickOverrun := foldl overrunOne _ _

theorem fromOverrun (s : State) : s.tickOverrun.Carries s.tickBaths := foldl bathTurn _ _

theorem fromBaths (s : State) : s.tickBaths.Carries s.tickTimers :=
  ((expirePhase _ .a).trans (expirePhase _ .b)).trans (expireAck _)

theorem fromTimers (s : State) : s.tickTimers.Carries s.tickWindows := foldl expireWindow _ _

end State.Carries

end Sys2Proof.Machine
end

section
/-! PROOFS. The racks at a tick, up to the end of the compensation unit's work: advanced, handed on where they become
DUE, and overrun where they were DUE (03 R45, R51, R56, R57, R60, R62, R63, 04 R72, 08 R155, R156). -/

namespace Sys2Proof.Machine

variable {s t u : State} {k : Nat} {r : Rack} {st : RecipeStep}

/-! ### Tables mapped (03 R54, 04 R71) -/

/-- A map that leaves the default record alone is read at every number. -/
theorem Table.get_map_all {α : Type} [Inhabited α] {n : Nat} (t : Table α n) {f : α → α} (h : f default = default)
    (i : Nat) : (t.map f).get i = f (t.get i) := by
  by_cases hi : i < n
  · exact t.get_map f hi
  · rw [Table.get_outside _ (by omega), Table.get_outside _ (by omega), h]

/-! ### The baths as the racks find them (03 R54, 04 R71) -/

/-- A bath's record with its stale count and its factor record at a tick of phase p (03 R54, 04 R71). -/
def Bath.atTick (x : Bath) (p : Nat) : Bath :=
  { x with
    staleCount := if x.status = .none then x.staleCount else min 65535 (x.staleCount + 1)
    active := if p = 0 then x.pendingF.getD x.active else x.active
    pendingF := if p = 0 then none else x.pendingF }

theorem saturate_eq_min (limit n : Nat) : saturate limit n = min limit (n + 1) := by
  unfold saturate; split <;> omega

theorem Bath.age_eq (x : Bath) : x.age =
    { x with staleCount := if x.status = .none then x.staleCount else min 65535 (x.staleCount + 1) } := by
  unfold Bath.age
  split
  · rfl
  · rw [saturate_eq_min]

theorem Bath.loadFactors_eq (x : Bath) :
    x.loadFactors = { x with active := x.pendingF.getD x.active, pendingF := none } := by
  unfold Bath.loadFactors
  split
  · next h => rw [h]; rfl
  · next h => cases x; cases h; rfl

theorem State.countTick_phase (s : State) : s.countTick.phase = (s.tick + 1).toNat % 16 := rfl

theorem State.loadPending_bath (s : State) (b : Nat) :
    s.countTick.loadPending.baths.get b = (s.baths.get b).atTick ((s.tick + 1).toNat % 16) := by
  have aged : s.countTick.baths.get b = (s.baths.get b).age := Table.get_map_all _ rfl b
  rw [State.loadPending_eq, State.countTick_phase]
  dsimp only
  by_cases hp : (s.tick + 1).toNat % 16 = 0
  · rw [if_pos hp, Table.get_map_all _ rfl, aged, Bath.loadFactors_eq, Bath.age_eq, Bath.atTick, if_pos hp, if_pos hp]
  · rw [if_neg hp, aged, Bath.age_eq, Bath.atTick, if_neg hp, if_neg hp]

/-! ### A rack advanced (03 R51, R56, R57, 04 R72, 08 R155, R156) -/

theorem mem_addFlagIf (c : Bool) (f g : StepFlag) (l : List StepFlag) :
    g ∈ addFlagIf c f l ↔ g = f ∧ c = true ∨ g ∈ l := by
  cases c <;> simp [addFlagIf]

theorem addSaturating_eq_min (a d : Nat) : addSaturating a d = min 4294967295 (a + d) := by
  unfold addSaturating
  simp only [Config.max32]
  split <;> omega

theorem increment_eq (f p : Nat) :
    increment f p = f / 16 + (if 1 ≤ rev4 p ∧ rev4 p ≤ f % 16 then 1 else 0) := by
  simp [increment, spread]

/-- The advance of a tick writes a rack's accumulator and flags. -/
theorem State.advanceRack_form (s : State) (r : Rack) :
    s.advanceRack r = { r with acc := (s.advanceRack r).acc, flags := (s.advanceRack r).flags } := by
  unfold State.advanceRack
  repeat' split
  all_goals rfl

theorem State.advanceRack_outside (h : r.inBath = false) : s.advanceRack r = r := by
  rw [State.advanceRack, h]; rfl

theorem State.advanceRack_inside (h : r.inBath = true) (step : s.currentStep r = some st) :
    let x := s.baths.get (s.bathOfRack r)
    s.advanceRack r = { r with
      acc := addSaturating r.acc (increment (x.active.rate st.comp) s.phase)
      flags := addFlagIf (s.agitationLostAt (r.station.getD 0)) .agitationLost
        (addFlagIf (st.compensated && decide (Config.staleAt ≤ x.staleCount) && decide (x.status ≠ .none))
          .staleTemperature (addFlagIf (x.active.clampedFor st.comp) .factorClamped r.flags)) } := by
  simp only [State.advanceRack, h, step, if_true]

theorem State.tickAdvanced_rack (s : State) (k : Nat) :
    s.tickAdvanced.racks.get k = (s.racks.get k).map s.countTick.loadPending.advanceRack :=
  (Table.get_map_all _ rfl k).trans (congrArg (fun x : Table (Option Rack) 24 => (x.get k).map _)
    (show s.countTick.loadPending.racks = s.racks by rw [State.loadPending_eq]; rfl))

/-! ### A rack that becomes DUE (03 R60) -/

/-- A rack's record after the DUE test at a tick (03 R60). -/
def Rack.dueIf (r : Rack) (now : TickCount) : Rack := if r.reached then r.dueAt now else r

/-- The record in a slot is x, but for its destination. -/
def State.RackIs (s : State) (k : Nat) (x : Option Rack) : Prop :=
  (s.racks.get k).map Rack.undirected = x.map Rack.undirected

theorem State.RackIs.of_get {x : Option Rack} (h : s.racks.get k = x) : s.RackIs k x := congrArg _ h

theorem State.RackIs.record (h : s.RackIs k (some r)) : ∃ d, s.racks.get k = some { r with dest := d } := by
  obtain ⟨x, hx, same⟩ := Option.map_eq_some_iff.mp h
  obtain ⟨d, rfl⟩ := Rack.directed_of_undirected same
  exact ⟨d, hx⟩

theorem State.RackIs.none (h : s.RackIs k none) : s.racks.get k = none := Option.map_eq_none_iff.mp h

theorem State.RackIs.of_record {d : Option Nat} (h : s.racks.get k = some { r with dest := d }) :
    s.RackIs k (some r) := by
  unfold State.RackIs; rw [h]; rfl

theorem State.makeDue_rack_ne {x : Option Rack} {j : Nat} (h : s.RackIs k x) (hj : j ≠ k) :
    (s.makeDue j).RackIs k x := by
  by_cases due : ∃ r ∈ s.racks.get j, r.reached = true
  · obtain ⟨r, hr, reached⟩ := due
    unfold State.RackIs
    rw [State.makeDue_reached hr reached, State.liftIfPoised_racks, State.requestIfNone_rack, State.setRack_racks,
      Table.get_set_ne _ hj]
    exact h
  · rwa [State.makeDue_unreached (fun r hr => by rw [← Bool.not_eq_true]; exact fun h => due ⟨r, hr, h⟩)]

theorem State.makeDue_rack (h : s.RackIs k (some r)) : (s.makeDue k).RackIs k (some (r.dueIf s.tick)) := by
  obtain ⟨d, hr⟩ := h.record
  unfold Rack.dueIf
  split
  · next reached =>
    unfold State.RackIs
    rw [State.makeDue_reached hr reached, State.liftIfPoised_racks, State.requestIfNone_rack, State.setRack_racks,
      Table.get_set_self _ (Table.lt_of_get_some hr)]
    rfl
  · next not =>
    rw [State.makeDue_unreached (fun x hx => ?_)]
    · exact h
    · obtain rfl := Option.some.inj (hr.symm.trans hx)
      exact Bool.not_eq_true _ ▸ not

theorem State.makeDue_rack_none (h : s.RackIs k none) (j : Nat) : (s.makeDue j).RackIs k none := by
  by_cases hj : j = k
  · subst hj
    rwa [State.makeDue_unreached (fun r hr => by rw [h.none] at hr; cases hr)]
  · exact State.makeDue_rack_ne h hj

/-- The rack in a slot the loop comes to once (03 R45 step 3). -/
theorem State.foldl_makeDue_rack {l : List Nat} (nodup : l.Nodup) (mem : k ∈ l) (h : s.RackIs k (some r)) :
    (l.foldl State.makeDue s).RackIs k (some (r.dueIf s.tick)) := by
  refine State.foldl_turn (P := fun u => u.tick = s.tick ∧ u.RackIs k (some r))
    (Q := fun u => u.RackIs k (some (r.dueIf s.tick))) nodup mem (fun u j _ hj hu => ?_)
    (fun u hu => ?_) (fun u j _ hj hu => State.makeDue_rack_ne hu hj) ⟨rfl, h⟩
  · exact ⟨by rw [State.makeDue_tick]; exact hu.1, State.makeDue_rack_ne hu.2 hj⟩
  · rw [← hu.1]; exact State.makeDue_rack hu.2

theorem State.foldl_makeDue_rack_none (l : List Nat) (h : s.RackIs k none) : (l.foldl State.makeDue s).RackIs k none :=
  List.foldlRecOn l State.makeDue (motive := fun u => u.RackIs k none) h fun _ h j _ => State.makeDue_rack_none h j

/-! ### A rack that was DUE (03 R62, R63) -/

/-- A DUE rack's record after one more overrun tick, in a step or none (03 R62, R63). -/
def Rack.overran (r : Rack) (step : Option RecipeStep) : Rack :=
  let x := { r with overrun := addSaturating r.overrun 1 }
  if step.any x.overdue then { x with flags := StepFlag.overtime.addTo x.flags } else x

theorem State.overrunOne_other (h : ∀ r ∈ s.racks.get k, r.st ≠ .due) : s.overrunOne k = s := by
  unfold State.overrunOne
  split
  · next r hr => rw [if_neg (h r hr)]
  · rfl

theorem State.overrunOne_due (hr : s.racks.get k = some r) (due : r.st = .due) : s.overrunOne k =
    (s.setRack k (some { r with overrun := addSaturating r.overrun 1 })).overtimeTest k := by
  simp only [State.overrunOne, hr, due, if_true]

theorem State.overrunOne_rack (hr : s.racks.get k = some r) (due : r.st = .due) :
    (s.overrunOne k).racks.get k = some (r.overran (s.currentStep r)) := by
  have hk := Table.lt_of_get_some hr
  have here : (s.setRack k (some { r with overrun := addSaturating r.overrun 1 })).racks.get k =
    some { r with overrun := addSaturating r.overrun 1 } := Table.get_set_self _ hk _
  rw [State.overrunOne_due hr due, Rack.overran]
  cases step : s.currentStep r with
  | none =>
    have none : (s.setRack k (some { r with overrun := addSaturating r.overrun 1 })).currentStep
      { r with overrun := addSaturating r.overrun 1 } = .none := step
    simp only [State.overtimeTest, here, none]
    rfl
  | some st =>
    rw [State.overtimeTest_eq here (st := st) step, Option.any_some]
    split
    · exact Table.get_set_self _ hk _
    · exact here

theorem State.overrunOne_rack_ne {j : Nat} (h : k ≠ j) : (s.overrunOne j).racks.get k = s.racks.get k := by
  unfold State.overrunOne State.overtimeTest
  dsimp only
  repeat' split
  all_goals simp [h.symm]

/-- The notice of a rack whose overrun has passed its step's late tolerance (03 R63). -/
theorem State.overrunOne_noticed (hr : s.racks.get k = some r) (due : r.st = .due) (step : s.currentStep r = some st)
    (overdue : Rack.overdue { r with overrun := addSaturating r.overrun 1 } st = true) :
    (s.overrunOne k).Noticed
      (.rack (.overtime (addSaturating r.overrun 1) st.tolerance) r.id k r.st r.stepIdx r.station) := by
  have here : (s.setRack k (some { r with overrun := addSaturating r.overrun 1 })).racks.get k =
    some { r with overrun := addSaturating r.overrun 1 } := Table.get_set_self _ (Table.lt_of_get_some hr) _
  rw [State.overrunOne_due hr due, State.overtimeTest_eq here (st := st) step, if_pos overdue]
  exact State.noticed_notify _ _

theorem State.mem_dueSlots (s : State) (k : Nat) : k ∈ s.dueSlots ↔ k < 24 ∧ ∃ r ∈ s.racks.get k, r.st = .due := by
  unfold State.dueSlots
  rw [Table.mem_indices]
  cases s.racks.get k <;> simp

theorem Rack.overran_dest (r : Rack) (step : Option RecipeStep) (d : Option Nat) :
    Rack.overran { r with dest := d } step = { r.overran step with dest := d } := by
  unfold Rack.overran
  dsimp only
  rw [show Rack.overdue { r with dest := d, overrun := addSaturating r.overrun 1 } =
    Rack.overdue { r with overrun := addSaturating r.overrun 1 } from rfl]
  split <;> rfl

theorem State.overrunOne_rackIs_ne {x : Option Rack} {j : Nat} (h : s.RackIs k x) (hj : j ≠ k) :
    (s.overrunOne j).RackIs k x := by
  unfold State.RackIs; rwa [State.overrunOne_rack_ne hj.symm]

theorem State.overrunOne_rack_none (h : s.RackIs k none) (j : Nat) : (s.overrunOne j).RackIs k none := by
  by_cases hj : j = k
  · subst hj
    rwa [State.overrunOne_other (fun r hr => by rw [h.none] at hr; cases hr)]
  · exact State.overrunOne_rackIs_ne h hj

/-- The DUE rack r in slot k has been overrun in its step, with its notice where it passes the step's late tolerance
(03 R62, R63). -/
structure State.Overran (t : State) (k : Nat) (r : Rack) (step : Option RecipeStep) : Prop where
  rack    : t.RackIs k (some (r.overran step))
  noticed : ∀ st ∈ step, Rack.overdue { r with overrun := addSaturating r.overrun 1 } st = true →
    t.Noticed (.rack (.overtime (addSaturating r.overrun 1) st.tolerance) r.id k r.st r.stepIdx r.station)

/-- The DUE rack in a slot the loop comes to once. -/
theorem State.foldl_overrunOne_rack {l : List Nat} (nodup : l.Nodup) (mem : k ∈ l) (h : s.RackIs k (some r))
    (due : r.st = .due) : (l.foldl State.overrunOne s).Overran k r (s.currentStep r) := by
  refine State.foldl_turn (P := fun u => u.recipes = s.recipes ∧ u.RackIs k (some r))
    (Q := fun u => u.Overran k r (s.currentStep r)) nodup mem (fun u j _ hj hu => ?_)
    (fun u hu => ?_) (fun u j _ hj hu => ?_) ⟨rfl, h⟩
  · exact ⟨by rw [State.overrunOne_recipes]; exact hu.1, State.overrunOne_rackIs_ne hu.2 hj⟩
  · obtain ⟨recipes, here⟩ := hu
    obtain ⟨d, hr⟩ := here.record
    have step : u.currentStep { r with dest := d } = s.currentStep r := by
      unfold State.currentStep State.recipeStep; rw [recipes]
    refine ⟨.of_record (d := d) ?_, fun st hst overdue => ?_⟩
    · rw [State.overrunOne_rack hr due, step, Rack.overran_dest]
    · have told := State.overrunOne_noticed hr due (step.trans hst) overdue
      exact told
  · exact ⟨State.overrunOne_rackIs_ne hu.rack hj, fun st hst overdue =>
      (hu.noticed st hst overdue).mono (State.Carries.overrunOne u j).notices⟩

theorem State.foldl_overrunOne_rack_ne {x : Option Rack} {l : List Nat} (h : s.RackIs k x) (away : k ∉ l) :
    (l.foldl State.overrunOne s).RackIs k x :=
  List.foldlRecOn l State.overrunOne (motive := fun u => u.RackIs k x) h
    fun _ h _ hj => State.overrunOne_rackIs_ne h (fun e => away (e ▸ hj))

/-! ### The records at the end of the compensation unit's work (03 R45) -/

/-- A rack's record at the end of the compensation unit's work of a tick. -/
def State.compensated (s : State) (r : Rack) : Rack :=
  let x := s.countTick.loadPending.advanceRack r
  if r.st = .due then x.overran (s.currentStep r) else x.dueIf (s.tick + 1)

theorem State.tickDue_recipes (s : State) : s.tickDue.recipes = s.recipes := by
  unfold State.tickDue
  rw [State.foldl_same State.recipes _ (fun _ _ => State.makeDue_recipes _ _), State.tickAdvanced_eq]; rfl

theorem State.tickDue_rack (hr : s.racks.get k = some r) :
    s.tickDue.RackIs k (some ((s.countTick.loadPending.advanceRack r).dueIf (s.tick + 1))) := by
  have tick : s.tickAdvanced.tick = s.tick + 1 := by rw [State.tickAdvanced_eq]; rfl
  unfold State.tickDue
  rw [← tick]
  exact State.foldl_makeDue_rack List.nodup_range (List.mem_range.mpr (Table.lt_of_get_some hr))
    (.of_get (by rw [State.tickAdvanced_rack, hr]; rfl))

theorem State.tickOverrun_rack_none (hr : s.racks.get k = none) : s.tickOverrun.RackIs k none := by
  unfold State.tickOverrun
  refine List.foldlRecOn _ State.overrunOne (motive := fun u => u.RackIs k none) ?_
    fun _ h j _ => State.overrunOne_rack_none h j
  exact State.foldl_makeDue_rack_none _ (.of_get (by rw [State.tickAdvanced_rack, hr]; rfl))

/-- A rack's record, and the notice of one that has passed its late tolerance. -/
theorem State.tickOverrun_rack (hr : s.racks.get k = some r) : s.tickOverrun.RackIs k (some (s.compensated r)) ∧
    ∀ st ∈ s.currentStep r, r.st = .due →
      Rack.overdue { s.countTick.loadPending.advanceRack r with overrun := addSaturating r.overrun 1 } st = true →
      s.tickOverrun.Noticed
        (.rack (.overtime (addSaturating r.overrun 1) st.tolerance) r.id k .due r.stepIdx r.station) := by
  have here := State.tickDue_rack hr
  have form := s.countTick.loadPending.advanceRack_form r
  unfold State.compensated
  generalize s.countTick.loadPending.advanceRack r = x at here form ⊢
  dsimp only
  have mem := s.countTick.mem_dueSlots k
  unfold State.tickOverrun
  by_cases due : r.st = .due
  · have xdue : x.st = .due := by rw [form]; exact due
    have same : x.dueIf (s.tick + 1) = x := by simp [Rack.dueIf, Rack.reached, xdue]
    rw [same] at here
    have step : s.tickDue.currentStep x = s.currentStep r := by
      unfold State.currentStep State.recipeStep; rw [State.tickDue_recipes, form]
    obtain ⟨record, noticed⟩ := State.foldl_overrunOne_rack (Table.nodup_indices _ _)
      (mem.mpr ⟨Table.lt_of_get_some hr, r, hr, due⟩) here xdue
    rw [step] at record noticed
    refine ⟨by rwa [if_pos due], fun st hst _ overdue => ?_⟩
    have told := noticed st hst (by rw [form] at overdue ⊢; exact overdue)
    rw [form] at told
    rwa [show r.st = .due from due] at told
  · refine ⟨?_, fun st _ h => absurd h due⟩
    rw [if_neg due]
    refine State.foldl_overrunOne_rack_ne here (fun h => ?_)
    obtain ⟨-, y, hy, ydue⟩ := mem.mp h
    obtain rfl := Option.some.inj (hr.symm.trans hy)
    exact due ydue

end Sys2Proof.Machine
end

section
/-! PROOFS. A rack in a bath after a tick: its units, its overrun and its flags (03 R51, R56, R57, R60, R62, R63,
04 R72, 08 R155, R156). -/

namespace Sys2Proof.Machine

variable {s t : State} {k : Nat} {r : Rack} {st : RecipeStep}

/-! ### The forms of a record -/

theorem Rack.overran_form (r : Rack) (step : Option RecipeStep) :
    r.overran step = { r with overrun := addSaturating r.overrun 1, flags := (r.overran step).flags } := by
  unfold Rack.overran
  dsimp only
  split <;> rfl

theorem Rack.mem_overran_flags (r : Rack) (step : Option RecipeStep) (f : StepFlag) :
    f ∈ (r.overran step).flags ↔
      f = .overtime ∧ step.any (Rack.overdue { r with overrun := addSaturating r.overrun 1 }) = true ∨ f ∈ r.flags := by
  unfold Rack.overran
  dsimp only
  split
  · next h => simp [h]
  · next h => simp [h]

theorem Rack.dueIf_form (r : Rack) (now : TickCount) :
    r.dueIf now = { r with st := (r.dueIf now).st, dueTick := (r.dueIf now).dueTick } := by
  unfold Rack.dueIf
  split <;> rfl

/-- An IMMERSED rack is DUE from its target on (03 R60). -/
theorem Rack.dueIf_immersed (h : r.st = .immersed) (now : TickCount) : r.dueIf now =
    { r with st := if r.target ≤ r.acc then .due else .immersed
             dueTick := if r.target ≤ r.acc then some now else r.dueTick } := by
  cases r; cases h
  simp only [Rack.dueIf, Rack.reached, decide_true, Bool.true_and, decide_eq_true_eq, Rack.dueAt]
  split <;> rfl

theorem Rack.dueIf_other (h : r.st ≠ .immersed) (now : TickCount) : r.dueIf now = r := by
  simp [Rack.dueIf, Rack.reached, h]

theorem State.compensated_due (h : r.st = .due) :
    s.compensated r = (s.countTick.loadPending.advanceRack r).overran (s.currentStep r) := if_pos h

theorem State.compensated_not_due (h : r.st ≠ .due) :
    s.compensated r = (s.countTick.loadPending.advanceRack r).dueIf (s.tick + 1) := if_neg h

/-- A rack in no bath is as it was. -/
theorem State.compensated_outside (hi : r.st ≠ .immersed) (hd : r.st ≠ .due) : s.compensated r = r := by
  have outside : r.inBath = false := by simp [Rack.inBath, hi, hd]
  rw [State.compensated_not_due hd, State.advanceRack_outside outside, Rack.dueIf_other hi]

/-! ### What a tick brings a rack in a bath -/

/-- The active factor record of the bath a rack is in, at a tick (03 R54). -/
def State.tickFactors (s : State) (r : Rack) : Factors :=
  ((s.baths.get (s.bathOfRack r)).atTick ((s.tick + 1).toNat % 16)).active

theorem State.advanceRack_tick (h : r.inBath = true) (step : s.currentStep r = some st) :
    s.countTick.loadPending.advanceRack r = { r with
      acc := addSaturating r.acc (increment ((s.tickFactors r).rate st.comp) ((s.tick + 1).toNat % 16))
      flags := addFlagIf (s.agitationLostAt (r.station.getD 0)) .agitationLost
        (addFlagIf (st.compensated &&
            decide (300 ≤ ((s.baths.get (s.bathOfRack r)).atTick ((s.tick + 1).toNat % 16)).staleCount) &&
            decide ((s.baths.get (s.bathOfRack r)).status ≠ .none)) .staleTemperature
          (addFlagIf ((s.tickFactors r).clampedFor st.comp) .factorClamped r.flags)) } := by
  have here : s.countTick.loadPending.currentStep r = some st := by rw [State.loadPending_eq]; exact step
  have bath : s.countTick.loadPending.bathOfRack r = s.bathOfRack r := by rw [State.loadPending_eq]; rfl
  have lost (n : Nat) : s.countTick.loadPending.agitationLostAt n = s.agitationLostAt n := by
    rw [State.loadPending_eq]; rfl
  have phase : s.countTick.loadPending.phase = (s.tick + 1).toNat % 16 := by rw [State.loadPending_eq]; rfl
  rw [State.advanceRack_inside h here, bath, lost, phase, State.loadPending_bath]
  rfl

theorem Factors.clampedFor_iff (f : Factors) (c : Compensation) : f.clampedFor c = true ↔
    c ≠ .none ∧ f.tempClamp = true ∨ c = .tempActivity ∧ f.actClamp = true := by
  cases c <;> simp [Factors.clampedFor]

theorem State.agitationLostAt_iff (s : State) (n : Nat) : s.agitationLostAt n = true ↔ s.marks.get n ≠ .out ∧
    (s.level 33 = false ∨ (s.io.outputs.get n).faulted = true ∨ (s.io.outputs.get n).mode = .manual) := by
  simp [State.agitationLostAt, Config.gasOk, or_assoc]

/-- At a tick a bath with valid reports has a stale count of 300 exactly where it had one of 299 (04 R71, R72). -/
theorem Bath.stale_atTick (x : Bath) (p : Nat) (h : x.status ≠ .none) :
    300 ≤ (x.atTick p).staleCount ↔ 299 ≤ x.staleCount := by
  simp only [Bath.atTick, if_neg h]; omega

/-- The flags of a rack in a bath after the advance of a tick. -/
theorem State.mem_advanceRack_flags (h : r.inBath = true) (step : s.currentStep r = some st) (f : StepFlag) :
    f ∈ (s.countTick.loadPending.advanceRack r).flags ↔ f ∈ r.flags ∨
      f = .agitationLost ∧ s.agitationLostAt (r.station.getD 0) = true ∨
      f = .staleTemperature ∧ st.comp ≠ .none ∧ (s.baths.get (s.bathOfRack r)).status ≠ .none ∧
        299 ≤ (s.baths.get (s.bathOfRack r)).staleCount ∨
      f = .factorClamped ∧ (s.tickFactors r).clampedFor st.comp = true := by
  rw [State.advanceRack_tick h step]
  dsimp only
  rw [mem_addFlagIf, mem_addFlagIf, mem_addFlagIf]
  by_cases none : (s.baths.get (s.bathOfRack r)).status = .none
  · simp [none]; tauto
  · simp only [Bool.and_eq_true, decide_eq_true_eq, RecipeStep.compensated, Bath.stale_atTick _ _ none]
    tauto

/-- A rack's record r' follows r through the rest of a tick: SEAT_UNCONFIRMED, its state and its places aside (06 R124,
10 R177). -/
structure Rack.Follows (r r' : Rack) : Prop where
  acc     : r'.acc = r.acc
  stepIdx : r'.stepIdx = r.stepIdx
  target  : r'.target = r.target
  overrun : r'.overrun = r.overrun
  dueTick : r'.dueTick = r.dueTick
  flags   : ∀ f, f ≠ .seatUnconfirmed → (f ∈ r'.flags ↔ f ∈ r.flags)

theorem Rack.Follows.refl (r : Rack) : r.Follows r := ⟨rfl, rfl, rfl, rfl, rfl, fun _ _ => Iff.rfl⟩

/-- The counts of a rack in a bath after a tick (03 R56, R57, R60, R62). -/
theorem State.compensated_counts (inBath : r.inBath = true) (step : s.currentStep r = some st) :
    (s.compensated r).acc =
      min 4294967295 (r.acc + increment ((s.tickFactors r).rate st.comp) ((s.tick + 1).toNat % 16)) ∧
    (s.compensated r).stepIdx = r.stepIdx ∧ (s.compensated r).target = r.target ∧
    (r.st = .immersed → (s.compensated r).overrun = r.overrun ∧
      (s.compensated r).dueTick = (if r.target ≤ (s.compensated r).acc then some (s.tick + 1) else r.dueTick) ∧
      (s.compensated r).st = if r.target ≤ (s.compensated r).acc then .due else .immersed) ∧
    (r.st = .due → (s.compensated r).overrun = min 4294967295 (r.overrun + 1) ∧
      (s.compensated r).dueTick = r.dueTick) := by
  rw [← addSaturating_eq_min, ← addSaturating_eq_min]
  obtain immersed | due := (Rack.inBath_iff r).mp inBath
  · have stays : (s.countTick.loadPending.advanceRack r).st = .immersed := by
      rw [State.advanceRack_form]; exact immersed
    rw [State.compensated_not_due (by rw [immersed]; decide), Rack.dueIf_immersed stays,
      State.advanceRack_tick inBath step]
    refine ⟨rfl, rfl, rfl, fun _ => ⟨rfl, rfl, rfl⟩, fun due => ?_⟩
    rw [immersed] at due; cases due
  · rw [State.compensated_due due, Rack.overran_form, State.advanceRack_tick inBath step]
    refine ⟨rfl, rfl, rfl, fun immersed => ?_, fun _ => ⟨rfl, rfl⟩⟩
    rw [due] at immersed; cases immersed

/-- The flags of a rack in a bath after a tick: those of its advance, and OVERTIME (03 R63). -/
theorem State.mem_compensated_flags (inBath : r.inBath = true) (step : s.currentStep r = some st) (f : StepFlag) :
    f ∈ (s.compensated r).flags ↔ f ∈ (s.countTick.loadPending.advanceRack r).flags ∨
      f = .overtime ∧ r.st = .due ∧ st.tolerance ≠ 65535 ∧ st.tolerance < (s.compensated r).overrun := by
  obtain immersed | due := (Rack.inBath_iff r).mp inBath
  · rw [State.compensated_not_due (by rw [immersed]; decide), Rack.dueIf_form]
    simp [immersed]
  · rw [State.compensated_due due, Rack.mem_overran_flags, step, Rack.overran_form, State.advanceRack_form]
    simp only [Option.any_some, Rack.overdue, decide_eq_true_eq, due, true_and]
    by_cases has : StepFlag.overtime ∈ (s.countTick.loadPending.advanceRack r).flags
    · simp only [has, not_true_eq_false, and_false, false_or]
      exact ⟨.inl, fun h => h.elim id (fun e => e.1 ▸ has)⟩
    · simp only [has, not_false_eq_true, and_true]
      tauto

theorem State.overtime_mem_compensated (inBath : r.inBath = true) (step : s.currentStep r = some st) :
    .overtime ∈ (s.compensated r).flags ↔ .overtime ∈ r.flags ∨
      (r.st = .due ∧ st.tolerance ≠ 65535 ∧ st.tolerance < (s.compensated r).overrun) := by
  rw [State.mem_compensated_flags inBath step, State.mem_advanceRack_flags inBath step]
  simp

theorem State.staleTemperature_mem_compensated (inBath : r.inBath = true) (step : s.currentStep r = some st) :
    .staleTemperature ∈ (s.compensated r).flags ↔ .staleTemperature ∈ r.flags ∨
      (st.comp ≠ .none ∧ (s.baths.get (s.bathOfRack r)).status ≠ .none ∧
        299 ≤ (s.baths.get (s.bathOfRack r)).staleCount) := by
  rw [State.mem_compensated_flags inBath step, State.mem_advanceRack_flags inBath step]
  simp

theorem State.factorClamped_mem_compensated (inBath : r.inBath = true) (step : s.currentStep r = some st) :
    .factorClamped ∈ (s.compensated r).flags ↔ .factorClamped ∈ r.flags ∨
      (st.comp ≠ .none ∧ (s.tickFactors r).tempClamp = true) ∨
      (st.comp = .tempActivity ∧ (s.tickFactors r).actClamp = true) := by
  rw [State.mem_compensated_flags inBath step, State.mem_advanceRack_flags inBath step, Factors.clampedFor_iff]
  simp

theorem State.agitationLost_mem_compensated (inBath : r.inBath = true) (step : s.currentStep r = some st) :
    .agitationLost ∈ (s.compensated r).flags ↔ .agitationLost ∈ r.flags ∨
      (s.marks.get (r.station.getD 0) ≠ .out ∧
        (s.level 33 = false ∨ (s.io.outputs.get (r.station.getD 0)).faulted = true ∨
          (s.io.outputs.get (r.station.getD 0)).mode = .manual)) := by
  rw [State.mem_compensated_flags inBath step, State.mem_advanceRack_flags inBath step, State.agitationLostAt_iff]
  simp

end Sys2Proof.Machine
end

section
/-! PROOFS. The baths at a tick: STALE and LAPSED with their notices, and TEMP_STALE (04 R71, R73). -/

namespace Sys2Proof.Machine

variable {s t u : State} {k b : Nat} {r : Rack} {st : RecipeStep}

/-! ### The racks in compensated steps (04 R73) -/

/-- A rack is in a bath in a compensated step. -/
theorem State.bathCompensates_iff (s : State) (b : Nat) : s.bathCompensates b = true ↔
    ∃ j : Nat, j < 24 ∧ ∃ r ∈ s.racks.get j, (r.st = .immersed ∨ r.st = .due) ∧
      (s.stations.get (r.station.getD 0)).bath = b ∧ ∃ st ∈ s.currentStep r, st.comp ≠ .none := by
  unfold State.bathCompensates
  rw [Table.any_toList, List.any_eq_true]
  refine exists_congr fun j => and_congr List.mem_range ?_
  cases s.racks.get j with
  | none => simp
  | some r =>
    have bath : decide (s.bathOfRack r = b) = true ↔ (s.stations.get (r.station.getD 0)).bath = b := decide_eq_true_iff
    cases step : s.currentStep r <;>
      simp [State.compensatedIn, Rack.inBath_iff, bath, step, RecipeStep.compensated, and_assoc]

/-- What a record says of the step it is in: in a bath or not, station, recipe and step. -/
def Rack.seat (r : Rack) : Bool × Option Nat × Nat × Nat := (r.inBath, r.station, r.recipe, r.stepIdx)

/-- From s to t every rack stays in its step at its station, and every station in its bath. -/
structure State.SeatsKept (s t : State) : Prop where
  racks    : ∀ k, (t.racks.get k).map Rack.seat = (s.racks.get k).map Rack.seat
  stations : ∀ n, (t.stations.get n).bath = (s.stations.get n).bath
  recipes  : t.recipes = s.recipes

namespace State.SeatsKept

theorem symm (h : s.SeatsKept t) : t.SeatsKept s :=
  ⟨fun k => (h.racks k).symm, fun n => (h.stations n).symm, h.recipes.symm⟩

theorem trans (h : s.SeatsKept t) (g : t.SeatsKept u) : s.SeatsKept u :=
  ⟨fun k => (g.racks k).trans (h.racks k), fun n => (g.stations n).trans (h.stations n), g.recipes.trans h.recipes⟩

theorem compensates_of (h : s.SeatsKept t) (c : s.bathCompensates b = true) : t.bathCompensates b = true := by
  obtain ⟨j, hj, r, hr, inBath, bath, st, step, comp⟩ := (State.bathCompensates_iff s b).mp c
  have seat := h.racks j
  rw [hr, Option.map_some, Option.map_eq_some_iff] at seat
  obtain ⟨x, hx, same⟩ := seat
  simp only [Rack.seat, Prod.mk.injEq] at same
  obtain ⟨xin, station, recipe, stepIdx⟩ := same
  refine (State.bathCompensates_iff t b).mpr ⟨j, hj, x, hx, ?_, ?_, st, ?_, comp⟩
  · exact (Rack.inBath_iff x).mp (xin.trans ((Rack.inBath_iff r).mpr inBath))
  · rw [station, h.stations]; exact bath
  · show t.recipeStep x.recipe x.stepIdx = some st
    rw [recipe, stepIdx]
    unfold State.recipeStep
    rw [h.recipes]
    exact step

theorem compensates (h : s.SeatsKept t) (b : Nat) : t.bathCompensates b = s.bathCompensates b := by
  rw [Bool.eq_iff_iff]
  exact ⟨h.symm.compensates_of, h.compensates_of⟩

end State.SeatsKept

theorem State.advanceRack_seat (s : State) (r : Rack) : (s.advanceRack r).seat = r.seat := by
  rw [State.advanceRack_form]; rfl

theorem State.compensated_seat (s : State) (r : Rack) : (s.compensated r).seat = r.seat := by
  by_cases due : r.st = .due
  · rw [State.compensated_due due, Rack.overran_form, State.advanceRack_form]; rfl
  · rw [State.compensated_not_due due]
    by_cases immersed : r.st = .immersed
    · rw [Rack.dueIf_immersed (by rw [State.advanceRack_form]; exact immersed), State.advanceRack_form]
      unfold Rack.seat Rack.inBath
      rw [immersed]
      split <;> rfl
    · rw [Rack.dueIf_other (by rw [State.advanceRack_form]; exact immersed)]
      exact State.advanceRack_seat _ r

/-- A DUE test reserves a station that was EMPTY at most (05 R88). -/
theorem State.makeDue_station (s : State) (j n : Nat) : (s.makeDue j).stations.get n = s.stations.get n ∨
    (s.stations.get n).occ = .empty ∧
      (s.makeDue j).stations.get n = { s.stations.get n with occ := .reservedRack j } := by
  have requested (u : State) : (u.requestIfNone j).stations.get n = u.stations.get n ∨
      (u.stations.get n).occ = .empty ∧
        (u.requestIfNone j).stations.get n = { u.stations.get n with occ := .reservedRack j } := by
    by_cases hq : u.requests.get j = none
    · rw [State.requestIfNone_none hq, State.triggerPass_stations]
      cases hr : u.racks.get j with
      | none => rw [State.createRequest_none hr]; exact .inl rfl
      | some r =>
        rw [State.createRequest_eq hr]
        exact ((u.setRequest j (some (u.freshRequest r))).chooseDestination_station j n).imp id
          (fun ⟨empty, _, e⟩ => ⟨empty, e⟩)
    · rw [State.requestIfNone_some hq]; exact .inl rfl
  unfold State.makeDue
  split
  · split
    · rw [State.liftIfPoised_stations]; exact requested _
    · exact .inl rfl
  · exact .inl rfl

theorem State.makeDue_stationBath (s : State) (j n : Nat) :
    ((s.makeDue j).stations.get n).bath = (s.stations.get n).bath := by
  obtain e | ⟨-, e⟩ := s.makeDue_station j n <;> rw [e]

/-- A station OCCUPIED stays so through the DUE tests. -/
theorem State.tickDue_occupied {n : Nat} (occ : (s.stations.get n).occ = .occupied k) :
    (s.tickDue.stations.get n).occ = .occupied k := by
  unfold State.tickDue
  refine List.foldlRecOn _ State.makeDue (motive := fun u => (u.stations.get n).occ = .occupied k) ?_ fun u hu j _ => ?_
  · rw [State.tickAdvanced_eq]; exact occ
  · obtain e | ⟨empty, -⟩ := u.makeDue_station j n
    · rw [e]; exact hu
    · rw [hu] at empty; cases empty

theorem State.tickDue_stationBath (s : State) (n : Nat) : (s.tickDue.stations.get n).bath = (s.stations.get n).bath := by
  unfold State.tickDue
  rw [State.foldl_same (fun u => (u.stations.get n).bath) _ (fun u j => u.makeDue_stationBath j n), State.tickAdvanced_eq]
  rfl

theorem State.tickOverrun_recipes (s : State) : s.tickOverrun.recipes = s.recipes := by
  unfold State.tickOverrun
  rw [State.foldl_same State.recipes _ (fun _ _ => State.overrunOne_recipes _ _), State.tickDue_recipes]

theorem State.tickOverrun_stations (s : State) : s.tickOverrun.stations = s.tickDue.stations := by
  unfold State.tickOverrun
  exact State.foldl_same State.stations _ (fun _ _ => State.overrunOne_stations _ _) _ _

theorem State.tickOverrun_seats (s : State) : s.SeatsKept s.tickOverrun where
  racks k := by
    cases hr : s.racks.get k with
    | none => rw [(State.tickOverrun_rack_none hr).none]
    | some r =>
      obtain ⟨d, e⟩ := (State.tickOverrun_rack hr).1.record
      rw [e]
      exact congrArg some (s.compensated_seat r)
  stations n := by rw [State.tickOverrun_stations]; exact s.tickDue_stationBath n
  recipes := s.tickOverrun_recipes

/-! ### A bath's turn (04 R71) -/

/-- A bath's record after its turn: FRESH is STALE from a count of 300 on, and STALE is LAPSED from 1200 on. -/
def Bath.turned (x : Bath) : Bath :=
  { x with status :=
      if (x.status = .fresh ∨ x.status = .stale) ∧ 1200 ≤ x.staleCount then .lapsed
      else if x.status = .fresh ∧ 300 ≤ x.staleCount then .stale
      else x.status }

/-- A bath's turn writes its record, the line's record and the link. -/
theorem State.bathTurn_rest (s : State) (b : Nat) : s.bathTurn b =
    { s with baths := (s.bathTurn b).baths, line := (s.bathTurn b).line, link := (s.bathTurn b).link } := by
  have stale (u : State) : u.becomeStale b =
      { u with baths := (u.becomeStale b).baths, link := (u.becomeStale b).link } := by
    unfold State.becomeStale; dsimp only; split <;> rfl
  have lapsed (u : State) : u.becomeLapsed b =
      { u with baths := (u.becomeLapsed b).baths, line := (u.becomeLapsed b).line, link := (u.becomeLapsed b).link } := by
    unfold State.becomeLapsed
    dsimp only
    split
    · split
      · rw [State.addCause_rest (c := .tempStale) rfl]; rfl
      · rfl
    · rfl
  unfold State.bathTurn
  generalize hv : s.becomeStale b = v
  rw [lapsed v, ← hv, stale s]

theorem State.becomeLapsed_baths (s : State) (b : Nat) : (s.becomeLapsed b).baths =
    if (s.baths.get b).status = .stale ∧ 1200 ≤ (s.baths.get b).staleCount then
      s.baths.set b { s.baths.get b with status := .lapsed } else s.baths := by
  unfold State.becomeLapsed
  dsimp only
  split
  · split
    · rw [State.addCause_baths]; rfl
    · rfl
  · rfl

theorem State.becomeStale_baths (s : State) (b : Nat) : (s.becomeStale b).baths =
    if (s.baths.get b).status = .fresh ∧ 300 ≤ (s.baths.get b).staleCount then
      s.baths.set b { s.baths.get b with status := .stale } else s.baths := by
  unfold State.becomeStale
  dsimp only
  split <;> rfl

theorem State.bathTurn_baths_ne {c : Nat} (h : c ≠ b) : (s.bathTurn c).baths.get b = s.baths.get b := by
  unfold State.bathTurn
  rw [State.becomeLapsed_baths, State.becomeStale_baths]
  repeat' split
  all_goals simp [h]

theorem State.bathTurn_bath (s : State) (hb : b < 8) : (s.bathTurn b).baths.get b = (s.baths.get b).turned := by
  unfold State.bathTurn
  rw [State.becomeLapsed_baths, State.becomeStale_baths]
  by_cases stale : (s.baths.get b).status = .fresh ∧ 300 ≤ (s.baths.get b).staleCount
  · rw [if_pos stale, Table.get_set_self _ hb]
    dsimp only
    by_cases lapsed : 1200 ≤ (s.baths.get b).staleCount
    · rw [if_pos ⟨rfl, lapsed⟩, Table.get_set_self _ hb, Bath.turned, if_pos ⟨.inl stale.1, lapsed⟩]
    · rw [if_neg (fun h => lapsed h.2), Table.get_set_self _ hb, Bath.turned, if_neg (fun h => lapsed h.2), if_pos stale]
  · rw [if_neg stale, Bath.turned]
    by_cases lapsed : (s.baths.get b).status = .stale ∧ 1200 ≤ (s.baths.get b).staleCount
    · rw [if_pos lapsed, Table.get_set_self _ hb, if_pos ⟨.inr lapsed.1, lapsed.2⟩]
    · rw [if_neg lapsed, if_neg stale, if_neg]
      rintro ⟨fresh | was, long⟩
      · exact stale ⟨fresh, by omega⟩
      · exact lapsed ⟨was, long⟩

/-- The notice of a bath that becomes STALE (04 R71). -/
theorem State.bathTurn_stale (hb : b < 8) (fresh : (s.baths.get b).status = .fresh)
    (long : 300 ≤ (s.baths.get b).staleCount) : (s.bathTurn b).Noticed
      (.bath .stale b (s.baths.get b).temp .stale (s.baths.get b).probeFault (s.baths.get b).staleCount
        (s.baths.get b).owed) := by
  have told : (s.becomeStale b).Noticed (.bath .stale b (s.baths.get b).temp .stale (s.baths.get b).probeFault
      (s.baths.get b).staleCount (s.baths.get b).owed) := by
    unfold State.becomeStale
    dsimp only
    rw [if_pos ⟨fresh, long⟩]
    unfold State.bathNotice
    rw [State.setBath_baths, Table.get_set_self _ hb]
    exact State.noticed_notify _ _
  exact told.mono (State.Carries.becomeLapsed _ b).notices

/-- The notice of a bath that becomes LAPSED, and TEMP_STALE where it finds a compensated rack (04 R71, R73). -/
theorem State.bathTurn_lapsed (hb : b < 8) (stale : (s.baths.get b).status = .stale)
    (long : 1200 ≤ (s.baths.get b).staleCount) : (s.bathTurn b).Noticed
      (.bath .lapsed b (s.baths.get b).temp .lapsed (s.baths.get b).probeFault (s.baths.get b).staleCount
        (s.baths.get b).owed) ∧
      (s.bathCompensates b = true → .tempStale ∈ (s.bathTurn b).line.causes) := by
  have first : s.becomeStale b = s := by
    unfold State.becomeStale
    dsimp only
    rw [if_neg (by rw [stale]; rintro ⟨h, -⟩; cases h)]
  have told (x : Bath) : ((s.setBath b x).bathNotice .lapsed b).Noticed
      (.bath .lapsed b x.temp x.status x.probeFault x.staleCount x.owed) := by
    unfold State.bathNotice
    rw [State.setBath_baths, Table.get_set_self _ hb]
    exact State.noticed_notify _ _
  unfold State.bathTurn
  rw [first]
  unfold State.becomeLapsed
  dsimp only
  rw [if_pos ⟨stale, long⟩]
  split
  · exact ⟨(told _).mono (State.Carries.addCause _ rfl).notices, fun _ => State.mem_addCause rfl⟩
  · next not => exact ⟨told _, fun c => absurd c not⟩

theorem State.SeatsKept.of_same (racks : t.racks = s.racks) (stations : t.stations = s.stations)
    (recipes : t.recipes = s.recipes) : s.SeatsKept t :=
  ⟨fun _ => by rw [racks], fun _ => by rw [stations], recipes⟩

theorem State.bathTurn_seats (s : State) (b : Nat) : s.SeatsKept (s.bathTurn b) :=
  .of_same (by rw [State.bathTurn_rest]) (by rw [State.bathTurn_rest]) (by rw [State.bathTurn_rest])

theorem State.becomeLapsed_tempStale (h : .tempStale ∈ (s.becomeLapsed b).line.causes) :
    .tempStale ∈ s.line.causes ∨ (s.baths.get b).status = .stale ∧ 1200 ≤ (s.baths.get b).staleCount ∧
      s.bathCompensates b = true := by
  unfold State.becomeLapsed at h
  dsimp only at h
  split at h
  · next lapses =>
    split at h
    · next comp => exact .inr ⟨lapses.1, lapses.2, comp⟩
    · exact .inl h
  · exact .inl h

/-- A turn brings TEMP_STALE only at a bath that becomes LAPSED over a compensated rack (04 R73). -/
theorem State.bathTurn_tempStale (h : .tempStale ∈ (s.bathTurn b).line.causes) : .tempStale ∈ s.line.causes ∨
    ((s.baths.get b).status = .fresh ∨ (s.baths.get b).status = .stale) ∧ 1200 ≤ (s.baths.get b).staleCount ∧
      s.bathCompensates b = true := by
  have kept : (s.becomeStale b).SeatsKept s := .of_same (by simp) (by simp) (by simp)
  obtain was | ⟨stale, long, comp⟩ := State.becomeLapsed_tempStale h
  · exact .inl (by rwa [State.becomeStale_line] at was)
  rw [State.becomeStale_baths] at stale long
  refine .inr ⟨?_, ?_, kept.compensates_of comp⟩
  · split at stale
    · next fresh => exact .inl fresh.1
    · exact .inr stale
  · split at long
    · rw [Table.get_set] at long
      split at long <;> exact long
    · exact long

/-! ### All baths (04 R71) -/

/-- Bath b has had its turn from the record x, with its notices and its cause; comp says whether it holds a rack in a
compensated step (04 R71, R73). -/
structure State.BathTaken (t : State) (b : Nat) (x : Bath) (comp : Bool) : Prop where
  bath   : t.baths.get b = x.turned
  stale  : x.status = .fresh → 300 ≤ x.staleCount →
    t.Noticed (.bath .stale b x.temp .stale x.probeFault x.staleCount x.owed)
  lapsed : x.status = .stale → 1200 ≤ x.staleCount →
    t.Noticed (.bath .lapsed b x.temp .lapsed x.probeFault x.staleCount x.owed) ∧
      (comp = true → .tempStale ∈ t.line.causes)

theorem State.BathTaken.mono {x : Bath} {comp : Bool} (h : t.BathTaken b x comp)
    (bath : u.baths.get b = t.baths.get b) (carries : t.Carries u) : u.BathTaken b x comp where
  bath := bath.trans h.bath
  stale fresh long := (h.stale fresh long).mono carries.notices
  lapsed stale long := by
    obtain ⟨told, cause⟩ := h.lapsed stale long
    exact ⟨told.mono carries.notices, fun c => carries.causes (cause c)⟩

theorem State.bathTurn_taken (s : State) (hb : b < 8) :
    (s.bathTurn b).BathTaken b (s.baths.get b) (s.bathCompensates b) :=
  ⟨s.bathTurn_bath hb, State.bathTurn_stale hb, State.bathTurn_lapsed hb⟩

/-- The bath the loop comes to once. -/
theorem State.foldl_bathTurn_bath {l : List Nat} (nodup : l.Nodup) (mem : b ∈ l) (hb : b < 8) :
    (l.foldl State.bathTurn s).BathTaken b (s.baths.get b) (s.bathCompensates b) := by
  refine State.foldl_turn (P := fun u => s.SeatsKept u ∧ u.baths.get b = s.baths.get b)
    (Q := fun u => u.BathTaken b (s.baths.get b) (s.bathCompensates b)) nodup mem (fun u j _ hj hu => ?_)
    (fun u hu => ?_) (fun u j _ hj hu => hu.mono (State.bathTurn_baths_ne hj) (.bathTurn u j))
    ⟨.of_same rfl rfl rfl, rfl⟩
  · exact ⟨hu.1.trans (u.bathTurn_seats j), (State.bathTurn_baths_ne hj).trans hu.2⟩
  · obtain ⟨seats, bath⟩ := hu
    rw [← seats.compensates b, ← bath]
    exact u.bathTurn_taken hb

/-- The loop brings TEMP_STALE only at a bath that becomes LAPSED over a compensated rack. -/
theorem State.foldl_bathTurn_tempStale {l : List Nat} (nodup : l.Nodup)
    (h : .tempStale ∈ (l.foldl State.bathTurn s).line.causes) : .tempStale ∈ s.line.causes ∨
      ∃ c ∈ l, ((s.baths.get c).status = .fresh ∨ (s.baths.get c).status = .stale) ∧
        1200 ≤ (s.baths.get c).staleCount ∧ s.bathCompensates c = true := by
  induction l generalizing s with
  | nil => exact .inl h
  | cons b l ih =>
    obtain ⟨away, nodup⟩ := List.nodup_cons.mp nodup
    have seats := s.bathTurn_seats b
    obtain early | ⟨c, hc, status, long, comp⟩ := ih nodup h
    · exact (State.bathTurn_tempStale early).imp id (fun now => ⟨b, List.mem_cons_self, now⟩)
    · rw [State.bathTurn_baths_ne (by rintro rfl; exact away hc)] at status long
      exact .inr ⟨c, List.mem_cons_of_mem _ hc, status, long, seats.symm.compensates_of comp⟩

/-! ### The baths of a tick -/

theorem State.tickOverrun_bath (s : State) (b : Nat) :
    s.tickOverrun.baths.get b = (s.baths.get b).atTick ((s.tick + 1).toNat % 16) := by
  unfold State.tickOverrun State.tickDue
  rw [State.foldl_same State.baths _ (fun _ _ => State.overrunOne_baths _ _),
    State.foldl_same State.baths _ (fun _ _ => State.makeDue_baths _ _), State.tickAdvanced_eq]
  exact s.loadPending_bath b

theorem State.tickOverrun_line (s : State) : s.tickOverrun.line = s.line := by
  unfold State.tickOverrun State.tickDue
  rw [State.foldl_same State.line _ (fun _ _ => State.overrunOne_line _ _),
    State.foldl_same State.line _ (fun _ _ => State.makeDue_line _ _), State.tickAdvanced_eq]
  rfl

theorem State.tickBaths_bath (s : State) (hb : b < 8) : s.tickBaths.BathTaken b
    ((s.baths.get b).atTick ((s.tick + 1).toNat % 16)) (s.bathCompensates b) := by
  have taken : s.tickBaths.BathTaken b (s.tickOverrun.baths.get b) (s.tickOverrun.bathCompensates b) :=
    State.foldl_bathTurn_bath List.nodup_range (List.mem_range.mpr hb) hb
  rwa [State.tickOverrun_bath, s.tickOverrun_seats.compensates] at taken

theorem State.tickBaths_tempStale (h : .tempStale ∈ s.tickBaths.line.causes) : .tempStale ∈ s.line.causes ∨
    ∃ c : Nat, c < 8 ∧ ((s.baths.get c).status = .fresh ∨ (s.baths.get c).status = .stale) ∧
      1199 ≤ (s.baths.get c).staleCount ∧ s.bathCompensates c = true := by
  unfold State.tickBaths at h
  obtain was | ⟨c, hc, status, long, comp⟩ := State.foldl_bathTurn_tempStale List.nodup_range h
  · rw [State.tickOverrun_line] at was
    exact .inl was
  · rw [State.tickOverrun_bath] at status long
    rw [s.tickOverrun_seats.compensates] at comp
    refine .inr ⟨c, List.mem_range.mp hc, status, ?_, comp⟩
    simp only [Bath.atTick] at status long
    split at long <;> omega

end Sys2Proof.Machine
end

section
/-! PROOFS. The hoists and the handover at a tick: a LIFT that a DUE rack brings, a phase timer and an acknowledgement
timer that reach 0, and what a fault leaves of the racks (06 R113, R115, R123, R124, 07 R141, R142). -/

namespace Sys2Proof.Machine

variable {s t u : State} {k : Nat} {r : Rack} {h g : Hoist} {o : Order}

/-! ### A hoist sent LIFT (06 R115) -/

/-- A hoist's record after the DUE tests of a tick: as it was, or sent LIFT for an order that was POISED. -/
def HoistRec.Released (x y : HoistRec) : Prop :=
  y = x ∨ ∃ o suspended, x.order = some o ∧ o.phase = .poised ∧ y = { x with
    order := some { o with phase := .released }, timer := some x.timing.lift, suspended := suspended }

/-- An order is POISED at most where it was before, and is then as it was. -/
theorem HoistRec.Released.poised {x y : HoistRec} (h : x.Released y) (ho : y.order = some o)
    (poised : o.phase = .poised) : y = x := by
  obtain rfl | ⟨p, b, -, -, rfl⟩ := h
  · rfl
  · obtain rfl := Option.some.inj ho
    cases poised

theorem HoistRec.Released.trans {x y z : HoistRec} (h : x.Released y) (g : y.Released z) : x.Released z := by
  obtain rfl | ⟨o, b, ho, poised, rfl⟩ := g
  · exact h
  · obtain rfl := h.poised ho poised
    exact .inr ⟨o, b, ho, poised, rfl⟩

theorem HoistRec.Released.same {x y : HoistRec} (h : x.Released y) (not : ∀ o ∈ x.order, o.phase ≠ .poised) : y = x := by
  obtain rfl | ⟨o, b, ho, poised, rfl⟩ := h
  · rfl
  · exact absurd poised (not o ho)

/-- A timer has not reached 0, or is suspended. -/
def HoistRec.Runs (x : HoistRec) : Prop := ¬ (x.timer = some 0 ∧ x.suspended = false)

theorem HoistRec.Released.runs {x y : HoistRec} (h : x.Released y) (runs : x.Runs) (lift : 0 < x.timing.lift) :
    y.Runs := by
  obtain rfl | ⟨o, b, -, -, rfl⟩ := h
  · exact runs
  · rintro ⟨zero, -⟩
    have : x.timing.lift = 0 := Option.some.inj zero
    omega

/-- What a DUE test does to the hoists and the seat windows (06 R115, 10 R177). -/
theorem State.makeDue_lift (s : State) (k : Nat) :
    ((∀ g, (s.makeDue k).hoist g = s.hoist g) ∧ (s.makeDue k).windows = s.windows) ∨
    ∃ h o, (s.hoist h).order = some o ∧ o.phase = .poised ∧ (s.makeDue k).windows = s.windows.set o.source none ∧
      ∀ g, (s.hoist g).Released ((s.makeDue k).hoist g) := by
  by_cases due : ∃ r ∈ s.racks.get k, r.reached = true
  case neg =>
    refine .inl ?_
    rw [State.makeDue_unreached (fun r hr => by rw [← Bool.not_eq_true]; exact fun h => due ⟨r, hr, h⟩)]
    exact ⟨fun _ => rfl, rfl⟩
  obtain ⟨r, hr, reached⟩ := due
  rw [State.makeDue_reached hr reached]
  generalize hv : (s.setRack k (some (r.dueAt s.tick))).requestIfNone k = v
  have hoist (g : Hoist) : v.hoist g = s.hoist g := by rw [← hv]; cases g <;> simp [State.hoist]
  have windows : v.windows = s.windows := by rw [← hv]; simp
  obtain ⟨e, -⟩ | ⟨h, o, -, ho, poised, -, e⟩ := v.liftIfPoised_cases k <;> rw [e]
  · exact .inl ⟨hoist, windows⟩
  · rw [hoist] at ho
    refine .inr ⟨h, o, ho, poised, by rw [← windows]; rfl, fun g => ?_⟩
    rw [State.liftSent_hoist]
    split
    · next e => subst e; rw [hoist]; exact .inr ⟨o, _, ho, poised, rfl⟩
    · rw [hoist]; exact .inl rfl

theorem State.makeDue_hoist (s : State) (k : Nat) (g : Hoist) : (s.hoist g).Released ((s.makeDue k).hoist g) := by
  obtain ⟨same, -⟩ | ⟨h, o, -, -, -, released⟩ := s.makeDue_lift k
  · exact .inl (same g)
  · exact released g

theorem State.makeDue_window (s : State) (k m : Nat) :
    (s.makeDue k).windows.get m = s.windows.get m ∨ (s.makeDue k).windows.get m = none ∧
      ∃ h, ∃ o ∈ (s.hoist h).order, o.phase = .poised ∧ o.source = m := by
  obtain ⟨-, e⟩ | ⟨h, o, ho, poised, e, -⟩ := s.makeDue_lift k
  · exact .inl (by rw [e])
  · rw [e, Table.get_set]
    split
    · next here => exact .inr ⟨rfl, h, o, ho, poised, here.1⟩
    · exact .inl rfl

theorem State.foldl_makeDue_hoist (l : List Nat) (s : State) (g : Hoist) :
    (s.hoist g).Released ((l.foldl State.makeDue s).hoist g) :=
  List.foldlRecOn l State.makeDue (motive := fun u => (s.hoist g).Released (u.hoist g)) (.inl rfl)
    fun u h j _ => h.trans (u.makeDue_hoist j g)

/-- A station that no POISED order has for source keeps its seat window. -/
theorem State.foldl_makeDue_window (l : List Nat) (s : State) {m : Nat}
    (away : ∀ g, ∀ o ∈ (s.hoist g).order, o.phase ≠ .poised ∨ o.source ≠ m) :
    (l.foldl State.makeDue s).windows.get m = s.windows.get m := by
  refine (List.foldlRecOn l State.makeDue (motive := fun u => (∀ g, (s.hoist g).Released (u.hoist g)) ∧
    u.windows.get m = s.windows.get m) ⟨fun _ => .inl rfl, rfl⟩ fun u hu j _ => ?_).2
  obtain ⟨released, window⟩ := hu
  refine ⟨fun g => (released g).trans (u.makeDue_hoist j g), ?_⟩
  obtain e | ⟨-, g, o, ho, poised, source⟩ := u.makeDue_window j m
  · rw [e, window]
  · rw [(released g).poised ho poised] at ho
    obtain other | other := away g o ho
    · exact absurd poised other
    · exact absurd source other

/-- No DUE test brings a seat window to 0. -/
theorem State.foldl_makeDue_window_ne (l : List Nat) (s : State) {m : Nat} (hm : s.windows.get m ≠ some 0) :
    (l.foldl State.makeDue s).windows.get m ≠ some 0 :=
  List.foldlRecOn l State.makeDue (motive := fun u => u.windows.get m ≠ some 0) hm fun u hu j _ => by
    obtain e | ⟨e, -⟩ := u.makeDue_window j m <;> rw [e]
    · exact hu
    · exact nofun

/-! ### What a fault leaves of the racks (06 R124) -/

theorem Hoist_faultCause_isHalt (h : Hoist) : h.faultCause.isHalt = false := by cases h <;> rfl

/-- Hoist h in FAULT with its order closed, its cause and its handover still to come (06 R123). -/
def State.faultBegun (s : State) (h : Hoist) (reason : FaultReason) : State :=
  (s.setHoist h { s.hoist h with st := .fault, reason := reason }).faultCloseOpen h

theorem State.enterFault_eq (s : State) (h : Hoist) (reason : FaultReason) :
    s.enterFault h reason = ((s.faultBegun h reason).addCause h.faultCause).handoverFault h := rfl

/-- From s to t no rack's record goes, and each follows the one there was. -/
def State.RacksFollow (s t : State) : Prop := ∀ k, ∀ r ∈ s.racks.get k, ∃ r' ∈ t.racks.get k, r.Follows r'

theorem Rack.Follows.trans {x y z : Rack} (h : x.Follows y) (g : y.Follows z) : x.Follows z :=
  ⟨g.acc.trans h.acc, g.stepIdx.trans h.stepIdx, g.target.trans h.target, g.overrun.trans h.overrun,
    g.dueTick.trans h.dueTick, fun f hf => (g.flags f hf).trans (h.flags f hf)⟩

theorem Rack.Follows.of_undirected {x y : Rack} (h : y.undirected = x.undirected) : x.Follows y := by
  obtain ⟨d, rfl⟩ := Rack.directed_of_undirected h
  exact ⟨rfl, rfl, rfl, rfl, rfl, fun _ _ => Iff.rfl⟩

namespace State.RacksFollow

theorem of_same (h : t.racks = s.racks) : s.RacksFollow t := fun k r hr => ⟨r, by rw [h]; exact hr, .refl r⟩

theorem trans (h : s.RacksFollow t) (g : t.RacksFollow u) : s.RacksFollow u := fun k r hr => by
  obtain ⟨x, hx, follows⟩ := h k r hr
  obtain ⟨y, hy, follows'⟩ := g k x hx
  exact ⟨y, hy, follows.trans follows'⟩

theorem retried (h : s.Retried t) : s.RacksFollow t := fun k r hr => by
  have same := h.racks k
  rw [hr, Option.map_some, Option.map_eq_some_iff] at same
  obtain ⟨x, hx, e⟩ := same
  exact ⟨x, hx, .of_undirected e⟩

theorem setRack {x : Rack} (hr : s.racks.get k = some r) (follows : r.Follows x) :
    s.RacksFollow (s.setRack k (some x)) := fun j y hy => by
  by_cases hj : k = j
  · subst hj
    obtain rfl := Option.some.inj (hr.symm.trans hy)
    exact ⟨x, Table.get_set_self _ (Table.lt_of_get_some hr) _, follows⟩
  · exact ⟨y, by rw [State.setRack_racks, Table.get_set_ne _ hj]; exact hy, .refl y⟩

theorem strand (s : State) (k : Nat) (lifted : Bool) : s.RacksFollow (s.strand k lifted) := by
  unfold State.strand
  split
  · next r hr =>
    refine (((setRack hr (x := { r with st := .stranded, station := none, dest := none })
      ⟨rfl, rfl, rfl, rfl, rfl, fun _ _ => Iff.rfl⟩).trans (of_same ?_)).trans (retried (.retryIf _ _))).trans
        (retried (.retryIf _ _))
    simp
  · exact of_same rfl

theorem faultClose (s : State) (o : Order) : s.RacksFollow (s.faultClose o) := by
  have returned : s.RacksFollow (s.returnRequest o.slot) := of_same (by simp)
  unfold State.faultClose
  split
  · exact returned
  · exact returned
  · exact returned
  · split
    · exact returned
    · exact strand s _ _
  · exact strand s _ _

theorem faultCloseOpen (s : State) (h : Hoist) : s.RacksFollow (s.faultCloseOpen h) := by
  unfold State.faultCloseOpen
  split
  · exact (of_same (by simp) : s.RacksFollow (s.setHoist h _)).trans (faultClose _ _)
  · exact of_same rfl

theorem enterFault (s : State) (h : Hoist) (reason : FaultReason) : s.RacksFollow (s.enterFault h reason) :=
  ((of_same (by simp) : s.RacksFollow (s.setHoist h _)).trans (faultCloseOpen _ h)).trans
    (of_same (t := s.enterFault h reason) (by
      rw [State.enterFault_eq, State.handoverFault_racks, State.addCause_racks]; rfl))

theorem expirePhase (s : State) (h : Hoist) : s.RacksFollow (s.expirePhase h) := by
  unfold State.expirePhase
  dsimp only
  split
  · exact enterFault s _ _
  · exact of_same rfl

theorem expireAck (s : State) : s.RacksFollow s.expireAck := by
  unfold State.expireAck
  dsimp only
  split
  · exact (of_same (by rw [State.addCause_racks])).trans (enterFault (s.addCause .handoverTimeout) _ _)
  · exact enterFault s _ _
  · exact of_same rfl

theorem fromBaths (s : State) : s.tickBaths.RacksFollow s.tickTimers :=
  ((expirePhase _ .a).trans (expirePhase _ .b)).trans (expireAck _)

end State.RacksFollow

/-! ### A hoist that enters FAULT (06 R123, 07 R142) -/

/-- The causes after a fault are those before it and the hoist's own (06 R123). -/
theorem State.mem_causes_enterFault (s : State) (h : Hoist) (reason : FaultReason) (c : Cause) :
    c ∈ (s.enterFault h reason).line.causes ↔ c = h.faultCause ∨ c ∈ s.line.causes := by
  rw [State.enterFault_eq, State.handoverFault_line, State.mem_causes_addCause (Hoist_faultCause_isHalt h),
    State.faultBegun, State.faultCloseOpen_line, State.setHoist_line]

theorem State.faultClose_hoist (s : State) (o : Order) (g : Hoist) : (s.faultClose o).hoist g = s.hoist g := by
  cases g
  · exact s.faultClose_hoistA o
  · exact s.faultClose_hoistB o

/-- The record of a hoist whose order its fault closes. -/
theorem State.faultCloseOpen_hoist (s : State) (h g : Hoist) : (s.faultCloseOpen h).hoist g =
    if g = h ∧ (s.hoist h).order ≠ none then { s.hoist h with order := none, timer := none } else s.hoist g := by
  unfold State.faultCloseOpen
  split
  · next o ho =>
    rw [State.faultClose_hoist]
    by_cases e : g = h
    · subst e; rw [State.setHoist_hoist, if_pos ⟨rfl, by rw [ho]; exact nofun⟩]
    · rw [State.setHoist_ne _ e, if_neg (fun c => e c.1)]
  · next ho => rw [if_neg (fun c => c.2 ho)]

theorem State.handoverFault_hoist (s : State) (h g : Hoist) : (s.handoverFault h).hoist g = s.hoist g := by
  cases g
  · exact s.handoverFault_hoistA h
  · exact s.handoverFault_hoistB h

theorem State.enterFault_hoist (s : State) (h g : Hoist) (reason : FaultReason) :
    (s.enterFault h reason).hoist g = (s.faultBegun h reason).hoist g := by
  rw [State.enterFault_eq, State.handoverFault_hoist, State.addCause_hoist_eq (Hoist_faultCause_isHalt h)]

theorem State.enterFault_ne (s : State) (reason : FaultReason) (hg : g ≠ h) :
    (s.enterFault h reason).hoist g = s.hoist g := by
  rw [State.enterFault_hoist, State.faultBegun, State.faultCloseOpen_hoist, if_neg (fun c => hg c.1),
    State.setHoist_ne _ hg]

theorem State.enterFault_self (s : State) (h : Hoist) (reason : FaultReason) :
    ((s.enterFault h reason).hoist h).st = .fault ∧ ((s.enterFault h reason).hoist h).order = none ∧
      ((s.enterFault h reason).hoist h).reason = reason := by
  rw [State.enterFault_hoist, State.faultBegun, State.faultCloseOpen_hoist, State.setHoist_hoist]
  split
  · exact ⟨rfl, rfl, rfl⟩
  · next not => exact ⟨rfl, by simpa using not, rfl⟩

/-- The closing of an order by a fault leaves the handover's stage and taker. -/
theorem State.faultClose_handover {β : Type} (part : Handover → β) (hp : ∀ x b, part { x with bound := b } = part x)
    (s : State) (o : Order) : part (s.faultClose o).span.handover = part s.span.handover := by
  have stranded (k : Nat) (b : Bool) : part (s.strand k b).span.handover = part s.span.handover := by
    unfold State.strand
    split
    · rw [State.retryIf_span, State.retryIf_span, State.rackNotice_span]
      unfold State.removeRequest
      dsimp only
      split
      · rw [State.setHandover_handover, hp]; simp
      · simp
    · rfl
  unfold State.faultClose
  repeat' split
  all_goals simp [stranded]

theorem State.faultCloseOpen_handover {β : Type} (part : Handover → β) (hp : ∀ x b, part { x with bound := b } = part x)
    (s : State) (h : Hoist) : part (s.faultCloseOpen h).span.handover = part s.span.handover := by
  unfold State.faultCloseOpen
  split
  · rw [State.faultClose_handover part hp, State.setHoist_span]
  · rfl

/-- The handover after a fault: none, or still SHRINKING where the taker faulted (07 R142). -/
theorem State.handoverFault_stage (s : State) (h : Hoist) : (s.handoverFault h).span.handover.stage = .none ∨
    (s.handoverFault h).span.handover.stage = .shrinking ∧ (s.handoverFault h).span.handover.taker = h ∧
      s.span.handover.stage = .shrinking ∧ s.span.handover.taker = h := by
  unfold State.handoverFault
  dsimp only
  split
  · next none => exact .inl none
  · split
    · next taker =>
      refine .inr ⟨?_, ?_, taker.1, taker.2.1.symm⟩
      · exact (congrArg (·.handover.stage) s.returnBound_span).trans taker.1
      · exact (congrArg (·.handover.taker) s.returnBound_span).trans taker.2.1.symm
    · exact .inl rfl

theorem State.enterFault_stage (s : State) (h : Hoist) (reason : FaultReason) :
    (s.enterFault h reason).span.handover.stage = .none ∨
      (s.enterFault h reason).span.handover.stage = .shrinking ∧ (s.enterFault h reason).span.handover.taker = h ∧
        s.span.handover.stage = .shrinking ∧ s.span.handover.taker = h := by
  have kept {β : Type} (part : Handover → β) (hp : ∀ x b, part { x with bound := b } = part x) :
      part ((s.faultBegun h reason).addCause h.faultCause).span.handover = part s.span.handover := by
    rw [State.addCause_span_eq (Hoist_faultCause_isHalt h), State.faultBegun,
      State.faultCloseOpen_handover part hp, State.setHoist_span]
  have stage := kept (·.stage) (fun _ _ => rfl)
  have taker := kept (·.taker) (fun _ _ => rfl)
  have faulted := ((s.faultBegun h reason).addCause h.faultCause).handoverFault_stage h
  rw [stage, taker] at faulted
  exact faulted

/-! ### A phase timer that has reached 0 (06 R123) -/

theorem State.expirePhase_runs (runs : (s.hoist h).Runs) : s.expirePhase h = s := by
  unfold State.expirePhase
  dsimp only
  split
  · next timer suspended => exact absurd ⟨timer, suspended⟩ runs
  · rfl

theorem State.expirePhase_ne (s : State) (hg : g ≠ h) : (s.expirePhase h).hoist g = s.hoist g := by
  unfold State.expirePhase
  dsimp only
  split
  · exact s.enterFault_ne _ hg
  · rfl

/-- Hoist h has entered FAULT, and no handover is left in which the acknowledgement's expiry would fault it again. -/
structure State.Faulted (t : State) (h : Hoist) (reason : FaultReason) : Prop where
  st      : (t.hoist h).st = .fault
  order   : (t.hoist h).order = none
  reason  : (t.hoist h).reason = reason
  handover : t.span.handover.stage = .none ∨ t.span.handover.stage = .shrinking ∧ t.span.handover.taker = h

theorem State.enterFault_faulted (s : State) (h : Hoist) (reason : FaultReason) :
    (s.enterFault h reason).Faulted h reason := by
  obtain ⟨st, order, why⟩ := s.enterFault_self h reason
  exact ⟨st, order, why, (s.enterFault_stage h reason).imp id (fun ⟨stage, taker, _⟩ => ⟨stage, taker⟩)⟩

theorem State.Faulted.enterFault_ne {reason : FaultReason} (f : s.Faulted h reason) (hg : h ≠ g) (why : FaultReason) :
    (s.enterFault g why).Faulted h reason := by
  have hoist := s.enterFault_ne why hg
  refine ⟨by rw [hoist]; exact f.st, by rw [hoist]; exact f.order, by rw [hoist]; exact f.reason, ?_⟩
  obtain none | ⟨-, -, stage, taker⟩ := s.enterFault_stage g why
  · exact .inl none
  · obtain none | ⟨-, other⟩ := f.handover
    · rw [none] at stage; cases stage
    · exact absurd (other.symm.trans taker) hg

theorem State.expirePhase_faulted (ho : (s.hoist h).order = some o) (timer : (s.hoist h).timer = some 0)
    (running : (s.hoist h).suspended = false) : (s.expirePhase h).Faulted h (.timeoutPhase o.phase) := by
  simp only [State.expirePhase, ho, timer, running]
  exact s.enterFault_faulted h _

theorem State.Faulted.expirePhase {reason : FaultReason} (f : s.Faulted h reason) (hg : h ≠ g) :
    (s.expirePhase g).Faulted h reason := by
  unfold State.expirePhase
  dsimp only
  split
  · exact f.enterFault_ne hg _
  · exact f

theorem State.Faulted.expireAck {reason : FaultReason} (f : s.Faulted h reason) : s.expireAck.Faulted h reason := by
  unfold State.expireAck
  dsimp only
  split
  · next stage =>
    obtain none | ⟨-, taker⟩ := f.handover
    · rw [none] at stage; cases stage
    · have hoist := State.addCause_hoist_eq (s := s) (c := .handoverTimeout) rfl h
      have added : (s.addCause .handoverTimeout).Faulted h reason :=
        ⟨by rw [hoist]; exact f.st, by rw [hoist]; exact f.order, by rw [hoist]; exact f.reason,
          by rw [State.addCause_span_eq rfl]; exact f.handover⟩
      exact added.enterFault_ne (by rw [taker]; exact (Hoist_other_ne h).symm) _
  · next stage =>
    obtain none | ⟨shrinking, -⟩ := f.handover
    · rw [none] at stage; cases stage
    · rw [shrinking] at stage; cases stage
  · exact f

/-- A hoist whose phase timer has reached 0 is in FAULT when the timers of the tick have been taken. -/
theorem State.tickTimers_faulted (ho : (s.tickBaths.hoist h).order = some o)
    (timer : (s.tickBaths.hoist h).timer = some 0)
    (running : (s.tickBaths.hoist h).suspended = false) : s.tickTimers.Faulted h (.timeoutPhase o.phase) := by
  cases h with
  | a => exact ((State.expirePhase_faulted ho timer running).expirePhase (by decide)).expireAck
  | b =>
    have same := s.tickBaths.expirePhase_ne (g := .b) (h := .a) (by decide)
    rw [← same] at ho timer running
    exact (State.expirePhase_faulted ho timer running).expireAck

/-! ### The acknowledgement timer (07 R141) -/

theorem State.expireAck_runs (runs : ¬ (s.span.handover.timer = some 0 ∧ s.span.handover.suspended = false)) :
    s.expireAck = s := by
  unfold State.expireAck
  dsimp only
  split
  · next timer suspended _ => exact absurd ⟨timer, suspended⟩ runs
  · next timer suspended _ => exact absurd ⟨timer, suspended⟩ runs
  · rfl

theorem State.tickTimers_runs (a : s.tickBaths.hoistA.Runs) (b : s.tickBaths.hoistB.Runs) :
    s.tickTimers = s.tickBaths.expireAck := by
  unfold State.tickTimers
  rw [State.expirePhase_runs (h := .a) a, State.expirePhase_runs (h := .b) b]

/-- The acknowledgement not given in SHRINKING faults the victim and adds HANDOVER_TIMEOUT. -/
theorem State.expireAck_shrinking (timer : s.span.handover.timer = some 0)
    (running : s.span.handover.suspended = false) (stage : s.span.handover.stage = .shrinking) :
    (s.expireAck.hoist s.span.handover.taker.other).st = .fault ∧
      (s.expireAck.hoist s.span.handover.taker.other).reason = .timeoutStage .shrinking ∧
      s.expireAck.span.handover.stage = .none ∧ .handoverTimeout ∈ s.expireAck.line.causes := by
  have e : s.expireAck =
      (s.addCause .handoverTimeout).enterFault s.span.handover.taker.other (.timeoutStage .shrinking) := by
    simp only [State.expireAck, timer, running, stage]
  obtain ⟨st, -, reason⟩ := (s.addCause .handoverTimeout).enterFault_self s.span.handover.taker.other
    (.timeoutStage .shrinking)
  rw [e]
  refine ⟨st, reason, ?_, (State.mem_causes_enterFault _ _ _ _).mpr (.inr (State.mem_addCause rfl))⟩
  obtain none | ⟨-, -, -, taker⟩ := (s.addCause .handoverTimeout).enterFault_stage s.span.handover.taker.other
    (.timeoutStage .shrinking)
  · exact none
  · rw [State.addCause_span_eq rfl] at taker
    exact absurd taker (Hoist_other_ne _).symm

/-- The acknowledgement not given in WIDENING faults the taker. -/
theorem State.expireAck_widening (timer : s.span.handover.timer = some 0)
    (running : s.span.handover.suspended = false) (stage : s.span.handover.stage = .widening) :
    (s.expireAck.hoist s.span.handover.taker).st = .fault ∧
      (s.expireAck.hoist s.span.handover.taker).reason = .timeoutStage .widening ∧
      s.expireAck.span.handover.stage = .none := by
  have e : s.expireAck = s.enterFault s.span.handover.taker (.timeoutStage .widening) := by
    simp only [State.expireAck, timer, running, stage]
  obtain ⟨st, -, reason⟩ := s.enterFault_self s.span.handover.taker (.timeoutStage .widening)
  rw [e]
  refine ⟨st, reason, ?_⟩
  obtain none | ⟨-, -, shrinking, -⟩ := s.enterFault_stage s.span.handover.taker (.timeoutStage .widening)
  · exact none
  · rw [stage] at shrinking; cases shrinking

/-- The timers bring no TEMP_STALE. -/
theorem State.tickTimers_tempStale (h : .tempStale ∈ s.tickTimers.line.causes) :
    .tempStale ∈ s.tickBaths.line.causes := by
  have fault (u : State) (g : Hoist) (why : FaultReason) (h : .tempStale ∈ (u.enterFault g why).line.causes) :
      .tempStale ∈ u.line.causes := by
    obtain e | was := (State.mem_causes_enterFault u g why _).mp h
    · cases g <;> cases e
    · exact was
  have phase (u : State) (g : Hoist) (h : .tempStale ∈ (u.expirePhase g).line.causes) : .tempStale ∈ u.line.causes := by
    unfold State.expirePhase at h
    dsimp only at h
    split at h
    · exact fault _ _ _ h
    · exact h
  have ack (u : State) (h : .tempStale ∈ u.expireAck.line.causes) : .tempStale ∈ u.line.causes := by
    unfold State.expireAck at h
    dsimp only at h
    split at h
    · obtain e | was := (State.mem_causes_addCause rfl _).mp (fault _ _ _ h)
      · cases e
      · exact was
    · exact fault _ _ _ h
    · exact h
  unfold State.tickTimers at h
  exact phase _ .a (phase _ .b (ack _ h))

end Sys2Proof.Machine
end

section
/-! PROOFS. The seat windows at a tick, and LINE_TICK as a whole (03 R44, R45, 10 R177). -/

namespace Sys2Proof.Machine

variable {s t u : State} {k m : Nat} {r : Rack} {st : RecipeStep} {h g : Hoist} {o : Order}

/-! ### A seat window that has run out (10 R177) -/

theorem State.expireWindow_still (hm : s.windows.get m ≠ some 0) : s.expireWindow m = s := if_neg hm

theorem State.expireWindow_window (s : State) (hm : m < 32) : (s.expireWindow m).windows.get m =
    if s.windows.get m = some 0 then none else s.windows.get m := by
  unfold State.expireWindow
  split
  · exact Table.get_set_self _ hm _
  · rfl

theorem State.expireWindow_window_ne {n : Nat} (hn : n ≠ m) : (s.expireWindow n).windows.get m = s.windows.get m := by
  unfold State.expireWindow
  split
  · rw [State.setWindow_windows, Table.get_set_ne _ hn]
    split
    · rw [State.addFlag_windows]
    · rfl
  · rfl

/-- From s to t no rack's record goes, and none gains anything but SEAT_UNCONFIRMED. -/
def State.RacksFlagged (s t : State) : Prop := ∀ k, ∀ r ∈ s.racks.get k, ∃ flags,
  t.racks.get k = some { r with flags := flags } ∧ (∀ f ∈ r.flags, f ∈ flags) ∧
    ∀ f ∈ flags, f = .seatUnconfirmed ∨ f ∈ r.flags

namespace State.RacksFlagged

theorem of_same (h : t.racks = s.racks) : s.RacksFlagged t :=
  fun k r hr => ⟨r.flags, by rw [h]; exact hr, fun _ h => h, fun _ h => .inr h⟩

theorem trans (h : s.RacksFlagged t) (g : t.RacksFlagged u) : s.RacksFlagged u := fun k r hr => by
  obtain ⟨fs, ht, more, only⟩ := h k r hr
  obtain ⟨gs, hu, more', only'⟩ := g k _ ht
  exact ⟨gs, hu, fun f hf => more' f (more f hf), fun f hf => (only' f hf).elim .inl (only f)⟩

theorem addFlag (s : State) (k : Nat) : s.RacksFlagged (s.addFlag k .seatUnconfirmed) := fun j r hr => by
  unfold State.addFlag
  split
  · next x hx =>
    by_cases hj : k = j
    · subst hj
      obtain rfl := Option.some.inj (hr.symm.trans hx)
      exact ⟨_, Table.get_set_self _ (Table.lt_of_get_some hr) _, fun f hf => (StepFlag.mem_addTo _ _ _).mpr (.inr hf),
        fun f hf => (StepFlag.mem_addTo _ _ _).mp hf⟩
    · exact of_same rfl j r (by rw [State.setRack_racks, Table.get_set_ne _ hj]; exact hr)
  · exact of_same rfl j r hr

theorem expireWindow (s : State) (n : Nat) : s.RacksFlagged (s.expireWindow n) := by
  unfold State.expireWindow
  split
  · split
    · exact (addFlag s _).trans (of_same rfl)
    · exact of_same rfl
  · exact of_same rfl

theorem foldl (l : List Nat) (s : State) : s.RacksFlagged (l.foldl State.expireWindow s) :=
  List.foldlRecOn l State.expireWindow (of_same rfl) fun u h j _ => h.trans (expireWindow u j)

theorem has (h : s.RacksFlagged t) {f : StepFlag} (hr : ∃ r ∈ s.racks.get k, f ∈ r.flags) :
    ∃ r ∈ t.racks.get k, f ∈ r.flags := by
  obtain ⟨r, hr, hf⟩ := hr
  obtain ⟨fs, ht, more, -⟩ := h k r hr
  exact ⟨_, ht, more f hf⟩

end State.RacksFlagged

/-- The rack in a station whose window has run out gains SEAT_UNCONFIRMED. -/
theorem State.expireWindow_flag (hm : s.windows.get m = some 0) (occ : (s.stations.get m).occ = .occupied k)
    (hr : s.racks.get k ≠ none) : ∃ r ∈ (s.expireWindow m).racks.get k, .seatUnconfirmed ∈ r.flags := by
  obtain ⟨r, hr⟩ := Option.ne_none_iff_exists'.mp hr
  have here : s.rackAt m = some (k, r) := by simp only [State.rackAt, occ, hr, Option.map_some]
  refine ⟨{ r with flags := StepFlag.seatUnconfirmed.addTo r.flags }, ?_, (StepFlag.mem_addTo _ _ _).mpr (.inl rfl)⟩
  simp only [State.expireWindow, hm, if_true, here, State.setWindow_racks, State.addFlag, hr, State.setRack_racks]
  exact Table.get_set_self _ (Table.lt_of_get_some hr) _

/-! ### All seat windows -/

theorem State.foldl_expireWindow_still {l : List Nat} (hl : ∀ n ∈ l, s.windows.get n ≠ some 0) :
    l.foldl State.expireWindow s = s :=
  List.foldlRecOn l State.expireWindow (motive := fun u => u = s) rfl
    fun u e n hn => by rw [e]; exact State.expireWindow_still (hl n hn)

/-- The station the loop comes to once: its window, and the flag of the rack in it. -/
theorem State.foldl_expireWindow_window {l : List Nat} (nodup : l.Nodup) (mem : m ∈ l) (hm : m < 32) :
    (l.foldl State.expireWindow s).windows.get m = (if s.windows.get m = some 0 then none else s.windows.get m) ∧
      (s.windows.get m = some 0 → (s.stations.get m).occ = .occupied k → s.racks.get k ≠ none →
        ∃ r ∈ (l.foldl State.expireWindow s).racks.get k, .seatUnconfirmed ∈ r.flags) := by
  refine State.foldl_turn (P := fun u => u.windows.get m = s.windows.get m ∧ u.stations = s.stations ∧ s.RacksFlagged u)
    (Q := fun u => u.windows.get m = (if s.windows.get m = some 0 then none else s.windows.get m) ∧
      (s.windows.get m = some 0 → (s.stations.get m).occ = .occupied k → s.racks.get k ≠ none →
        ∃ r ∈ u.racks.get k, .seatUnconfirmed ∈ r.flags)) nodup mem
    (fun u n _ hn hu => ?_) (fun u hu => ?_) (fun u n _ hn hu => ?_) ⟨rfl, rfl, .of_same rfl⟩
  · obtain ⟨window, stations, flagged⟩ := hu
    exact ⟨(State.expireWindow_window_ne hn).trans window, by rw [State.expireWindow_stations]; exact stations,
      flagged.trans (.expireWindow u n)⟩
  · obtain ⟨window, stations, flagged⟩ := hu
    refine ⟨by rw [State.expireWindow_window u hm, window], fun zero occ hr => ?_⟩
    obtain ⟨r, hr⟩ := Option.ne_none_iff_exists'.mp hr
    obtain ⟨fs, hu, -⟩ := flagged k r hr
    exact State.expireWindow_flag (window.trans zero) (by rw [stations]; exact occ) (by rw [hu]; exact nofun)
  · obtain ⟨window, seat⟩ := hu
    exact ⟨(State.expireWindow_window_ne hn).trans window, fun zero occ hr =>
      (State.RacksFlagged.expireWindow u n).has (seat zero occ hr)⟩

/-! ### The stages as they leave the rest of the state -/

theorem State.overrunOne_rest (s : State) (j : Nat) : s.overrunOne j =
    { s with racks := (s.overrunOne j).racks, link := (s.overrunOne j).link } := by
  unfold State.overrunOne State.overtimeTest
  dsimp only
  repeat' split
  all_goals rfl

theorem State.tickOverrun_rest (s : State) : s.tickOverrun =
    { s.tickDue with racks := s.tickOverrun.racks, link := s.tickOverrun.link } := by
  have loop (l : List Nat) (v : State) : l.foldl State.overrunOne v =
      { v with racks := (l.foldl State.overrunOne v).racks, link := (l.foldl State.overrunOne v).link } := by
    induction l generalizing v with
    | nil => rfl
    | cons j l ih => rw [List.foldl_cons, ih, v.overrunOne_rest j]
  exact loop _ _

theorem State.tickBaths_rest (s : State) : s.tickBaths =
    { s.tickOverrun with baths := s.tickBaths.baths, line := s.tickBaths.line, link := s.tickBaths.link } := by
  have loop (l : List Nat) (v : State) : l.foldl State.bathTurn v =
      { v with baths := (l.foldl State.bathTurn v).baths, line := (l.foldl State.bathTurn v).line
               link := (l.foldl State.bathTurn v).link } := by
    induction l generalizing v with
    | nil => rfl
    | cons j l ih => rw [List.foldl_cons, ih, v.bathTurn_rest j]
  exact loop _ _

theorem State.tickBaths_racks (s : State) : s.tickBaths.racks = s.tickOverrun.racks := by rw [State.tickBaths_rest]

/-- A field that is none of those the overrun and the baths write is as the DUE tests have left it. -/
theorem State.tickBaths_of_due {β : Type} (field : State → β)
    (rest : ∀ (v : State) b r li ln, field { v with baths := b, racks := r, line := li, link := ln } = field v) :
    field s.tickBaths = field s.tickDue := by
  have baths : field s.tickBaths = field s.tickOverrun := by
    rw [State.tickBaths_rest]; exact rest s.tickOverrun _ _ _ _
  have overrun : field s.tickOverrun = field s.tickDue := by
    rw [State.tickOverrun_rest]; exact rest s.tickDue _ _ _ _
  exact baths.trans overrun

theorem State.tickAdvanced_field {β : Type} (field : State → β)
    (rest : ∀ (v : State) b r li ln, field { v with baths := b, racks := r, line := li, link := ln } = field v) :
    field s.tickAdvanced = field s.countTick := by
  rw [State.tickAdvanced_eq]; exact rest s.countTick _ _ _ _

/-- One that no DUE test writes either is as the counts of the tick have left it. -/
theorem State.tickBaths_field {β : Type} (field : State → β) (due : ∀ u j, field (u.makeDue j) = field u)
    (rest : ∀ (v : State) b r li ln, field { v with baths := b, racks := r, line := li, link := ln } = field v) :
    field s.tickBaths = field s.countTick := by
  have handed : field s.tickDue = field s.tickAdvanced := State.foldl_same field _ due _ _
  exact (State.tickBaths_of_due field rest).trans (handed.trans (State.tickAdvanced_field field rest))

end Sys2Proof.Machine
end

section
/-! PROOFS. LINE_TICK, clause by clause (03 R44, R45, R54, R56, R57, R60, R62, R63, 04 R71, R73, 05 R97, 06 R113, R123,
07 R141, 10 R177). -/

namespace Sys2Proof.Machine

variable {s t u : State} {k m b v : Nat} {r : Rack} {st : RecipeStep} {h g : Hoist} {o : Order}

/-! ### Timers that do not run out at this tick -/

/-- No phase timer reaches 0 at the next tick. -/
def State.Calm (s : State) : Prop :=
  ∀ x ∈ [s.hoistA, s.hoistB], x.suspended = true ∨ (x.timer ≠ some 0 ∧ x.timer ≠ some 1)

/-- Nor does the acknowledgement timer. -/
def State.Quiet (s : State) : Prop :=
  s.Calm ∧ (s.span.handover.suspended = true ∨ (s.span.handover.timer ≠ some 0 ∧ s.span.handover.timer ≠ some 1))

/-- A timer that is suspended, or above 1, has not run out after the fall of a tick. -/
theorem fall_runs {timer : Option Nat} {suspended : Bool}
    (h : suspended = true ∨ (timer ≠ some 0 ∧ timer ≠ some 1)) :
    ¬ (fall timer suspended = some 0 ∧ suspended = false) := by
  rintro ⟨zero, rfl⟩
  obtain held | ⟨not0, not1⟩ := h
  · cases held
  · match timer with
    | none => cases zero
    | some 0 => exact not0 rfl
    | some 1 => exact not1 rfl
    | some (n + 2) => cases zero

theorem fall_suspended (timer : Option Nat) : fall timer true = timer := by
  match timer with
  | none => rfl
  | some 0 => rfl
  | some (n + 1) => rfl

theorem State.countTick_hoist (s : State) (g : Hoist) : s.countTick.hoist g = (s.hoist g).fallTimer := by
  cases g <;> rfl

/-- A hoist before the timers are taken: as its timer has fallen, or sent LIFT. -/
theorem State.tickBaths_hoist (s : State) (g : Hoist) : (s.hoist g).fallTimer.Released (s.tickBaths.hoist g) := by
  have rest (v : State) (b r li ln) :
      { v with baths := b, racks := r, line := li, link := ln }.hoist g = v.hoist g := by cases g <;> rfl
  rw [State.tickBaths_of_due (·.hoist g) rest, ← State.countTick_hoist, ← State.tickAdvanced_field (·.hoist g) rest]
  exact State.foldl_makeDue_hoist _ _ g

/-- A hoist whose order is not POISED, before the timers are taken. -/
theorem State.tickBaths_hoist_eq (ho : (s.hoist h).order = some o) (not : o.phase ≠ .poised) :
    s.tickBaths.hoist h = (s.hoist h).fallTimer :=
  (s.tickBaths_hoist h).same fun p hp => by
    obtain rfl := Option.some.inj (ho.symm.trans hp)
    exact not

theorem Timing.lift_of_inRange {x : Timing} (h : Timing.InRange x) : 5 ≤ x.lift := by
  obtain ⟨-, -, -, -, -, -, -, lift, -⟩ := h
  exact lift

theorem State.Calm.runs (calm : s.Calm) (timings : s.TimingsInRange) (g : Hoist) : (s.tickBaths.hoist g).Runs := by
  have lift : 5 ≤ (s.hoist g).timing.lift := by
    cases g
    · exact Timing.lift_of_inRange timings.1
    · exact Timing.lift_of_inRange timings.2
  have before : (s.hoist g).suspended = true ∨ ((s.hoist g).timer ≠ some 0 ∧ (s.hoist g).timer ≠ some 1) := by
    cases g
    · exact calm _ (by simp [State.hoist])
    · exact calm _ (by simp [State.hoist])
  exact (s.tickBaths_hoist g).runs (fall_runs before) (by show 0 < (s.hoist g).timing.lift; omega)

theorem State.tickBaths_span (s : State) : s.tickBaths.span = s.countTick.span :=
  State.tickBaths_field State.span (fun _ _ => State.makeDue_span _ _) (fun _ _ _ _ _ => rfl)

theorem State.Calm.timers (calm : s.Calm) (timings : s.TimingsInRange) : s.tickTimers = s.tickBaths.expireAck :=
  State.tickTimers_runs (calm.runs timings .a) (calm.runs timings .b)

/-- In a tick without an expiry the timers do nothing. -/
theorem State.Quiet.timers (quiet : s.Quiet) (timings : s.TimingsInRange) : s.tickTimers = s.tickBaths := by
  rw [quiet.1.timers timings]
  refine State.expireAck_runs ?_
  rw [State.tickBaths_span]
  exact fall_runs quiet.2

/-! ### What the timers and the windows leave alone -/

theorem State.tickWindows_field {β : Type} (field : State → β) (phase : ∀ u h, field (u.expirePhase h) = field u)
    (ack : ∀ u, field u.expireAck = field u) (window : ∀ u n, field (u.expireWindow n) = field u) :
    field s.tickWindows = field s.tickBaths := by
  unfold State.tickWindows State.tickTimers
  rw [State.foldl_same field _ window, ack, phase, phase]

/-- A field that no operation of a tick changes after the counts. -/
theorem State.tick_field {β : Type} (field : State → β) (due : ∀ u j, field (u.makeDue j) = field u)
    (rest : ∀ (v : State) b r li ln, field { v with baths := b, racks := r, line := li, link := ln } = field v)
    (phase : ∀ u h, field (u.expirePhase h) = field u) (ack : ∀ u, field u.expireAck = field u)
    (window : ∀ u n, field (u.expireWindow n) = field u) : field s.tickWindows = field s.countTick :=
  (State.tickWindows_field field phase ack window).trans (State.tickBaths_field field due rest)

theorem State.tickWindows_tick (s : State) : s.tickWindows.tick = s.tick + 1 :=
  State.tick_field State.tick (by simp) (fun _ _ _ _ _ => rfl) (by simp) (by simp) (by simp)

theorem State.tickWindows_gens (s : State) : s.tickWindows.gens = s.gens :=
  State.tick_field State.gens (by simp) (fun _ _ _ _ _ => rfl) (by simp) (by simp) (by simp)

theorem State.tickWindows_recipes (s : State) : s.tickWindows.recipes = s.recipes :=
  State.tick_field State.recipes (by simp) (fun _ _ _ _ _ => rfl) (by simp) (by simp) (by simp)

theorem State.tickWindows_io (s : State) : s.tickWindows.io = s.io :=
  State.tick_field State.io (by simp) (fun _ _ _ _ _ => rfl) (by simp) (by simp) (by simp)

theorem State.tickWindows_queue (s : State) : s.tickWindows.queue = s.queue :=
  State.tick_field State.queue (by simp) (fun _ _ _ _ _ => rfl) (by simp) (by simp) (by simp)

theorem State.tickWindows_baths (s : State) : s.tickWindows.baths = s.tickBaths.baths :=
  State.tickWindows_field State.baths (by simp) (by simp) (by simp)

theorem State.tickWindows_span (s : State) : s.tickWindows.span = s.tickTimers.span :=
  State.foldl_same State.span _ (by simp) _ _

theorem State.tickWindows_line (s : State) : s.tickWindows.line = s.tickTimers.line :=
  State.foldl_same State.line _ (by simp) _ _

theorem State.tickWindows_hoist (s : State) (g : Hoist) : s.tickWindows.hoist g = s.tickTimers.hoist g := by
  cases g
  · exact State.foldl_same State.hoistA _ (by simp) _ _
  · exact State.foldl_same State.hoistB _ (by simp) _ _

theorem State.Carries.toEnd (s : State) : s.tickBaths.Carries s.tickWindows := (fromBaths s).trans (fromTimers s)

theorem State.Carries.all (s : State) : s.Carries s.tickWindows :=
  (((toDue s).trans (fromDue s)).trans (fromOverrun s)).trans (toEnd s)

/-! ### The baths -/

theorem State.tickWindows_bath (s : State) (hb : b < 8) : s.tickWindows.BathTaken b
    ((s.baths.get b).atTick ((s.tick + 1).toNat % 16)) (s.bathCompensates b) :=
  (s.tickBaths_bath hb).mono (by rw [State.tickWindows_baths]) (.toEnd s)

theorem Bath.atTick_staleCount (x : Bath) (p : Nat) (h : x.status ≠ .none) :
    (x.atTick p).staleCount = min 65535 (x.staleCount + 1) := if_neg h

/-- A bath's status after a tick that does not bring it to 300 or 1200 (04 R71). -/
theorem Bath.turned_status (x : Bath) (p : Nat) (still : x.status = .none ∨ x.status = .lapsed ∨
    (x.status = .fresh ∧ x.staleCount + 1 < 300) ∨ (x.status = .stale ∧ x.staleCount + 1 < 1200)) :
    (x.atTick p).turned.status = x.status := by
  have count := x.atTick_staleCount p
  have status : (x.atTick p).status = x.status := rfl
  unfold Bath.turned
  rw [status]
  dsimp only
  obtain none | lapsed | ⟨fresh, short⟩ | ⟨stale, short⟩ := still
  · simp [none]
  · simp [lapsed]
  · rw [count (by rw [fresh]; decide), if_neg (fun c => by omega), if_neg (fun c => by omega)]
  · rw [count (by rw [stale]; decide), if_neg (fun c => by omega), if_neg (fun c => by rw [stale] at c; cases c.1)]

theorem Bath.turned_stale (x : Bath) (p : Nat) (fresh : x.status = .fresh) (count : x.staleCount + 1 = 300) :
    (x.atTick p).turned.status = .stale := by
  have n := x.atTick_staleCount p (by rw [fresh]; decide)
  have status : (x.atTick p).status = .fresh := fresh
  unfold Bath.turned
  rw [status, n]
  dsimp only
  rw [if_neg (fun c => by omega), if_pos ⟨rfl, by omega⟩]

theorem Bath.turned_lapsed (x : Bath) (p : Nat) (stale : x.status = .stale) (count : x.staleCount + 1 = 1200) :
    (x.atTick p).turned.status = .lapsed := by
  have n := x.atTick_staleCount p (by rw [stale]; decide)
  have status : (x.atTick p).status = .stale := stale
  unfold Bath.turned
  rw [status, n]
  dsimp only
  rw [if_pos ⟨.inr rfl, by omega⟩]

theorem State.tickWindows_stale (hb : b < 8) (fresh : (s.baths.get b).status = .fresh)
    (count : (s.baths.get b).staleCount + 1 = 300) : s.tickWindows.Noticed
      (.bath .stale b (s.baths.get b).temp .stale (s.baths.get b).probeFault 300 (s.baths.get b).owed) := by
  have n := (s.baths.get b).atTick_staleCount ((s.tick + 1).toNat % 16) (by rw [fresh]; decide)
  have told := (s.tickWindows_bath hb).stale fresh (by omega)
  rwa [show ((s.baths.get b).atTick ((s.tick + 1).toNat % 16)).staleCount = 300 by omega] at told

theorem State.tickWindows_lapsed (hb : b < 8) (stale : (s.baths.get b).status = .stale)
    (count : (s.baths.get b).staleCount + 1 = 1200) : s.tickWindows.Noticed
      (.bath .lapsed b (s.baths.get b).temp .lapsed (s.baths.get b).probeFault 1200 (s.baths.get b).owed) ∧
      (s.bathCompensates b = true → .tempStale ∈ s.tickWindows.line.causes) := by
  have n := (s.baths.get b).atTick_staleCount ((s.tick + 1).toNat % 16) (by rw [stale]; decide)
  have told := (s.tickWindows_bath hb).lapsed stale (by omega)
  rwa [show ((s.baths.get b).atTick ((s.tick + 1).toNat % 16)).staleCount = 1200 by omega] at told

theorem State.tickWindows_tempStale (h : .tempStale ∈ s.tickWindows.line.causes) : .tempStale ∈ s.line.causes ∨
    ∃ c : Nat, c < 8 ∧ ((s.baths.get c).status = .fresh ∨ (s.baths.get c).status = .stale) ∧
      1199 ≤ (s.baths.get c).staleCount ∧ s.bathCompensates c = true :=
  State.tickBaths_tempStale (State.tickTimers_tempStale (by rwa [State.tickWindows_line] at h))

/-! ### The racks -/

/-- A rack's record before the timers of a tick are taken. -/
theorem State.tickBaths_rack (hr : s.racks.get k = some r) :
    ∃ d, s.tickBaths.racks.get k = some { s.compensated r with dest := d } := by
  rw [State.tickBaths_racks]
  exact (State.tickOverrun_rack hr).1.record

/-- A rack's record after a tick follows the record of the compensation unit's work. -/
theorem State.tickWindows_rack (hr : s.racks.get k = some r) :
    ∃ r' ∈ s.tickWindows.racks.get k, (s.compensated r).Follows r' := by
  obtain ⟨d, hd⟩ := State.tickBaths_rack hr
  obtain ⟨x, hx, follows⟩ := State.RacksFollow.fromBaths s k _ hd
  obtain ⟨fs, ht, more, only⟩ := State.RacksFlagged.foldl (List.range 32) s.tickTimers k x hx
  refine ⟨_, ht, follows.acc, follows.stepIdx, follows.target, follows.overrun, follows.dueTick, fun f hf => ?_⟩
  exact ⟨fun h => (follows.flags f hf).mp ((only f h).resolve_left hf), fun h => more f ((follows.flags f hf).mpr h)⟩

/-- In a tick without an expiry its state too is the one the compensation unit has left. -/
theorem State.tickWindows_rack_state (quiet : s.Quiet) (timings : s.TimingsInRange) (hr : s.racks.get k = some r) :
    ∀ r' ∈ s.tickWindows.racks.get k, r'.st = (s.compensated r).st := by
  obtain ⟨d, hd⟩ := State.tickBaths_rack hr
  rw [← quiet.timers timings] at hd
  obtain ⟨fs, ht, -⟩ := State.RacksFlagged.foldl (List.range 32) s.tickTimers k _ hd
  intro r' hr'
  obtain rfl := Option.some.inj (ht.symm.trans hr')
  rfl

theorem fall_window (w : Option Nat) (h : w ≠ some 0 ∧ w ≠ some 1) : fall w false ≠ some 0 :=
  fun zero => fall_runs (.inr h) ⟨zero, rfl⟩

theorem State.tickAdvanced_window (s : State) (m : Nat) :
    s.tickAdvanced.windows.get m = fall (s.windows.get m) false := by
  rw [State.tickAdvanced_eq]
  exact Table.get_map_all _ rfl m

theorem State.tickBaths_windows (s : State) : s.tickBaths.windows = s.tickDue.windows :=
  State.tickBaths_of_due State.windows fun _ _ _ _ _ => rfl

/-- In a tick without an expiry and without a seat window that runs out no rack's record is written after the
compensation unit's work. -/
theorem State.tickWindows_still (quiet : s.Quiet) (timings : s.TimingsInRange)
    (unexpired : ∀ n < 32, s.windows.get n ≠ some 0 ∧ s.windows.get n ≠ some 1) : s.tickWindows = s.tickBaths := by
  unfold State.tickWindows
  rw [quiet.timers timings]
  refine State.foldl_expireWindow_still fun n hn => ?_
  rw [State.tickBaths_windows]
  refine State.foldl_makeDue_window_ne _ _ ?_
  rw [State.tickAdvanced_window]
  exact fall_window _ (unexpired n (List.mem_range.mp hn))

/-- The notice of a rack that passes its late tolerance (03 R63). -/
theorem State.tickWindows_overtime (hr : s.racks.get k = some r) (step : s.currentStep r = some st) (due : r.st = .due)
    (limited : st.tolerance ≠ 65535) (late : st.tolerance < min 4294967295 (r.overrun + 1))
    (first : .overtime ∉ r.flags) : s.tickWindows.Noticed
      (.rack (.overtime (min 4294967295 (r.overrun + 1)) st.tolerance) r.id k .due r.stepIdx r.station) := by
  have inBath := (Rack.inBath_iff r).mpr (.inr due)
  rw [← addSaturating_eq_min] at late ⊢
  refine ((State.tickOverrun_rack hr).2 st step due ?_).mono ((State.Carries.fromOverrun s).trans (.toEnd s)).notices
  have flags : .overtime ∉ (s.countTick.loadPending.advanceRack r).flags := by
    rw [State.mem_advanceRack_flags inBath step]
    simp [first]
  rw [State.advanceRack_form] at flags ⊢
  simp only [Rack.overdue, decide_eq_true_eq]
  exact ⟨due, limited, late, flags⟩

/-! ### The handover and the hoists -/

theorem State.Quiet.handover (quiet : s.Quiet) (timings : s.TimingsInRange) :
    s.tickWindows.span.handover.timer = fall s.span.handover.timer s.span.handover.suspended := by
  rw [State.tickWindows_span, quiet.timers timings, State.tickBaths_span]
  rfl

/-- An acknowledgement timer that runs out in SHRINKING or WIDENING (07 R141). -/
theorem State.Calm.unacknowledged (calm : s.Calm) (timings : s.TimingsInRange)
    (timer : s.span.handover.timer = some 1) (running : s.span.handover.suspended = false)
    (stage : s.span.handover.stage = .shrinking ∨ s.span.handover.stage = .widening) :
    let party := if s.span.handover.stage = .shrinking then s.span.handover.taker.other else s.span.handover.taker
    (s.tickWindows.hoist party).st = .fault ∧
      (s.tickWindows.hoist party).reason = .timeoutStage s.span.handover.stage ∧
      s.tickWindows.span.handover.stage = .none ∧
      (s.span.handover.stage = .shrinking → .handoverTimeout ∈ s.tickWindows.line.causes) := by
  have span := s.tickBaths_span
  have zero : s.tickBaths.span.handover.timer = some 0 := by
    rw [span]
    show fall s.span.handover.timer s.span.handover.suspended = some 0
    rw [timer, running]; rfl
  have runs : s.tickBaths.span.handover.suspended = false := by rw [span]; exact running
  have stages : s.tickBaths.span.handover.stage = s.span.handover.stage := by rw [span]; rfl
  have taker : s.tickBaths.span.handover.taker = s.span.handover.taker := by rw [span]; rfl
  dsimp only
  rw [State.tickWindows_hoist, State.tickWindows_span, State.tickWindows_line, calm.timers timings, ← stages, ← taker]
  rw [← stages] at stage
  obtain shrinking | widening := stage
  · rw [shrinking, if_pos rfl]
    obtain ⟨fault, reason, ended, cause⟩ := State.expireAck_shrinking zero runs shrinking
    exact ⟨fault, reason, ended, fun _ => cause⟩
  · rw [widening, if_neg (by decide)]
    obtain ⟨fault, reason, ended⟩ := State.expireAck_widening zero runs widening
    exact ⟨fault, reason, ended, nofun⟩

/-- In a tick without an expiry a hoist whose order is not POISED has its timer fallen and no more. -/
theorem State.Quiet.hoist (quiet : s.Quiet) (timings : s.TimingsInRange) (ho : (s.hoist h).order = some o)
    (not : o.phase ≠ .poised) : s.tickWindows.hoist h = (s.hoist h).fallTimer := by
  rw [State.tickWindows_hoist, quiet.timers timings, State.tickBaths_hoist_eq ho not]

/-- A phase timer that runs out (06 R123). -/
theorem State.tickWindows_faulted (ho : (s.hoist h).order = some o) (not : o.phase ≠ .poised)
    (running : (s.hoist h).suspended = false) (timer : (s.hoist h).timer = some 1) :
    (s.tickWindows.hoist h).st = .fault ∧ (s.tickWindows.hoist h).order = none ∧
      (s.tickWindows.hoist h).reason = .timeoutPhase o.phase := by
  have hoist := State.tickBaths_hoist_eq ho not
  have zero : (s.hoist h).fallTimer.timer = some 0 := by
    show fall (s.hoist h).timer (s.hoist h).suspended = some 0
    rw [timer, running]; rfl
  have faulted := State.tickTimers_faulted (s := s) (h := h) (o := o) (by rw [hoist]; exact ho)
    (by rw [hoist]; exact zero) (by rw [hoist]; exact running)
  rw [State.tickWindows_hoist]
  exact ⟨faulted.st, faulted.order, faulted.reason⟩

/-! ### The seat windows -/

/-- A seat window after a tick that brings no expiry and no LIFT from its station, and the flag of a rack whose window
runs out (10 R177). -/
theorem State.Quiet.window (quiet : s.Quiet) (timings : s.TimingsInRange) (hm : m < 32)
    (away : ∀ x ∈ [s.hoistA, s.hoistB], ∀ o ∈ x.order, o.phase ≠ .poised ∨ o.source ≠ m) :
    s.tickWindows.windows.get m = (match s.windows.get m with | some (w + 2) => some (w + 1) | _ => none) ∧
      (s.windows.get m = some 1 → (s.stations.get m).occ = .occupied k → s.racks.get k ≠ none →
        ∃ r ∈ s.tickWindows.racks.get k, .seatUnconfirmed ∈ r.flags) := by
  have order (g : Hoist) : (s.tickAdvanced.hoist g).order = (s.hoist g).order := by
    rw [State.tickAdvanced_field (fun v => (v.hoist g).order) (fun _ _ _ _ _ => by cases g <;> rfl),
      State.countTick_hoist]
    rfl
  have fallen : s.tickBaths.windows.get m = fall (s.windows.get m) false := by
    rw [State.tickBaths_windows, ← State.tickAdvanced_window]
    refine State.foldl_makeDue_window _ _ fun g o ho => ?_
    rw [order] at ho
    exact away (s.hoist g) (by cases g <;> simp [State.hoist]) o ho
  obtain ⟨window, seat⟩ := State.foldl_expireWindow_window (s := s.tickTimers) (k := k) List.nodup_range
    (List.mem_range.mpr hm) hm
  rw [quiet.timers timings] at window seat
  rw [fallen] at window seat
  unfold State.tickWindows
  rw [quiet.timers timings]
  refine ⟨window.trans ?_, fun one occ hr => seat (by rw [one]; rfl) ?_ ?_⟩
  · match s.windows.get m with
    | none => rfl
    | some 0 => rfl
    | some 1 => rfl
    | some (n + 2) => rfl
  · rw [State.tickBaths_of_due State.stations (fun _ _ _ _ _ => rfl)]
    exact State.tickDue_occupied occ
  · obtain ⟨r, hr⟩ := Option.ne_none_iff_exists'.mp hr
    obtain ⟨d, hd⟩ := State.tickBaths_rack hr
    rw [hd]; exact nofun

/-! ### LINE_TICK -/

theorem Factors.rate_eq (f : Factors) (c : Compensation) :
    f.rate c = match c with | .none => 1024 | .temp => f.fT | .tempActivity => f.fTA := by
  cases c <;> rfl

/-- The state t after the pass is triggered and the outputs are driven from w. -/
structure State.Driven (w t : State) : Prop where
  tick     : t.tick = w.tick
  passes   : w.dispatcher.passesOwed < t.dispatcher.passesOwed
  gens     : t.gens = w.gens
  recipes  : t.recipes = w.recipes
  inputs   : t.io.inputs = w.io.inputs
  baths    : t.baths = w.baths
  racks    : t.racks = w.racks
  queue    : t.queue = w.queue
  windows  : t.windows = w.windows
  handover : t.span.handover = w.span.handover
  causes   : t.line.causes = w.line.causes
  link     : t.link = w.link
  hoist    : ∀ g, t.hoist g = w.hoist g

theorem State.driven (w : State) : w.Driven w.triggerPass.driveOutputs :=
  ⟨rfl, Nat.lt_succ_self _, rfl, rfl, rfl, rfl, rfl, rfl, rfl, rfl, rfl, rfl, fun g => by cases g <;> rfl⟩

theorem State.Driven.noticed {msg : OutMsg} (d : s.Driven t) (h : s.Noticed msg) :
    ((t.link.channels.get 3).queue.any (fun f => decide (f.msg = msg)) ||
      (t.link.dropped && decide (5 ≤ t.link.held 3))) = true := by
  rw [d.link]; exact h.found

/-- Settles O51: LINE_TICK runs the stages of the tick, and each clause is what they leave. -/
theorem lineTickAdvances : Obligations.LineTickAdvances := by
  intro s k b m v r st h o running hk hb hm timings
  have driven := s.tickWindows.driven
  refine ⟨_, exec_lineTick_stages running, ?_⟩
  generalize s.tickWindows.triggerPass.driveOutputs = t at driven
  refine ⟨driven.tick.trans s.tickWindows_tick, Nat.lt_of_le_of_lt (State.Carries.all s).passes driven.passes,
    driven.gens.trans s.tickWindows_gens, driven.recipes.trans s.tickWindows_recipes,
    driven.inputs.trans (congrArg (·.inputs) s.tickWindows_io), ?_⟩
  intro phase load x y hv calm quiet
  have taken := s.tickWindows_bath hb
  have bath : y = (x.atTick phase).turned := (congrArg (·.get b) driven.baths).trans taken.bath
  refine ⟨by rw [bath]; rfl, by rw [bath]; rfl, by rw [bath]; rfl, ?statuses, fun _ => ⟨?queue, ?owed, ?pending⟩,
    fun hr inBath step => ?inBath, fun hr hi hd quiet still => ?outside, fun quiet => ?handover,
    fun calm timer running stage => ?ack, fun quiet away => ?window, fun ho not => ⟨?_, ?_, ?_⟩⟩
  case statuses =>
    intro count compensated noticed
    have comp (c : Nat) : compensated c = true ↔ s.bathCompensates c = true :=
      decide_eq_true_iff.trans (s.bathCompensates_iff c).symm
    refine ⟨fun still => ?_, fun fresh at300 => ⟨?_, ?_⟩, fun stale at1200 => ⟨?_, ?_, fun c => ?_⟩, fun cause => ?_,
      fun u hu w step due limited late first => ?_⟩
    · rw [bath]; exact x.turned_status phase still
    · rw [bath]; exact x.turned_stale phase fresh at300
    · exact driven.noticed (State.tickWindows_stale hb fresh at300)
    · rw [bath]; exact x.turned_lapsed phase stale at1200
    · exact driven.noticed (State.tickWindows_lapsed hb stale at1200).1
    · rw [driven.causes]
      exact (State.tickWindows_lapsed hb stale at1200).2 ((comp b).mp c)
    · rw [driven.causes] at cause
      refine (State.tickWindows_tempStale cause).imp id fun ⟨c, hc, status, long, holds⟩ => ?_
      exact ⟨c, hc, status, long, (comp c).mpr holds⟩
    · exact driven.noticed (State.tickWindows_overtime hu step due limited late first)
  case queue => exact driven.queue.trans s.tickWindows_queue
  case owed => rw [bath]; rfl
  case pending => rw [bath]; rfl
  case inBath =>
    intro n w f rate rank gain
    have mem := (Rack.inBath_iff r).mpr inBath
    have increments : increment ((s.tickFactors r).rate st.comp) phase = gain := by
      rw [increment_eq, Factors.rate_eq]; rfl
    obtain ⟨acc, stepIdx, target, immersed, due⟩ := s.compensated_counts mem step
    obtain ⟨r', hr', follows⟩ := State.tickWindows_rack hr
    rw [increments] at acc
    rw [← follows.acc] at acc immersed
    rw [← follows.overrun, ← follows.dueTick] at immersed due
    refine ⟨r', by rw [driven.racks]; exact hr', acc, follows.stepIdx.trans stepIdx, follows.target.trans target,
      fun hst => ⟨(immersed hst).1, (immersed hst).2.1, fun quiet => ?_⟩, due, ?_, ?_, ?_, ?_⟩
    · rw [State.tickWindows_rack_state quiet timings hr r' hr', (immersed hst).2.2]
    · rw [follows.overrun]
      exact (follows.flags _ (by decide)).trans (State.overtime_mem_compensated mem step)
    · exact (follows.flags _ (by decide)).trans (State.staleTemperature_mem_compensated mem step)
    · exact (follows.flags _ (by decide)).trans (State.factorClamped_mem_compensated mem step)
    · exact (follows.flags _ (by decide)).trans (State.agitationLost_mem_compensated mem step)
  case outside =>
    obtain ⟨d, hd'⟩ := State.tickBaths_rack hr
    rw [s.compensated_outside hi hd, ← State.tickWindows_still quiet timings still, ← driven.racks] at hd'
    exact ⟨_, hd', rfl, rfl, rfl⟩
  case handover =>
    rw [driven.handover, State.Quiet.handover quiet timings]
    rfl
  case ack =>
    have ended := State.Calm.unacknowledged calm timings timer running stage
    intro party
    rw [driven.hoist, driven.handover, driven.causes]
    exact ended
  case window =>
    have window := State.Quiet.window (k := k) quiet timings hm away
    rw [driven.windows, driven.racks]
    exact window
  · intro quiet held
    rw [driven.hoist, State.Quiet.hoist quiet timings ho not]
    show fall _ _ = _
    rw [held, fall_suspended]
  · intro quiet running timer
    rw [driven.hoist, State.Quiet.hoist quiet timings ho not]
    show fall _ _ = _
    rw [running, timer]
    rfl
  · intro running timer
    rw [driven.hoist]
    exact State.tickWindows_faulted ho not running timer

end Sys2Proof.Machine
end

section
/-! PROOFS. What an OWED does to the cabinet's queue and to its bath, and the commands that bring one: BATH OWED CLEAR
and PUMPED (04 R77 to R79, 11 R192). -/

namespace Sys2Proof.Machine

/-! ### OWED in the cabinet's queue (04 R77) -/

section Queue

variable (l : Link) (b : Nat)

theorem Link.owedWaits_iff : l.owedWaits b = true ↔
    ∃ f ∈ (l.channels.get 2).queue.drop l.begun, f.msg.isOwed b = true :=
  List.any_eq_true

/-- The messages of the cabinet's queue once a waiting OWED carries a new figure: each keeps its place. -/
theorem Link.replaceOwed_queue (volume : Nat) : ((l.replaceOwed b volume).channels.get 2).queue.map (·.msg) =
    ((l.channels.get 2).queue.take l.begun).map (·.msg) ++
      ((l.channels.get 2).queue.drop l.begun).map (fun f => if f.msg.isOwed b then .owed b volume else f.msg) := by
  have queue : ((l.replaceOwed b volume).channels.get 2).queue = (l.channels.get 2).queue.take l.begun ++
      ((l.channels.get 2).queue.drop l.begun).map
        (fun f => if f.msg.isOwed b then { f with msg := .owed b volume } else f) :=
    congrArg Channel.queue (Table.get_set_self _ (show 2 < 4 by decide) _)
  rw [queue, List.map_append, List.map_map]
  congr 2
  funext f
  exact apply_ite Queued.msg _ _ _

theorem Link.owedWaits_setSlot (c : Nat) (f : Option SlotFrame) : (l.setSlot c f).owedWaits b = l.owedWaits b := by
  have queue : ((l.setSlot c f).channels.get 2).queue = (l.channels.get 2).queue :=
    Table.modify_same Channel.queue (f := fun ch => { ch with slot := f }) (fun _ => rfl) _ c 2
  unfold Link.owedWaits
  rw [queue]
  rfl

theorem Link.replaceOwed_setSlot (volume c : Nat) (f : Option SlotFrame) :
    (l.setSlot c f).replaceOwed b volume = (l.replaceOwed b volume).setSlot c f := by
  simp only [Link.replaceOwed, Link.setSlot, Link.mk.injEq, true_and, and_true]
  exact Link.modify_comm _ _ _ _ _ (fun _ => rfl)

end Queue

/-! ### An OWED sent (04 R77) -/

section Sending

variable {s : State} {b : Nat}

theorem State.sendOwed_waits (waits : s.link.owedWaits b = true) :
    s.sendOwed b = { s with link := s.link.replaceOwed b (s.baths.get b).owed } :=
  if_pos waits

theorem State.sendOwed_room (away : ¬ s.link.owedWaits b = true) (room : s.link.held 2 < 4) :
    s.sendOwed b = { s with link := s.link.push 2 (.owed b (s.baths.get b).owed) } :=
  (if_neg away).trans (if_pos room)

theorem State.sendOwed_full (away : ¬ s.link.owedWaits b = true) (full : ¬ s.link.held 2 < 4) :
    s.sendOwed b = s.setBath b { s.baths.get b with owedUnsent := true } :=
  (if_neg away).trans (if_neg full)

/-- An OWED does not depend on the request that stands in channel 3's slot. -/
theorem State.sendOwed_setRequestSlot (s : State) (b : Nat) (f : Option SlotFrame) :
    (s.setRequestSlot f).sendOwed b = (s.sendOwed b).setRequestSlot f := by
  by_cases waits : s.link.owedWaits b = true
  · rw [State.sendOwed_waits waits, State.sendOwed_waits ((s.link.owedWaits_setSlot b 3 f).trans waits)]
    simp only [State.setRequestSlot, Link.replaceOwed_setSlot]
  · have away : ¬ (s.setRequestSlot f).link.owedWaits b = true := by
      rw [State.setRequestSlot_link, Link.owedWaits_setSlot]; exact waits
    by_cases room : s.link.held 2 < 4
    · rw [State.sendOwed_room waits room, State.sendOwed_room away (by simpa using room)]
      simp only [State.setRequestSlot, Link.push_setSlot]
    · rw [State.sendOwed_full waits room, State.sendOwed_full away (by simpa using room)]
      rfl

end Sending

/-! ### BATH OWED CLEAR and PUMPED (04 R78, R79) -/

section Commands

variable {s : State} {b : Nat}

theorem exec_bathOwedClear (h : s.TakesRequests) (hb : b ≤ 7) : exec (.bathOwedClear b) s = .next (State.driveOutputs
    (((s.setBath b ({ s.baths.get b with owed := 0, remainder := 0 } : Bath).computePending).sendOwed b).reply
      0x49 .ok [])) := by
  refine exec_request_replies h rfl rfl ?slot ?handled
  case slot => exact (congrArg Channel.slot (State.sendOwed_channel b (by decide)).1).trans h.2.1
  case handled =>
    rw [← State.sendOwed_setRequestSlot]
    exact if_pos ((bathOk_iff b).mpr hb)

theorem exec_bathOwedClear_badValue (h : s.TakesRequests) (hb : 7 < b) :
    exec (.bathOwedClear b) s = .next (s.reply 0x49 .badValue []).driveOutputs :=
  exec_request_replies h rfl rfl h.2.1 (if_neg (mt (bathOk_iff b).mp (by omega)))

/-- A report out of RESET ends in what its block makes of it, with the outputs driven. -/
theorem exec_report_next {i : Instr} (running : s.resetHeld = false) (hi : i.isReport = true) :
    exec i s = .next (takeReport i s).driveOutputs := by
  rw [exec_report hi, liveDriven_next running]

theorem takePumped_bath (hb : b ≤ 7) (volume : Nat) (s : State) : takePumped b volume s =
    (s.setBath b ({ s.baths.get b with owed := (s.baths.get b).owed - volume } : Bath).computePending).sendOwed b := by
  unfold takePumped
  rw [(bathOk_iff b).mpr hb]
  rfl

/-- Settles O17: each command by its own equation, and OWED by what stands in the cabinet's queue. -/
theorem owedClearedAndSent : Obligations.OwedClearedAndSent := by
  refine ⟨fun s b volume n hb => ⟨fun h => exec_bathOwedClear h hb, fun h hn => exec_bathOwedClear_badValue h hn,
    fun running => ?pumped⟩, fun s b => ?owed⟩
  case pumped =>
    rw [exec_report_next running rfl]
    exact congrArg (fun t => Host.Outcome.next (State.driveOutputs t)) (takePumped_bath hb volume s)
  case owed =>
    intro x frames begun waits
    have named : s.link.owedWaits b = true ↔ waits := by
      rw [Link.owedWaits_iff]
      refine exists_congr fun f => and_congr_right fun _ => ?_
      cases f.msg <;> simp [OutMsg.isOwed]
    rw [← named]
    refine ⟨fun waiting => ?_, fun away room => State.sendOwed_room away room,
      fun away full => State.sendOwed_full away (Nat.not_lt.mpr full)⟩
    rw [State.sendOwed_waits waiting]
    refine ⟨(Link.replaceOwed_queue ..).trans ?_, rfl, fun c _ hc => Table.get_set_ne _ (Ne.symm hc) _⟩
    refine congrArg (_ ++ ·) (List.map_congr_left fun f _ => ?_)
    cases f.msg <;> simp [OutMsg.isOwed, x]

end Commands

end Sys2Proof.Machine
end

section
/-! PROOFS. TEMP and stray cabinet reports; STALE, LAPSED, the acknowledgement timer and the seat windows as commands of
their own (04 R68 to R71, R73, 07 R141, 10 R177). -/

namespace Sys2Proof.Machine

variable {s : State} {b n k : Nat} {t : Int} {r : Rack}

/-! ### A bath's record and its notice (04 R74) -/

theorem State.bathNotice_setBath (hb : b < 8) (x : Bath) (event : BathEvent) : (s.setBath b x).bathNotice event b =
    (s.setBath b x).notify (.bath event b x.temp x.status x.probeFault x.staleCount x.owed) := by
  unfold State.bathNotice
  rw [State.setBath_baths, Table.get_set_self _ hb]

/-- A bath's record written with what stands in it. -/
theorem State.setBath_same (s : State) (b : Nat) : s.setBath b (s.baths.get b) = s := by
  unfold State.setBath
  rw [Table.set_get_self]

/-! ### TEMP (04 R68 to R70) -/

theorem Bath.restores_iff (x : Bath) :
    x.restores = true ↔ x.status = .stale ∨ x.status = .lapsed ∨ x.probeFault = true := by
  simp [Bath.restores, or_assoc]

theorem takeTemp_stray (hb : 7 < b) (t : Int) (s : State) : takeTemp b t s = s.strayCabinet := by
  have bad : bathOk b = false := by rw [Bool.eq_false_iff, ne_eq, bathOk_iff]; omega
  unfold takeTemp
  rw [bad]
  rfl

theorem takePumped_stray (hb : 7 < b) (volume : Nat) (s : State) : takePumped b volume s = s.strayCabinet := by
  have bad : bathOk b = false := by rw [Bool.eq_false_iff, ne_eq, bathOk_iff]; omega
  unfold takePumped
  rw [bad]
  rfl

/-- A value in range is taken, and RESTORED tells what it ends (04 R68). -/
theorem takeTemp_valid (hb : b ≤ 7) (ht : 100 ≤ t ∧ t ≤ 400) (s : State) : takeTemp b t s =
    if (s.baths.get b).restores = true then
      (s.setBath b ((s.baths.get b).freshen t)).notify
        (.bath (.restored (s.baths.get b).status) b (some t) .fresh false 0 (s.baths.get b).owed)
    else s.setBath b ((s.baths.get b).freshen t) := by
  unfold takeTemp
  rw [(bathOk_iff b).mpr hb]
  dsimp only
  rw [Bool.not_true, if_neg Bool.false_ne_true, if_pos ht]
  refine if_congr Iff.rfl ?_ rfl
  rw [State.bathNotice_setBath (by omega)]
  rfl

/-- A value out of range sets the probe fault, told only where it was not set (04 R69). -/
theorem takeTemp_invalid (hb : b ≤ 7) (ht : ¬ (100 ≤ t ∧ t ≤ 400)) (s : State) : takeTemp b t s =
    if (s.baths.get b).probeFault = true then s
    else (s.setBath b { s.baths.get b with probeFault := true }).notify
      (.bath (.probeFault t) b (s.baths.get b).temp (s.baths.get b).status true (s.baths.get b).staleCount
        (s.baths.get b).owed) := by
  unfold takeTemp
  rw [(bathOk_iff b).mpr hb]
  dsimp only
  rw [Bool.not_true, if_neg Bool.false_ne_true, if_neg ht]
  split
  · next set =>
    have same : ({ s.baths.get b with probeFault := true } : Bath) = s.baths.get b := by rw [← set]
    rw [same, State.setBath_same]
  · exact State.bathNotice_setBath (by omega) _ _

/-- Settles O49: a stray report, a value in range and a value out of range, each by its equation. -/
theorem tempReports : Obligations.TempReports := by
  intro s b volume t running x fresh y stray
  have temp : exec (.temp b t) s = .next (takeTemp b t s).driveOutputs := exec_report_next running rfl
  refine ⟨fun hb => ⟨?_, ?_⟩, fun hb low high => ?valid, fun hb ht => ?invalid⟩
  · rw [temp, takeTemp_stray hb]; rfl
  · rw [exec_report_next running rfl]
    exact congrArg (fun u => Host.Outcome.next (State.driveOutputs u)) (takePumped_stray hb volume s)
  case valid =>
    rw [temp, takeTemp_valid hb ⟨low, high⟩]
    simp only [Bath.restores_iff]
    rfl
  case invalid =>
    rw [temp, takeTemp_invalid hb (by omega)]
    rfl

/-! ### STALE and LAPSED (04 R71, R73) -/

theorem State.becomeStale_eq (hb : b < 8) : s.becomeStale b =
    if (s.baths.get b).status = .fresh ∧ 300 ≤ (s.baths.get b).staleCount then
      (s.setBath b { s.baths.get b with status := .stale }).notify
        (.bath .stale b (s.baths.get b).temp .stale (s.baths.get b).probeFault (s.baths.get b).staleCount
          (s.baths.get b).owed)
    else s :=
  if_congr Iff.rfl (State.bathNotice_setBath hb _ _) rfl

/-- The record of a bath that becomes LAPSED, with its notice (04 R71). -/
def State.lapse (s : State) (b : Nat) : State :=
  (s.setBath b { s.baths.get b with status := .lapsed }).notify
    (.bath .lapsed b (s.baths.get b).temp .lapsed (s.baths.get b).probeFault (s.baths.get b).staleCount
      (s.baths.get b).owed)

theorem State.becomeLapsed_eq (hb : b < 8) : s.becomeLapsed b =
    if (s.baths.get b).status = .stale ∧ 1200 ≤ (s.baths.get b).staleCount then
      (if s.bathCompensates b = true then (s.lapse b).addCause .tempStale else s.lapse b)
    else s := by
  have seats : s.SeatsKept (s.lapse b) := .of_same rfl rfl rfl
  rw [← seats.compensates b]
  unfold State.becomeLapsed
  dsimp only
  rw [State.bathNotice_setBath hb]
  rfl

/-! ### The acknowledgement timer (07 R141) -/

/-- The end of the acknowledgement timer acts in SHRINKING and in WIDENING only. -/
theorem State.expireAck_stage (shrinking : s.span.handover.stage ≠ .shrinking)
    (widening : s.span.handover.stage ≠ .widening) : s.expireAck = s := by
  unfold State.expireAck
  dsimp only
  split
  · next stage => exact absurd stage shrinking
  · next stage => exact absurd stage widening
  · rfl

/-! ### A seat window (10 R177) -/

/-- The rack in the station is marked, and the window closes. -/
theorem State.expireWindow_expired (ends : s.windows.get n = some 0) (occ : (s.stations.get n).occ = .occupied k)
    (hr : s.racks.get k = some r) : s.expireWindow n =
      { s with
        racks := s.racks.set k (some { r with flags := StepFlag.seatUnconfirmed.addTo r.flags })
        windows := s.windows.set n none } := by
  have here : s.rackAt n = some (k, r) := by simp only [State.rackAt, occ, hr, Option.map_some]
  simp only [State.expireWindow, ends, if_true, here, State.addFlag, hr]
  rfl

/-- Settles O50: each count by what its end makes of the state. -/
theorem countsRunOut : Obligations.CountsRunOut := by
  refine ⟨fun s b running hb => ⟨?stale, ?lapsed⟩, fun s n k r running hn => ⟨?ack, fun counts => ?counts,
    fun ends occ _ hr => ?ends⟩⟩
  case stale =>
    show liveDriven s (·.becomeStale b) = _
    rw [liveDriven_next running, State.becomeStale_eq hb]
    rfl
  case lapsed =>
    show liveDriven s (·.becomeLapsed b) = _
    rw [liveDriven_next running, State.becomeLapsed_eq hb]
    simp only [State.bathCompensates_iff, decide_eq_true_eq]
    rfl
  case ack =>
    show liveDriven s State.expireAck = _
    rw [liveDriven_next running]
    split
    · next runs => rw [State.expireAck_runs (fun ends => runs.elim (· ends.1) (by simp [ends.2]))]
    · next ends =>
      rw [not_or, not_not, Bool.not_eq_true] at ends
      obtain ⟨timer, counts⟩ := ends
      cases stage : s.span.handover.stage with
      | none | waiting => rw [State.expireAck_stage (by simp [stage]) (by simp [stage])]
      | shrinking | widening => simp only [State.expireAck, timer, counts, stage]
  case counts =>
    show liveDriven s (·.expireWindow n) = _
    rw [liveDriven_next running, State.expireWindow_still counts]
  case ends =>
    show liveDriven s (·.expireWindow n) = _
    rw [liveDriven_next running, State.expireWindow_expired ends occ hr]

end Sys2Proof.Machine
end

section
/-! PROOFS. The beginning of a send: the frame that is sent next, and the start bits that are seen first (11 R186,
R193). -/

namespace Sys2Proof.Machine

section Starts

variable {l : Link} {starts : BitVec 4}

/-! ### Start bits (11 R186) -/

theorem Link.takeStarts_unseen (unseen : ∀ x < 4, ¬ (starts.getLsbD x = true ∧ l.slot x = none)) :
    l.takeStarts starts = none := by
  have nobody : l.seen starts = [] := by
    refine List.filter_eq_nil_iff.mpr fun x _ here => ?_
    rw [Bool.and_eq_true, Option.isNone_iff_eq_none] at here
    exact unseen x (BitVec.lt_of_getLsbD here.1) here
  unfold Link.takeStarts
  rw [nobody]

/-- Both hoist channels stand in the order of ties, as do the other two (11 R186). -/
theorem Link.mem_tieOrder (last : l.lastHoist ≤ 1) {x : Nat} (hx : x < 4) : x ∈ l.tieOrder := by
  simp only [Link.tieOrder, List.mem_cons, List.not_mem_nil]
  omega

theorem Link.takeStarts_seen (last : l.lastHoist ≤ 1)
    (seen : ∃ x : Nat, x < 4 ∧ starts.getLsbD x = true ∧ l.slot x = none) : ∃ l1, l.takeStarts starts = some l1 := by
  obtain ⟨x, hx, bit, slot⟩ := seen
  have mem : x ∈ l.seen starts := List.mem_filter.mpr ⟨Link.mem_tieOrder last hx, by simp [bit, slot]⟩
  unfold Link.takeStarts
  split
  · exact ⟨_, rfl⟩
  · next nobody => rw [nobody] at mem; cases mem

/-- The channels cut off are counted whether the listen window is open or not. -/
theorem Link.foldl_cutOff_window (cut : List Nat) (l : Link) (w : Bool) :
    cut.foldl (fun l d => l.count d (fun k => { k with cutOff := raise k.cutOff })) { l with window := w } =
      { cut.foldl (fun l d => l.count d (fun k => { k with cutOff := raise k.cutOff })) l with window := w } := by
  induction cut generalizing l with
  | nil => rfl
  | cons d cut ih => exact ih (l.count d (fun k => { k with cutOff := raise k.cutOff }))

/-- A reception that begins in the listen window closes it, as it stands closed outside (log 47). -/
theorem Link.receive_window (l : Link) (w : Bool) (c : Nat) (cut : List Nat) :
    ({ l with window := w } : Link).receive c cut = l.receive c cut := by
  unfold Link.receive
  rw [Link.foldl_cutOff_window]

theorem Link.takeStarts_window (l : Link) (w : Bool) (starts : BitVec 4) :
    ({ l with window := w } : Link).takeStarts starts = l.takeStarts starts := by
  have seen : ({ l with window := w } : Link).seen starts = l.seen starts := rfl
  unfold Link.takeStarts
  rw [seen]
  split
  · rw [Link.receive_window]
  · rfl

/-! ### The frame sent next (11 R193) -/

theorem Link.held_ne_zero_iff (l : Link) (c : Nat) : l.held c ≠ 0 ↔ l.headStamp c ≠ none := by
  simp [Link.held, Link.headStamp]

/-- The frame of channel c is sent next: the older of two hoist frames, then a cabinet frame, then an order-station
frame (11 R193; log 27). -/
def Link.Next (l : Link) (c : Nat) : Prop :=
  (c = 0 ∧ ∃ a ∈ l.headStamp 0, ∀ b ∈ l.headStamp 1, a ≤ b) ∨
    (c = 1 ∧ ∃ b ∈ l.headStamp 1, ∀ a ∈ l.headStamp 0, b < a) ∨
    (c = 2 ∧ l.headStamp 0 = none ∧ l.headStamp 1 = none ∧ l.headStamp 2 ≠ none) ∨
    (c = 3 ∧ l.headStamp 0 = none ∧ l.headStamp 1 = none ∧ l.headStamp 2 = none ∧ l.headStamp 3 ≠ none)

theorem Link.Next.nextToSend {c : Nat} (next : l.Next c) : l.nextToSend = some c := by
  unfold Link.nextToSend
  simp only [Link.held_ne_zero_iff]
  obtain ⟨rfl, a, ha, older⟩ | ⟨rfl, b, hb, older⟩ | ⟨rfl, h0, h1, h2⟩ | ⟨rfl, h0, h1, h2, h3⟩ := next
  · rw [Option.mem_def.mp ha]
    cases hb : l.headStamp 1 with
    | none => rfl
    | some b => exact congrArg some (if_neg (Nat.not_lt.mpr (older b hb)))
  · rw [Option.mem_def.mp hb]
    cases ha : l.headStamp 0 with
    | none => rfl
    | some a => exact congrArg some (if_pos (older a ha))
  · rw [h0, h1]
    exact if_pos h2
  · rw [h0, h1, h2]
    exact if_pos h3

theorem Link.nextToSend_eq_none : l.nextToSend = none ↔ ∀ x < 4, l.headStamp x = none := by
  have each : (∀ x < 4, l.headStamp x = none) ↔
      l.headStamp 0 = none ∧ l.headStamp 1 = none ∧ l.headStamp 2 = none ∧ l.headStamp 3 = none := by
    simp only [Nat.forall_lt_succ_right, Nat.not_lt_zero, false_implies, implies_true, true_and, and_assoc]
  rw [each]
  unfold Link.nextToSend
  simp only [Link.held_ne_zero_iff]
  cases l.headStamp 0 <;> cases l.headStamp 1 <;> cases l.headStamp 2 <;> cases l.headStamp 3 <;> simp

end Starts

/-! ### A send begins (11 R193) -/

section Beginning

variable {s : State} {starts : BitVec 4}

theorem Link.beginSend_received {l l1 : Link} (taken : l.takeStarts starts = some l1) : l.beginSend starts = l1 := by
  unfold Link.beginSend
  rw [taken]

theorem Link.beginSend_sent {l : Link} {c : Nat} (unseen : l.takeStarts starts = none) (next : l.nextToSend = some c) :
    l.beginSend starts = { l with engine := .sending c } := by
  unfold Link.beginSend
  rw [unseen, next]

theorem Link.beginSend_nothing {l : Link} (unseen : l.takeStarts starts = none) (empty : l.nextToSend = none) :
    l.beginSend starts = l := by
  unfold Link.beginSend
  rw [unseen, empty]

theorem exec_startBit (running : s.resetHeld = false) (listen : s.link.engine = .listen) {l : Link}
    (taken : s.link.takeStarts starts = some l) : exec (.startBit starts) s = .next { s with link := l } := by
  show execStartBit starts s = _
  unfold execStartBit
  rw [live_next running, listen, taken]

theorem exec_sendBegin (running : s.resetHeld = false) (listen : s.link.engine = .listen)
    (closed : s.link.window = false) (waits : s.link.nextToSend ≠ none) {l : Link}
    (begun : s.link.beginSend starts = l) : exec (.sendBegin starts) s = .next { s with link := l } := by
  obtain ⟨c, next⟩ := Option.ne_none_iff_exists'.mp waits
  show execSendBegin starts s = _
  unfold execSendBegin
  rw [live_next running, listen, closed, next, ← begun]

theorem exec_sendBegin_still (running : s.resetHeld = false)
    (still : s.link.window = true ∨ s.link.nextToSend = none) : exec (.sendBegin starts) s = .next s := by
  show execSendBegin starts s = _
  unfold execSendBegin
  rw [live_next running]
  split
  · next closed next => simp [closed, next] at still
  · rfl

theorem exec_listenWindowEnd (running : s.resetHeld = false) (listen : s.link.engine = .listen)
    (opened : s.link.window = true) {l : Link} (begun : ({ s.link with window := false } : Link).beginSend starts = l) :
    exec (.listenWindowEnd starts) s = .next { s with link := l } := by
  show execListenWindowEnd starts s = _
  unfold execListenWindowEnd
  rw [live_next running, listen, opened, ← begun]

theorem exec_listenWindowEnd_closed (running : s.resetHeld = false) (closed : s.link.window = false) :
    exec (.listenWindowEnd starts) s = .next s := by
  show execListenWindowEnd starts s = _
  unfold execListenWindowEnd
  rw [live_next running]
  split
  · next opened => rw [closed] at opened; cases opened
  · rfl

end Beginning

end Sys2Proof.Machine
end

section
/-! PROOFS. The end of a send: the frame leaves its queue, and what follows its leaving (04 R77, 06 R110, 11 R190, R191,
R194, R196). -/

namespace Sys2Proof.Machine

variable {s : State} {c b : Nat} {x : Counts} {i : Instr}

/-! ### The frame leaves (11 R192, R194) -/

/-- The frame being sent on channel c has left its queue, the channel's counts are x, and the engine listens with its
listen window (11 R194). -/
def State.left (s : State) (c : Nat) (x : Counts) : State :=
  { s with link := { s.link with
      channels := s.link.channels.set c
        { s.link.channels.get c with queue := (s.link.channels.get c).queue.drop 1, counts := x }
      engine := .listen, window := true } }

theorem State.left_eq (s : State) (hc : c < 4) (f : Counts → Counts) :
    { s with link := s.link.leave c f } = s.left c (f (s.link.channels.get c).counts) := by
  simp only [Link.leave, Link.count, Table.modify, Table.get_set_self _ hc, Table.set_set, State.left]

theorem State.left_slot (s : State) (c : Nat) (x : Counts) : (s.left c x).link.slot 3 = s.link.slot 3 := by
  show ((s.link.channels.set c _).get 3).slot = _
  rw [Table.get_set]
  split
  · next same => rw [same.1]; rfl
  · rfl

theorem State.left_held (s : State) (x : Counts) : (s.left 3 x).link.held 3 = s.link.held 3 - 1 := by
  show ((s.link.channels.set 3 _).get 3).queue.length = _
  rw [Table.get_set_self _ (by decide)]
  exact List.length_drop

theorem State.left_room (s : State) (x : Counts) : (s.left 3 x).link.held 3 + 3 ≤ 8 ↔ s.link.held 3 + 3 ≤ 9 := by
  rw [State.left_held]
  omega

/-! ### What follows the leaving (04 R77, 11 R190, R191) -/

theorem State.afterLeave_hoist (hc : c < 2) : s.afterLeave c = s := by
  unfold State.afterLeave
  rw [if_neg (by omega), if_neg (by omega)]

theorem State.serveUnsent_unmarked (unmarked : ∀ b < 8, (s.baths.get b).owedUnsent = false) : s.serveUnsent = s := by
  have nobody : s.firstUnsent = none := Table.head_indices_eq_none _ |>.mpr unmarked
  unfold State.serveUnsent
  rw [nobody]

theorem State.serveUnsent_marked (hb : b < 8) (marked : (s.baths.get b).owedUnsent = true)
    (lower : ∀ a < b, (s.baths.get a).owedUnsent = false) : s.serveUnsent =
      { s with
        baths := s.baths.set b { s.baths.get b with owedUnsent := false }
        link := s.link.push 2 (.owed b (s.baths.get b).owed) } := by
  have first : s.firstUnsent = some b := Table.head_indices_eq_some _ |>.mpr ⟨hb, marked, lower⟩
  unfold State.serveUnsent
  rw [first]
  rfl

theorem Link.hasReplyRoom_iff (l : Link) : l.hasReplyRoom = true ↔ l.held 3 + 3 ≤ 8 := decide_eq_true_iff

theorem State.serveSlot_empty (slot : s.link.slot 3 = none) : s.serveSlot = s := by
  unfold State.serveSlot
  rw [slot]

theorem State.serveSlot_full (full : ¬ s.link.held 3 + 3 ≤ 8) : s.serveSlot = s := by
  rw [← Link.hasReplyRoom_iff] at full
  unfold State.serveSlot
  split
  · exact if_neg full
  · exact if_neg full
  · rfl

theorem State.serveSlot_refused {kind : Byte} (slot : s.link.slot 3 = some (.refused kind))
    (room : s.link.held 3 + 3 ≤ 8) :
    s.serveSlot = { s with link := (s.link.push 3 (.frameRefused kind)).setSlot 3 none } := by
  unfold State.serveSlot
  rw [slot]
  exact if_pos ((Link.hasReplyRoom_iff _).mpr room)

theorem State.serveSlot_good (slot : s.link.slot 3 = some (.good i)) (room : s.link.held 3 + 3 ≤ 8) :
    s.serveSlot = (handleRequest i s).setRequestSlot none := by
  unfold State.serveSlot
  rw [slot]
  exact if_pos ((Link.hasReplyRoom_iff _).mpr room)

/-! ### A waiting request is taken as it would be at once (11 R191) -/

theorem Link.setSlot_same {l : Link} {f : Option SlotFrame} (h : l.slot c = f) : l.setSlot c f = l := by
  subst h
  exact congrArg (fun t => ({ l with channels := t } : Link)) (l.channels.set_get_self c)

theorem State.setRequestSlot_restored {f : Option SlotFrame} (slot : s.link.slot 3 = f) (g : Option SlotFrame) :
    (s.setRequestSlot g).setRequestSlot f = s := by
  rw [State.setRequestSlot_setRequestSlot, State.setRequestSlot, Link.setSlot_same slot]

/-- Outputs that follow their sources are not changed by being driven (10 R179). -/
theorem State.driveOutputs_same (follow : s.OutputsFollow) : s.driveOutputs = s := by
  have outputs : s.io.outputs.mapIdx (fun n o => if s.outputSource n o = o.commanded then o
      else { o with commanded := s.outputSource n o, run := 0 }) = s.io.outputs :=
    Table.mapIdx_id _ _ fun n hn => if_pos (follow n hn).symm
  unfold State.driveOutputs
  rw [outputs]

/-- No output's source reads the link (10 R179). -/
theorem State.OutputsFollow.of_link (follow : s.OutputsFollow) (l : Link) :
    ({ s with link := l } : State).OutputsFollow :=
  follow

theorem State.reply_onLink (s : State) (kind : Nat) (code : ReplyCode) (contents : List Byte) :
    ∃ l, s.reply kind code contents = { s with link := l } :=
  ⟨_, rfl⟩

theorem State.replyIf_onLink {p : Prop} [Decidable p] (s : State) (kind : Nat) (code : ReplyCode) (contents : List Byte) :
    ∃ l, (if p then s.reply kind .ok contents else s.reply kind code []) = { s with link := l } := by
  split
  · exact s.reply_onLink _ _ _
  · exact s.reply_onLink _ _ _

/-- A query's handler writes nothing but the link (11 R195). -/
theorem handleRequest_query (hq : i.isQuery = true) (s : State) : ∃ l, handleRequest i s = { s with link := l } := by
  cases i <;> simp only [Instr.isQuery, Bool.false_eq_true] at hq
  case rackQuery | spanQuery => exact s.reply_onLink _ _ _
  case lineQuery =>
    obtain ⟨l, e⟩ := s.reply_onLink 0x5F .ok s.lineReply
    exact ⟨{ l with dropped := false }, by rw [handleRequest_lineQuery, e]; rfl⟩
  case stationQuery | bathQuery | recipeQuery | queueQuery | agitationQuery | linkQuery =>
    exact s.replyIf_onLink _ _ _
  case hoistQuery hoist => cases hoist <;> exact s.reply_onLink _ _ _
  case ioQuery kind n =>
    cases kind with
    | none => exact s.reply_onLink _ _ _
    | some which => cases which <;> exact s.replyIf_onLink _ _ _

/-- A request that waits in the slot does, once there is room, what the same request does at once. -/
theorem exec_request_waited (running : s.resetHeld = false) (slot : s.link.slot 3 = some (.good i))
    (room : s.link.held 3 + 3 ≤ 8) (hi : i.isRequest = true) (follow : s.OutputsFollow) :
    exec i (s.setRequestSlot none) = .next ((handleRequest i s).setRequestSlot none).driveOutputs := by
  have takes : (s.setRequestSlot none).TakesRequests :=
    ⟨running, s.link.slot_setSlot (by decide) none, by rw [State.setRequestSlot_link, Link.held_setSlot]; exact room⟩
  have restored : (s.setRequestSlot none).setRequestSlot (some (.good i)) = s := State.setRequestSlot_restored slot none
  cases hq : i.isQuery with
  | false => rw [exec_request_taken takes hi hq, restored]
  | true =>
    obtain ⟨l, e⟩ := handleRequest_query hq s
    rw [exec_query_taken takes hq, restored, e]
    exact congrArg Host.Outcome.next (State.driveOutputs_same (follow.of_link _)).symm

/-! ### The three endings (11 R194, R196) -/

/-- The command i ends a send on channel c with the counts x, and without one in progress only drives the outputs. -/
structure State.EndsSend (s : State) (i : Instr) (c : Nat) (x : Counts) : Prop where
  idle    : (∀ d, s.link.engine ≠ .sending d) → exec i s = .next s.driveOutputs
  sending : s.link.engine = .sending c → exec i s = .next ((s.left c x).afterLeave c).driveOutputs

/-- An ending that raises the counts by f, which makes them x where a send on channel c is in progress. -/
theorem State.EndsSend.of_endSend (hc : c < 4) {f : Counts → Counts}
    (ends : exec i s = .next (s.endSend f).driveOutputs)
    (counts : s.link.engine = .sending c → f (s.link.channels.get c).counts = x) : s.EndsSend i c x where
  idle off := by rw [ends, State.endSend_idle off]
  sending on := by rw [ends, State.endSend_sending on, State.left_eq s hc, counts on]

theorem Link.sendsHoistMessage_sending {l : Link} (on : l.engine = .sending c) : l.sendsHoistMessage =
    (decide (c < 2) && (l.channels.get c).queue.head?.any (fun e => e.msg.isHoistMessage)) := by
  unfold Link.sendsHoistMessage
  rw [on]

theorem State.endsSend_frameSent (running : s.resetHeld = false) (hc : c < 4) :
    s.EndsSend .frameSent c { (s.link.channels.get c).counts with sent := raise (s.link.channels.get c).counts.sent } :=
  .of_endSend hc (liveDriven_next running (·.endSend fun k => { k with sent := raise k.sent })) (fun _ => rfl)

section Drops

variable {lost : Nat} (running : s.resetHeld = false) (hc : c < 4)
  (dropped : s.link.engine = .sending c →
    (if s.link.sendsHoistMessage = true then raise (s.link.channels.get c).counts.lost
      else (s.link.channels.get c).counts.lost) = lost)

include running hc dropped

theorem State.endsSend_missingAcknowledge : s.EndsSend .missingAcknowledge c { (s.link.channels.get c).counts with
    missingAck := raise (s.link.channels.get c).counts.missingAck, lost := lost } :=
  .of_endSend hc (liveDriven_next running (·.dropSend fun k => { k with missingAck := raise k.missingAck }))
    (fun on => by rw [← dropped on])

theorem State.endsSend_noClocking : s.EndsSend .noClocking c { (s.link.channels.get c).counts with
    noClocking := raise (s.link.channels.get c).counts.noClocking, lost := lost } :=
  .of_endSend hc (liveDriven_next running (·.dropSend fun k => { k with noClocking := raise k.noClocking }))
    (fun on => by rw [← dropped on])

end Drops

/-! ### Both ends of a send -/

theorem next_driven {t u : State} (h : t = u) :
    (.next t.driveOutputs : Host.Outcome State Fault Refusal) = .next u.driveOutputs := by
  rw [h]

/-- Settles O59: a send begins by what is sent next and what is seen first; it ends by what follows the leaving. -/
theorem sendsBeginAndEnd : Obligations.SendsBeginAndEnd := by
  refine ⟨fun s starts c running listen => ?begins, fun s c b i kind running hc => ?ends⟩
  case begins =>
    intro l seen oldest next empty
    have nothing : l.nextToSend = none ↔ empty := Link.nextToSend_eq_none
    have sent (h : next) : l.nextToSend = some c := Link.Next.nextToSend h
    refine ⟨fun opened => exec_sendBegin_still running (.inl opened),
      fun _ idle => exec_sendBegin_still running (.inr (nothing.mpr idle)),
      fun closed unseen h => ?send, fun closed waits any last => ?receive,
      fun closed => exec_listenWindowEnd_closed running closed, fun opened any last => ?receiveAtEnd,
      fun opened unseen idle => ?closeOnly, fun opened unseen h => ?sendAtEnd⟩
    case send =>
      exact exec_sendBegin running listen closed (by rw [sent h]; exact Option.some_ne_none c)
        (Link.beginSend_sent (Link.takeStarts_unseen unseen) (sent h))
    case receive =>
      obtain ⟨l1, first⟩ := Link.takeStarts_seen last any
      exact ⟨_, exec_sendBegin running listen closed (mt nothing.mp waits) (Link.beginSend_received first),
        exec_startBit running listen first⟩
    case receiveAtEnd =>
      obtain ⟨l1, first⟩ := Link.takeStarts_seen last any
      exact ⟨_, exec_listenWindowEnd running listen opened
        (Link.beginSend_received ((Link.takeStarts_window ..).trans first)), exec_startBit running listen first⟩
    case closeOnly =>
      exact exec_listenWindowEnd running listen opened (Link.beginSend_nothing
        ((Link.takeStarts_window ..).trans (Link.takeStarts_unseen unseen)) (nothing.mpr idle))
    case sendAtEnd =>
      exact exec_listenWindowEnd running listen opened (Link.beginSend_sent
        ((Link.takeStarts_window ..).trans (Link.takeStarts_unseen unseen)) (sent h))
  case ends =>
    intro l k up left message lost runs p hp
    have dropped (on : l.engine = .sending c) : (if l.sendsHoistMessage = true then raise k.lost else k.lost) = lost := by
      have same : l.sendsHoistMessage = message := by
        rw [Link.sendsHoistMessage_sending on]
        simp only [message]
        cases (l.channels.get c).queue.head? with
        | none => simp
        | some f => rcases f with ⟨m, stamp⟩; cases m <;> simp [OutMsg.isHoistMessage]
      rw [same]
      rfl
    have ends : s.EndsSend p.1 c p.2 := by
      simp only [runs, List.mem_cons, List.not_mem_nil, or_false] at hp
      obtain rfl | rfl | rfl := hp
      · exact State.endsSend_frameSent running hc
      · exact State.endsSend_missingAcknowledge running hc dropped
      · exact State.endsSend_noClocking running hc dropped
    refine ⟨ends.idle, fun on => ?_⟩
    rw [ends.sending on]
    generalize p.2 = x
    refine ⟨fun hoist => ?hoist, ?unmarked, ?marked, ?still, ?refused, ?good⟩
    case hoist => rw [State.afterLeave_hoist hoist]; rfl
    case unmarked =>
      rintro rfl unmarked
      exact next_driven (State.serveUnsent_unmarked unmarked)
    case marked =>
      rintro rfl hb marked lower
      exact next_driven (State.serveUnsent_marked hb marked lower)
    case still =>
      rintro rfl still
      refine next_driven (?_ : (s.left 3 x).serveSlot = _)
      obtain slot | full := still
      · exact State.serveSlot_empty ((s.left_slot 3 x).trans slot)
      · exact State.serveSlot_full (mt (s.left_room x).mp (Nat.not_le.mpr full))
    case refused =>
      rintro rfl slot room
      exact next_driven
        (State.serveSlot_refused ((s.left_slot 3 x).trans slot) ((s.left_room x).mpr room))
    case good =>
      rintro rfl slot request room follow
      have waits : (s.left 3 x).link.slot 3 = some (.good i) := (s.left_slot 3 x).trans slot
      have free : (s.left 3 x).link.held 3 + 3 ≤ 8 := (s.left_room x).mpr room
      refine ⟨_, rfl, ?_⟩
      rw [show (s.left 3 x).afterLeave 3 = _ from State.serveSlot_good waits free]
      exact exec_request_waited running waits free request (follow.of_link _)

end Sys2Proof.Machine
end

section
/-! PROOFS. HOIST TIMING, SPAN CONFIG and DISPATCH CONFIG (05 R105, 06 R109, 07 R131). -/

namespace Sys2Proof.Machine

variable {s : State}

theorem spanFieldsOk_iff (gap split : Nat) :
    spanFieldsOk gap split = true ↔ gap ≤ 3 ∧ 1 ≤ split ∧ split ≤ 31 ∧ split + gap ≤ 31 := by
  simp only [spanFieldsOk, Bool.and_eq_true, decide_eq_true_eq, and_assoc]

/-- DISPATCH CONFIG's check: a mode that is one of the two, and the ranges of R105. -/
theorem readDispatch_eq (f : DispatchFields) (m : UrgencyMode) : readDispatch { f with mode := some m } =
    if 50 ≤ f.lookahead ∧ f.lookahead ≤ 3000 ∧ f.orderMargin ≤ 600 ∧ f.admitMargin ≤ 3000 ∧ f.lowMark ≤ 3000 ∧
      f.hysteresis ≤ 600 then some m else none := by
  simp only [readDispatch, Bool.and_eq_true, decide_eq_true_eq, and_assoc]

theorem exec_hoistTiming (h : s.TakesRequests) (g : Hoist) (t : Timing) :
    exec (.hoistTiming (some g) t) s = .next (State.driveOutputs
      (if s.line.st ≠ .standby then s.reply 0x51 .wrongState []
       else if timingOk t = true then (s.setHoist g { s.hoist g with timing := t }).reply 0x51 .ok []
       else s.reply 0x51 .badValue [])) := by
  by_cases moving : s.line.st ≠ .standby
  · rw [if_pos moving]
    exact exec_request_replies h rfl rfl h.2.1 (if_pos moving)
  · rw [if_neg moving]
    by_cases good : timingOk t = true
    · rw [if_pos good]
      refine exec_request_replies (i := .hoistTiming (some g) t) h rfl rfl ?_
        (((if_neg moving).trans (if_pos good)).trans ?_)
      · cases g <;> exact h.2.1
      · cases g <;> rfl
    · rw [if_neg good]
      exact exec_request_replies h rfl rfl h.2.1 ((if_neg moving).trans (if_neg good))

theorem exec_hoistTiming_none (h : s.TakesRequests) (t : Timing) :
    exec (.hoistTiming none t) s = .next (State.driveOutputs
      (if s.line.st ≠ .standby then s.reply 0x51 .wrongState [] else s.reply 0x51 .badValue [])) := by
  by_cases moving : s.line.st ≠ .standby
  · rw [if_pos moving]
    exact exec_request_replies h rfl rfl h.2.1 (if_pos moving)
  · rw [if_neg moving]
    exact exec_request_replies h rfl rfl h.2.1 (if_neg moving)

theorem exec_spanConfig (h : s.TakesRequests) (gap split : Nat) :
    exec (.spanConfig gap split) s = .next (State.driveOutputs
      (if s.line.st ≠ .standby then s.reply 0x55 .wrongState []
       else if spanFieldsOk gap split = true then
         State.reply { s with span := { s.span with guardGap := gap, split := split } } 0x55 .ok []
       else s.reply 0x55 .badValue [])) := by
  by_cases moving : s.line.st ≠ .standby
  · rw [if_pos moving]
    exact exec_request_replies h rfl rfl h.2.1 (if_pos moving)
  · rw [if_neg moving]
    by_cases good : spanFieldsOk gap split = true
    · rw [if_pos good]
      exact exec_request_replies (i := .spanConfig gap split)
        (t := { s with span := { s.span with guardGap := gap, split := split } }) h rfl rfl h.2.1
        ((if_neg moving).trans (if_pos good))
    · rw [if_neg good]
      exact exec_request_replies h rfl rfl h.2.1 ((if_neg moving).trans (if_neg good))

/-- The dispatcher with the settings of DISPATCH CONFIG written (05 R105). -/
def Dispatcher.configured (d : Dispatcher) (f : DispatchFields) (m : UrgencyMode) : Dispatcher :=
  { d with
    lookahead := f.lookahead, orderMargin := f.orderMargin, admitMargin := f.admitMargin, lowMark := f.lowMark
    hysteresis := f.hysteresis, mode := m }

theorem handleDispatchConfig_taken (settled : ¬(s.line.st = .run ∨ s.line.st = .halt)) (f : DispatchFields) :
    handleDispatchConfig f s = match readDispatch f with
      | none => s.reply 0x4F .badValue []
      | some m => State.reply { s with dispatcher := s.dispatcher.configured f m } 0x4F .ok [] := if_neg settled

theorem exec_dispatchConfig (h : s.TakesRequests) (f : DispatchFields) :
    exec (.dispatchConfig f) s = .next (State.driveOutputs
      (if s.line.st = .run ∨ s.line.st = .halt then s.reply 0x4F .wrongState []
       else match readDispatch f with
         | none => s.reply 0x4F .badValue []
         | some m => State.reply { s with dispatcher := s.dispatcher.configured f m } 0x4F .ok [])) := by
  by_cases moving : s.line.st = .run ∨ s.line.st = .halt
  · rw [if_pos moving]
    exact exec_request_replies h rfl rfl h.2.1 (if_pos moving)
  · rw [if_neg moving]
    have handled := handleDispatchConfig_taken (s := s.setRequestSlot (some (.good (.dispatchConfig f)))) moving f
    cases read : readDispatch f with
    | none =>
      rw [read] at handled
      exact exec_request_replies h rfl rfl h.2.1 handled
    | some m =>
      rw [read] at handled
      exact exec_request_replies (t := { s with dispatcher := s.dispatcher.configured f m }) h rfl rfl h.2.1 handled

/-- Settles O21: the line state first, then the ranges, and all settings written together. -/
theorem settingsWritten : Obligations.SettingsWritten := by
  intro s g t gap split f m h
  refine ⟨?timing, exec_hoistTiming_none h t, ?span, ?config, exec_dispatchConfig h { f with mode := none }⟩
  case timing =>
    rw [exec_hoistTiming h g t]
    simp only [timingOk_iff, Timing.InRange]
  case span =>
    rw [exec_spanConfig h gap split]
    simp only [spanFieldsOk_iff]
  case config =>
    rw [exec_dispatchConfig h, readDispatch_eq]
    by_cases good : 50 ≤ f.lookahead ∧ f.lookahead ≤ 3000 ∧ f.orderMargin ≤ 600 ∧ f.admitMargin ≤ 3000 ∧
        f.lowMark ≤ 3000 ∧ f.hysteresis ≤ 600
    · rw [if_pos good, if_pos good]; rfl
    · rw [if_neg good, if_neg good]

end Sys2Proof.Machine
end

section
/-! PROOFS. The nearest free station, and the retries of BLOCKED requests in urgency order (05 R88, R89). -/

namespace Sys2Proof.Machine

variable {s t u : State}

/-! ### The nearest free station (05 R88) -/

/-- d is no farther from the source than n, and the lower-numbered where they are equally near (05 R88). -/
def NoFarther (source d n : Nat) : Prop :=
  distance source d < distance source n ∨ distance source d = distance source n ∧ d ≤ n

/-- Going through ascending numbers, the last nearer one is the nearest of all. -/
theorem nearest_least {source d : Nat} {l : List Nat} {m : Nat} (ascending : (m :: l).Pairwise (· < ·))
    (h : l.foldl (nearer source) (some m) = some d) : d ∈ m :: l ∧ ∀ n ∈ m :: l, NoFarther source d n := by
  induction l generalizing m with
  | nil =>
    obtain rfl := Option.some.inj h
    simp [NoFarther]
  | cons n l ih =>
    obtain ⟨above, rest⟩ := List.pairwise_cons.mp ascending
    have lt : m < n := above n List.mem_cons_self
    rw [List.foldl_cons] at h
    by_cases near : distance source n < distance source m
    · rw [show nearer source (some m) n = some n from if_pos near] at h
      obtain ⟨mem, least⟩ := ih rest h
      refine ⟨List.mem_cons_of_mem _ mem, fun i hi => ?_⟩
      obtain rfl | hi := List.mem_cons.mp hi
      · have := least n List.mem_cons_self
        unfold NoFarther at *
        omega
      · exact least i hi
    · rw [show nearer source (some m) n = some m from if_neg near] at h
      obtain ⟨mem, least⟩ := ih (ascending.sublist ((List.sublist_cons_self n l).cons_cons m)) h
      refine ⟨?_, fun i hi => ?_⟩
      · exact List.mem_cons.mpr ((List.mem_cons.mp mem).imp id (List.mem_cons_of_mem _))
      · obtain rfl | hi := List.mem_cons.mp hi
        · exact least i List.mem_cons_self
        · obtain rfl | hi := List.mem_cons.mp hi
          · have := least m List.mem_cons_self
            unfold NoFarther at *
            omega
          · exact least i (List.mem_cons_of_mem _ hi)

/-- A free station of the kind wanted (05 R88). -/
def State.Serves (s : State) (w : Wanted) (n : Nat) : Prop :=
  (s.stations.get n).isFree = true ∧ (s.stations.get n).fits w = true

/-- The choice of the nearest free station: one no other is nearer than, or none where none is free (05 R88). -/
theorem State.nearestFree_cases (w : Wanted) (source : Nat) :
    (∃ d < 32, s.nearestFree w source = some d ∧ s.Serves w d ∧ ∀ n < 32, s.Serves w n → NoFarther source d n) ∨
      (s.nearestFree w source = none ∧ ∀ n < 32, ¬s.Serves w n) := by
  have mem (n : Nat) : n ∈ s.stations.indices (fun st => st.isFree && st.fits w) ↔ n < 32 ∧ s.Serves w n := by
    rw [Table.mem_indices, Bool.and_eq_true]; rfl
  have ascending : (s.stations.indices (fun st => st.isFree && st.fits w)).Pairwise (· < ·) := by
    rw [Table.indices_eq]; exact List.pairwise_lt_range.filter _
  unfold State.nearestFree
  cases e : s.stations.indices (fun st => st.isFree && st.fits w) with
  | nil => exact .inr ⟨rfl, fun n hn free => by simpa [e] using (mem n).mpr ⟨hn, free⟩⟩
  | cons m l =>
    rw [e] at ascending mem
    obtain ⟨d, hd⟩ : ∃ d, l.foldl (nearer source) (some m) = some d := by
      refine List.foldlRecOn l (nearer source) (motive := fun best => ∃ d, best = some d) ⟨m, rfl⟩ ?_
      rintro _ ⟨d, rfl⟩ n -
      by_cases near : distance source n < distance source d
      · exact ⟨n, if_pos near⟩
      · exact ⟨d, if_neg near⟩
    obtain ⟨here, least⟩ := nearest_least ascending hd
    obtain ⟨lt, serves⟩ := (mem d).mp here
    exact .inl ⟨d, lt, hd, serves, fun n hn free => least n ((mem n).mpr ⟨hn, free⟩)⟩

/-- The nearest free station is the one that is no farther than any (05 R88). -/
theorem State.nearestFree_eq_some {w : Wanted} {source d : Nat} (hd : d < 32) (serves : s.Serves w d)
    (least : ∀ n < 32, s.Serves w n → NoFarther source d n) : s.nearestFree w source = some d := by
  obtain ⟨m, hm, e, serves', least'⟩ | ⟨-, none⟩ := s.nearestFree_cases w source
  · have near := least m hm serves'
    have near' := least' d hd serves
    rw [e]
    unfold NoFarther at near near'
    congr 1
    omega
  · exact absurd serves (none d hd)

theorem State.nearestFree_eq_none {w : Wanted} {source : Nat} (nowhere : ∀ n < 32, ¬s.Serves w n) :
    s.nearestFree w source = none := by
  obtain ⟨m, hm, -, serves, -⟩ | ⟨e, -⟩ := s.nearestFree_cases w source
  · exact absurd serves (nowhere m hm)
  · exact e

/-- A station is of the kind and bath the rack needs next (05 R88). -/
theorem Station.fits_wanted (x : Station) (r : Rack) : x.fits (s.wanted r) =
    if r.stepIdx = (s.recipes.get r.recipe).steps.length then decide (x.kind = .unload)
    else decide (x.kind = .bath ∧ some x.bath = (s.recipes.get r.recipe).steps[r.stepIdx]?.map (·.bath)) := by
  unfold State.wanted State.stepCount State.recipeStep
  by_cases last : r.stepIdx = (s.recipes.get r.recipe).steps.length
  · simp [last, Station.fits]
  · cases step : (s.recipes.get r.recipe).steps[r.stepIdx]? <;> simp [last, step, Station.fits]

theorem Station.isFree_eq (x : Station) : x.isFree = decide (x.occ = .empty ∧ x.inService = true) := by
  simp [Station.isFree]

/-! ### One choice of destination (05 R88) -/

section
variable {k : Nat} {q : Request} {r : Rack}

theorem State.chooseDestination_takes (hq : s.requests.get k = some q) (hr : s.racks.get k = some r) {d : Nat}
    (nearest : s.nearestFree (s.wanted r) q.source = some d) : s.chooseDestination k =
      ((s.setOcc d (.reservedRack k)).setRack k (some { r with dest := some d })).setRequest k
        (some { q with dest := some d, st := .ready }) := by
  simp only [State.chooseDestination, hq, hr, nearest]

theorem State.chooseDestination_blocks (hq : s.requests.get k = some q) (hr : s.racks.get k = some r)
    (nowhere : s.nearestFree (s.wanted r) q.source = none) : s.chooseDestination k =
      s.setRequest k (some { q with dest := none, st := .blocked }) := by
  simp only [State.chooseDestination, hq, hr, nowhere]

end

/-! ### The BLOCKED requests that a station can serve (05 R89) -/

theorem State.blockedFor_eq (x : Station) (k : Nat) : s.blockedFor x k =
    ((s.requests.get k).any (fun q => decide (q.st = .blocked)) &&
      (s.racks.get k).any (fun r => x.fits (s.wanted r))) := by
  unfold State.blockedFor
  cases s.requests.get k <;> cases s.racks.get k <;> simp

theorem State.blockedFor_iff {x : Station} {k : Nat} : s.blockedFor x k = true ↔
    ∃ q r, s.requests.get k = some q ∧ s.racks.get k = some r ∧ q.st = .blocked ∧ x.fits (s.wanted r) = true := by
  unfold State.blockedFor
  cases s.requests.get k <;> cases s.racks.get k <;> simp

/-- The BLOCKED requests a station can serve, in urgency order (05 R89). -/
def State.retryOrder (s : State) (n : Nat) : List Nat := s.urgencyOrder.filter (s.blockedFor (s.stations.get n))

theorem State.retryBlocked_free {n : Nat} (free : (s.stations.get n).isFree = true) :
    s.retryBlocked n = (s.retryOrder n).foldl State.retryOne s := if_pos free

theorem State.mem_retryOrder {n k : Nat} : k ∈ s.retryOrder n ↔ s.blockedFor (s.stations.get n) k = true := by
  rw [State.retryOrder, List.mem_filter, State.mem_urgencyOrder, and_iff_right_iff_imp]
  intro waits
  obtain ⟨q, r, hq, hr, -⟩ := State.blockedFor_iff.mp waits
  rw [hq, hr]
  exact ⟨nofun, nofun⟩

theorem State.retryOrder_nodup (n : Nat) : (s.retryOrder n).Nodup := s.urgencyOrder_nodup.filter _

/-- A list without repetitions ascends in the places of its members. -/
theorem pairwise_idxOf {l : List Nat} (nodup : l.Nodup) : l.Pairwise (fun i j => l.idxOf i < l.idxOf j) := by
  rw [List.pairwise_iff_getElem]
  intro i j hi hj lt
  rw [nodup.idxOf_getElem i hi, nodup.idxOf_getElem j hj]
  exact lt

/-- The most urgent of the requests a station can serve retries first (05 R89). -/
theorem State.retryOrder_first {n k : Nat} (waits : k ∈ s.retryOrder n)
    (first : ∀ i ∈ s.retryOrder n, i ≠ k → s.urgencyOrder.idxOf k < s.urgencyOrder.idxOf i) :
    ∃ rest, s.retryOrder n = k :: rest := by
  have ascends : (s.retryOrder n).Pairwise (fun i j => s.urgencyOrder.idxOf i < s.urgencyOrder.idxOf j) :=
    (pairwise_idxOf s.urgencyOrder_nodup).filter _
  cases e : s.retryOrder n with
  | nil => rw [e] at waits; cases waits
  | cons i rest =>
    rw [e] at ascends waits first
    obtain rfl | later := List.mem_cons.mp waits
    · exact ⟨rest, rfl⟩
    · have before := (List.pairwise_cons.mp ascends).1 k later
      have ne : i ≠ k := fun same => absurd before (by rw [same]; exact lt_irrefl _)
      exact absurd before (lt_asymm (first i List.mem_cons_self ne))

/-! ### One retry (05 R89) -/

/-- From s to t the request and the rack of slot k are the same. -/
def State.SlotKept (s t : State) (k : Nat) : Prop :=
  t.requests.get k = s.requests.get k ∧ t.racks.get k = s.racks.get k

theorem State.retryOne_cases (s : State) (k : Nat) :
    s.retryOne k = s.chooseDestination k ∨ s.retryOne k = (s.chooseDestination k).triggerPass := by
  unfold State.retryOne
  dsimp only
  split
  · split
    · exact .inr rfl
    · exact .inl rfl
  · exact .inl rfl

theorem State.retryOne_slotKept {j k : Nat} (h : j ≠ k) : s.SlotKept (s.retryOne k) j := by
  have chosen : s.SlotKept (s.chooseDestination k) j :=
    ⟨State.chooseDestination_requests_ne h, State.chooseDestination_racks_ne h⟩
  obtain e | e := s.retryOne_cases k <;> rw [e] <;> exact chosen

theorem State.foldl_retryOne_slotKept {l : List Nat} {j : Nat} (h : j ∉ l) : s.SlotKept (l.foldl State.retryOne s) j :=
  List.foldlRecOn l State.retryOne (motive := fun u => s.SlotKept u j) ⟨rfl, rfl⟩ fun u kept k hk => by
    obtain ⟨request, rack⟩ := State.retryOne_slotKept (s := u) (ne_of_mem_of_not_mem hk h).symm
    exact ⟨request.trans kept.1, rack.trans kept.2⟩

/-- A retry leaves alone what is not BLOCKED for the station (05 R89). -/
theorem State.retryBlocked_slotKept {n j : Nat} (h : s.blockedFor (s.stations.get n) j = false) :
    s.SlotKept (s.retryBlocked n) j := by
  by_cases free : (s.stations.get n).isFree = true
  · rw [State.retryBlocked_free free]
    exact State.foldl_retryOne_slotKept (by rw [State.mem_retryOrder, h]; exact Bool.false_ne_true)
  · rw [State.retryBlocked_of_not_free (Bool.not_eq_true _ ▸ free)]
    exact ⟨rfl, rfl⟩

theorem State.retryBlocked_nobody {n : Nat} (h : ∀ i, s.blockedFor (s.stations.get n) i = false) :
    s.retryBlocked n = s := by
  by_cases free : (s.stations.get n).isFree = true
  · have empty : s.retryOrder n = [] := List.eq_nil_iff_forall_not_mem.mpr fun i hi => by
      rw [State.mem_retryOrder, h] at hi; cases hi
    rw [State.retryBlocked_free free, empty]
    rfl
  · exact State.retryBlocked_of_not_free (Bool.not_eq_true _ ▸ free)

/-- A retry reserves a station and triggers a pass, or finds no station free that the rack could take next (05 R89). -/
theorem State.retryOne_tries {k : Nat} {q : Request} {r : Rack} (hq : s.requests.get k = some q)
    (hr : s.racks.get k = some r) :
    (∃ d < 32, s.Serves (s.wanted r) d ∧ (∀ n < 32, s.Serves (s.wanted r) n → NoFarther q.source d n) ∧
      s.retryOne k = (((s.setOcc d (.reservedRack k)).setRack k (some { r with dest := some d })).setRequest k
        (some { q with dest := some d, st := .ready })).triggerPass) ∨
    ((∀ n < 32, ¬s.Serves (s.wanted r) n) ∧ s.retryOne k = s.chooseDestination k) := by
  have hk := Table.lt_of_get_some hq
  obtain ⟨d, hd, nearest, serves, least⟩ | ⟨nowhere, none⟩ := s.nearestFree_cases (s.wanted r) q.source
  · refine .inl ⟨d, hd, serves, least, ?_⟩
    unfold State.retryOne
    rw [State.chooseDestination_takes hq hr nearest]
    simp only [State.setRequest_requests, State.setRack_requests, State.setOcc_requests, Table.get_set_self _ hk, if_true]
  · refine .inr ⟨none, ?_⟩
    unfold State.retryOne
    rw [State.chooseDestination_blocks hq hr nowhere]
    simp [Table.get_set_self _ hk]

/-! ### All retries for a station (05 R89) -/

theorem State.Retried.wanted (h : s.Retried t) (r : Rack) : t.wanted r = s.wanted r := by
  unfold State.wanted State.stepCount State.recipeStep
  rw [h.recipes]

theorem State.Retried.fits (h : s.Retried t) (w : Wanted) (n : Nat) :
    (t.stations.get n).fits w = (s.stations.get n).fits w := by
  have form (x : Station) : ({ x with occ := .empty } : Station).fits w = x.fits w := by cases w <;> rfl
  rw [← form, h.station_form n .empty, form]

/-- A station free after retries was free before them, and of the same kind. -/
theorem State.Retried.serves (h : s.Retried t) {w : Wanted} {n : Nat} (serves : t.Serves w n) : s.Serves w n := by
  obtain e | ⟨-, k, -, e⟩ := h.stations n
  · rw [State.Serves, e] at serves; exact serves
  · have := ((Station.isFree_iff _).mp serves.1).1
    rw [e] at this
    cases this

/-- A request that is not READY after its retry finds no station free then or later (05 R89). -/
theorem State.retryOrder_exhausts {n k : Nat} {r : Rack} (waits : k ∈ s.retryOrder n) (hr : s.racks.get k = some r) :
    (((s.retryOrder n).foldl State.retryOne s).requests.get k).map (·.st) = some .ready ∨
      ∀ m < 32, ¬((s.retryOrder n).foldl State.retryOne s).Serves (s.wanted r) m := by
  obtain ⟨q, r', hq, hr', -⟩ := State.blockedFor_iff.mp (State.mem_retryOrder.mp waits)
  refine (State.foldl_turn (P := fun u => s.Retried u ∧ s.SlotKept u k) (Q := fun u => s.Retried u ∧
    ((u.requests.get k).map (·.st) = some .ready ∨ ∀ m < 32, ¬u.Serves (s.wanted r) m))
    (State.retryOrder_nodup n) waits ?before ?turn ?after ⟨.refl s, rfl, rfl⟩).2
  case before =>
    rintro u j - hj ⟨retried, request, rack⟩
    obtain ⟨request', rack'⟩ := State.retryOne_slotKept (s := u) hj.symm
    exact ⟨retried.trans (.retryOne u j), request'.trans request, rack'.trans rack⟩
  case turn =>
    rintro u ⟨retried, request, rack⟩
    refine ⟨retried.trans (.retryOne u k), ?_⟩
    obtain ⟨d, -, -, -, e⟩ | ⟨none, -⟩ := State.retryOne_tries (request.trans hq) (rack.trans hr)
    · left
      rw [e]
      simp [Table.get_set_self _ (Table.lt_of_get_some hq)]
    · right
      rw [retried.wanted] at none
      exact fun m hm serves => none m hm ((State.Retried.retryOne u k).serves serves)
  case after =>
    rintro u j - hj ⟨retried, done⟩
    refine ⟨retried.trans (.retryOne u j), done.imp (fun ready => ?_) (fun none m hm serves => ?_)⟩
    · rw [(State.retryOne_slotKept hj.symm).1]; exact ready
    · exact none m hm ((State.Retried.retryOne u j).serves serves)

/-- The first retry takes the nearest free station, which is there since the station offered is (05 R88, R89). -/
theorem State.retryBlocked_first {n k : Nat} {q : Request} {r : Rack} (hn : n < 32)
    (free : (s.stations.get n).isFree = true) (waits : s.blockedFor (s.stations.get n) k = true)
    (first : ∀ i, s.blockedFor (s.stations.get n) i = true → i ≠ k →
      s.urgencyOrder.idxOf k < s.urgencyOrder.idxOf i)
    (hq : s.requests.get k = some q) (hr : s.racks.get k = some r) :
    s.dispatcher.passesOwed < (s.retryBlocked n).dispatcher.passesOwed ∧
      ∃ d < 32, s.Serves (s.wanted r) d ∧ (∀ m < 32, s.Serves (s.wanted r) m → NoFarther q.source d m) ∧
        (s.retryBlocked n).requests.get k = some { q with dest := some d, st := .ready } ∧
        (s.retryBlocked n).racks.get k = some { r with dest := some d } ∧
        (s.retryBlocked n).stations.get d = { s.stations.get d with occ := .reservedRack k } := by
  have hk := Table.lt_of_get_some hq
  obtain ⟨rest, order⟩ := State.retryOrder_first (State.mem_retryOrder.mpr waits)
    (fun i hi => first i (State.mem_retryOrder.mp hi))
  have fresh : k ∉ rest := (List.nodup_cons.mp (order ▸ State.retryOrder_nodup n)).1
  obtain ⟨q', r', hq', hr', -, fits⟩ := State.blockedFor_iff.mp waits
  obtain rfl := Option.some.inj (hr.symm.trans hr')
  rw [State.retryBlocked_free free, order, List.foldl_cons]
  have retried : (s.retryOne k).Retried (rest.foldl State.retryOne (s.retryOne k)) := .foldl rest _
  have kept := State.foldl_retryOne_slotKept (s := s.retryOne k) fresh
  obtain ⟨d, hd, serves, least, e⟩ | ⟨none, -⟩ := State.retryOne_tries hq hr
  · have station : (s.retryOne k).stations.get d = { s.stations.get d with occ := .reservedRack k } := by
      rw [e]; exact Table.get_set_self _ hd _
    refine ⟨lt_of_lt_of_le ?_ retried.passes, d, hd, serves, least, kept.1.trans ?_, kept.2.trans ?_, ?_⟩
    · rw [e]; exact Nat.lt_succ_self _
    · rw [e]; exact Table.get_set_self _ hk _
    · rw [e]; exact Table.get_set_self _ hk _
    · rw [retried.station_kept (by rw [station]; exact nofun), station]
  · exact absurd ⟨free, fits⟩ (none n hn)

/-- Settles O35: the nearest free station is the one no other is nearer than, and the retries go through the urgency
order. -/
theorem destinationChoice : Obligations.DestinationChoice := by
  refine ⟨fun s k d q r hq hr => ?choice, fun s n j k q r hn hj hk => ?retry⟩
  case choice =>
    have serves (m : Nat) : s.Serves (s.wanted r) m ↔ (s.stations.get m).occ = .empty ∧
        (s.stations.get m).inService = true ∧
        (if r.stepIdx = (s.recipes.get r.recipe).steps.length then (s.stations.get m).kind = .unload
         else (s.stations.get m).kind = .bath ∧
           some (s.stations.get m).bath = (s.recipes.get r.recipe).steps[r.stepIdx]?.map (·.bath)) := by
      rw [State.Serves, Station.isFree_iff, Station.fits_wanted, and_assoc]
      split <;> rw [decide_eq_true_eq]
    simp only [← serves]
    refine ⟨fun hd fits least => ?_, fun none => ?_⟩
    · rw [State.chooseDestination_takes hq hr (State.nearestFree_eq_some hd fits least)]
      rfl
    · exact State.chooseDestination_blocks hq hr (State.nearestFree_eq_none none)
  case retry =>
    simp only [← Station.fits_wanted, ← Station.isFree_eq]
    have waits (i : Nat) : ((s.requests.get i).any (fun w => decide (w.st = .blocked)) &&
        (s.racks.get i).any (fun u => (s.stations.get n).fits (s.wanted u))) = s.blockedFor (s.stations.get n) i :=
      (State.blockedFor_eq _ _).symm
    have retried := State.Retried.retryBlocked s n
    simp only [waits]
    refine ⟨fun idle => ?nothing, State.retryBlocked_slotKept, fun free here still m hm => ?blocked,
      fun free here hq hr first => ?first⟩
    case nothing =>
      obtain taken | nobody := idle
      · exact State.retryBlocked_of_not_free taken
      · refine State.retryBlocked_nobody fun i => ?_
        by_cases hi : i < 24
        · exact nobody i hi
        · rw [State.blockedFor_eq, Table.get_outside _ (by omega : 24 ≤ i)]; rfl
    case blocked =>
      obtain ⟨w, r', -, hr', -⟩ := State.blockedFor_iff.mp here
      rw [State.retryBlocked_free free] at still ⊢
      have done := (State.retryOrder_exhausts (State.mem_retryOrder.mpr here) hr').resolve_left still m hm
      rw [← State.retryBlocked_free free] at done ⊢
      rw [hr', ← Bool.not_eq_true]
      by_cases vacant : ((s.retryBlocked n).stations.get m).isFree = true
      · right
        rintro ⟨u, hu, fits⟩
        obtain rfl := Option.some.inj hu
        refine done ⟨vacant, ?_⟩
        rw [retried.fits]
        exact fits
      · exact .inl vacant
    case first =>
      have far (i : Nat) (h : s.blockedFor (s.stations.get n) i = true) : i < 24 := by
        obtain ⟨w, -, hw, -⟩ := State.blockedFor_iff.mp h
        exact Table.lt_of_get_some hw
      obtain ⟨passes, d, hd, serves, least, request, rack, station⟩ := State.retryBlocked_first hn free here
        (fun i hi => first i (far i hi) hi) hq hr
      exact ⟨passes, d, hd, serves.1, serves.2, fun m hm vacant fits => least m hm ⟨vacant, fits⟩, request, rack, station⟩

end Sys2Proof.Machine
end

section
/-! PROOFS. A handover done: the BOUND request given to the taker, and the spans that a handover leaves (05 R99, 06 R112,
07 R130, R136). -/

namespace Sys2Proof.Machine

variable {s : State}

/-! ### A BOUND request given or returned (05 R99, R101) -/

theorem State.returnRequest_some {k : Nat} {q : Request} (hq : s.requests.get k = some q) :
    s.returnRequest k = s.setRequest k (some { q with st := .ready }) := by
  simp only [State.returnRequest, hq]

theorem State.returnRequest_none {k : Nat} (hq : s.requests.get k = none) : s.returnRequest k = s := by
  simp only [State.returnRequest, hq]

theorem State.lineAllows_iff (r : Rack) : s.lineAllows r = true ↔ s.line.st = .run ∨ s.line.st = .hold ∧
    ¬(r.stepIdx ≠ (s.recipes.get r.recipe).steps.length ∧
      (s.recipes.get r.recipe).steps[r.stepIdx]?.map (·.cls) = some StepClass.critical) := by
  rw [State.lineAllows, State.nextCritical_eq]
  simp only [Bool.or_eq_true, Bool.and_eq_true, decide_eq_true_eq, Bool.not_eq_true', decide_eq_false_iff_not]

section
variable {k : Nat} {q : Request} {r : Rack}

/-- The request of a handover done becomes ORDERED where the line lets it go (05 R99). -/
theorem State.completeBound_given (h : Hoist) (hq : s.requests.get k = some q) (hr : s.racks.get k = some r)
    (allows : s.lineAllows r = true) : s.completeBound h (some k) = (s.openOrder h k).triggerPass := by
  simp only [State.completeBound, hq, hr, allows, if_true]

/-- It is READY again where the line does not (05 R99). -/
theorem State.completeBound_returned (h : Hoist) (hq : s.requests.get k = some q) (hr : s.racks.get k = some r)
    (forbids : ¬s.lineAllows r = true) : s.completeBound h (some k) =
      (s.setRequest k (some { q with st := .ready })).triggerPass := by
  simp only [State.completeBound, hq, hr, forbids, State.returnRequest_some hq, Bool.false_eq_true, if_false]

end

/-! ### The spans of a handover (07 R130, R136) -/

theorem SpanControl.apart_iff (c : SpanControl) : c.Apart ↔
    ∀ low hi lo high, c.spanA = .range low hi → c.spanB = .range lo high → hi + c.guardGap + 1 ≤ lo := by
  constructor
  · intro apart low hi lo high own other
    simpa only [SpanControl.Apart, own, other] using apart
  · intro apart
    unfold SpanControl.Apart
    split
    · next own other => exact apart _ _ _ _ own other
    · trivial

/-- The narrowed span of hoist B is clear of the move by the guard gap, and lies in what it had (07 R136). -/
theorem narrowedSpan_of_b {gap a b lo hi : Nat} {old : Span} (h : narrowedSpan .a gap a b old = .range lo hi) :
    max a b + gap + 1 ≤ lo ∧ lo ≤ 31 ∧ hi = 31 ∧ ∃ low high, old = .range low high ∧ low ≤ lo := by
  rw [narrowedSpan_eq] at h
  cases old with
  | empty => cases h
  | range low high =>
    dsimp only at h
    split at h
    · cases h
    · cases h
      exact ⟨by omega, by omega, rfl, low, high, rfl, by omega⟩

/-- The narrowed span of hoist A is clear of the move by the guard gap, and lies in what it had (07 R136). -/
theorem narrowedSpan_of_a {gap a b lo hi : Nat} {old : Span} (h : narrowedSpan .b gap a b old = .range lo hi) :
    hi + gap + 1 ≤ min a b ∧ lo = 0 ∧ ∃ low high, old = .range low high ∧ hi ≤ high := by
  rw [narrowedSpan_eq] at h
  cases old with
  | empty => cases h
  | range low high =>
    dsimp only at h
    split at h
    · cases h
    · cases h
      exact ⟨by omega, rfl, low, high, rfl, by omega⟩

theorem widenedSpan_covers (h : Hoist) {a b : Nat} (ha : a ≤ 31) (hb : b ≤ 31) :
    (widenedSpan h a b).covers a b = true := by
  rw [Span.covers_eq]
  cases h <;> exact decide_eq_true (by omega)

theorem SpanControl.apart_widened_a (c : SpanControl) (a b : Nat) :
    SpanControl.Apart { c with spanA := widenedSpan .a a b, spanB := narrowedSpan .a c.guardGap a b c.spanB } := by
  rw [SpanControl.apart_iff]
  intro low hi lo high widened narrowed
  cases widened
  exact (narrowedSpan_of_b narrowed).1

theorem SpanControl.apart_widened_b (c : SpanControl) (a b : Nat) :
    SpanControl.Apart { c with spanB := widenedSpan .b a b, spanA := narrowedSpan .b c.guardGap a b c.spanA } := by
  rw [SpanControl.apart_iff]
  intro low hi lo high narrowed widened
  cases widened
  exact (narrowedSpan_of_a narrowed).1

/-- Spans that keep apart keep apart when hoist B's is narrowed (07 R130, R136). -/
theorem SpanControl.Apart.narrowed_b {c : SpanControl} (apart : c.Apart) (a b : Nat) :
    SpanControl.Apart { c with spanB := narrowedSpan .a c.guardGap a b c.spanB } := by
  rw [SpanControl.apart_iff] at apart ⊢
  intro low hi lo high own narrowed
  obtain ⟨-, -, -, low', high', old, le⟩ := narrowedSpan_of_b narrowed
  exact (apart low hi low' high' own old).trans le

/-- Spans that keep apart keep apart when hoist A's is narrowed (07 R130, R136). -/
theorem SpanControl.Apart.narrowed_a {c : SpanControl} (apart : c.Apart) (a b : Nat) :
    SpanControl.Apart { c with spanA := narrowedSpan .b c.guardGap a b c.spanA } := by
  rw [SpanControl.apart_iff] at apart ⊢
  intro low hi lo high narrowed own
  obtain ⟨-, -, low', high', old, le⟩ := narrowedSpan_of_a narrowed
  exact (by omega : hi + c.guardGap + 1 ≤ high' + c.guardGap + 1).trans (apart low' high' lo high old own)

/-- Settles O48: the request given as R112 opens an order, and the spans of R136 set against each other. -/
theorem handoverDone : Obligations.HandoverDone := by
  refine ⟨fun s h k q r hq hr _ => ⟨rfl, fun allowed => ?given, fun forbidden => ?returned⟩,
    fun c a b ha hb => ⟨widenedSpan_covers .a ha hb, widenedSpan_covers .b ha hb, fun lo hi narrowed => ?low,
      fun lo hi narrowed => ?high, c.apart_widened_a a b, c.apart_widened_b a b,
      fun apart => ⟨apart.narrowed_b a b, apart.narrowed_a a b⟩⟩⟩
  case given =>
    rw [State.completeBound_given h hq hr ((State.lineAllows_iff r).mpr allowed), State.openOrder_eq h hq hr]
    rfl
  case returned =>
    refine State.completeBound_returned h hq hr (mt (State.lineAllows_iff r).mp ?_)
    rintro (run | ⟨hold, uncritical⟩)
    · obtain e | e | ⟨e, -⟩ := forbidden <;> rw [run] at e <;> cases e
    · obtain e | e | ⟨-, critical⟩ := forbidden
      · rw [hold] at e; cases e
      · rw [hold] at e; cases e
      · exact uncritical critical
  case low =>
    obtain ⟨clear, le, top, -⟩ := narrowedSpan_of_b narrowed
    exact ⟨clear, le, top⟩
  case high =>
    obtain ⟨clear, bottom, -⟩ := narrowedSpan_of_a narrowed
    exact ⟨clear, bottom⟩

end Sys2Proof.Machine
end

section
/-! PROOFS. Orders called off by a hoist, HOIST CANCEL and HOIST RELEASE (05 R100, R101, 06 R108, R119, R120, R122, R126,
07 R138, R139). -/

namespace Sys2Proof.Machine

variable {s : State}

/-! ### The closing of an order as the hoist's queue sees it (06 R108, 07 R138, R139) -/

/-- The closing of an order writes no link but by the SPAN of SHRINKING to the hoist itself (07 R138). -/
theorem State.becomeIdle_link (s : State) (h : Hoist) :
    (s.becomeIdle h).link = s.link ∨ ∃ m, (s.becomeIdle h).link = s.link.send h.channel m := by
  obtain ⟨-, e⟩ | ⟨waits, e⟩ := s.becomeIdle_cases h
  · left; rw [e]; cases h <;> rfl
  · right
    obtain ⟨-, rfl⟩ := (State.waitsFor_iff h).mp waits
    rw [e, State.beginShrinking, State.awaitAck_link, State.sendSpan_link]
    refine ⟨_, congrArg₂ (fun l (g : Hoist) => Link.send l g.channel _) ?_ ?_⟩ <;> simp

theorem State.becomeIdle_channel_ne (s : State) {h : Hoist} {c : Nat} (hc : c ≠ h.channel) :
    (s.becomeIdle h).link.channels.get c = s.link.channels.get c := by
  obtain e | ⟨m, e⟩ := s.becomeIdle_link h <;> rw [e]
  exact s.link.send_get_ne hc.symm m

/-- The outputs read nothing that an order's closing writes. -/
theorem State.OrderClosed.driven {t : State} {h : Hoist} {b : Option Nat} (closed : s.OrderClosed t h b) :
    s.OrderClosed t.driveOutputs h b := closed.rebound (by rw [← closed.bound]; rfl)

/-! ### An order called off (05 R101, 06 R120, R122) -/

/-- The state whose requests and last refusal have been written, before its order closes (05 R100, R101, 06 R120). -/
def State.refused (s : State) (h : Hoist) (why : Option Nat) (requests : Table (Option Request) 24) : State :=
  { s.setHoist h { s.hoist h with lastRefusal := why } with requests := requests }

/-- What the closing of hoist h's order without a fault makes of s, with this last refusal and these requests (05 R101,
06 R108, R122, 07 R138). -/
structure State.CalledOff (s t : State) (h : Hoist) (why : Option Nat) (requests : Table (Option Request) 24) :
    Prop where
  hoist    : t.hoist h = { (s.hoist h).idled with lastRefusal := why }
  requests : t.requests = requests
  closed   : s.OrderClosed t h s.span.handover.bound
  other    : t.hoist h.other = s.hoist h.other
  sends    : s.WaitsFor h → s.link.held h.channel < 4 →
    t.queued h.channel = s.queued h.channel ++ [s.span.handover.narrowed.message (t.seqOf h)]
  silent   : ¬s.WaitsFor h ∨ 4 ≤ s.link.held h.channel → t.queued h.channel = s.queued h.channel
  channels : ∀ c < 4, c ≠ h.channel → t.link.channels.get c = s.link.channels.get c
  passes   : s.dispatcher.passesOwed < t.dispatcher.passesOwed
  rest     : t.racks = s.racks ∧ t.stations = s.stations ∧ t.baths = s.baths ∧ t.line = s.line ∧ t.tick = s.tick

theorem State.refused_same (s : State) (h : Hoist) (why : Option Nat) (requests : Table (Option Request) 24) :
    (s.refused h why requests).span = s.span ∧ (s.refused h why requests).link = s.link ∧
      (s.refused h why requests).line = s.line ∧ (s.refused h why requests).dispatcher = s.dispatcher ∧
      (∀ g, ((s.refused h why requests).hoist g).timing = (s.hoist g).timing) ∧
      (s.refused h why requests).hoist h = { s.hoist h with lastRefusal := why } ∧
      (s.refused h why requests).hoist h.other = s.hoist h.other := by
  cases h <;> exact ⟨rfl, rfl, rfl, rfl, fun g => by cases g <;> rfl, rfl, rfl⟩

theorem State.refused_tables (s : State) (h : Hoist) (why : Option Nat) (requests : Table (Option Request) 24) :
    (s.refused h why requests).racks = s.racks ∧ (s.refused h why requests).stations = s.stations ∧
      (s.refused h why requests).baths = s.baths ∧ (s.refused h why requests).line = s.line ∧
      (s.refused h why requests).tick = s.tick := by
  cases h <;> exact ⟨rfl, rfl, rfl, rfl, rfl⟩

theorem State.refused_calledOff (s : State) (h : Hoist) (why : Option Nat) (requests : Table (Option Request) 24) :
    s.CalledOff ((s.refused h why requests).becomeIdle h).driveOutputs h why requests := by
  obtain ⟨span, link, line, dispatcher, timing, own, other⟩ := s.refused_same h why requests
  have tables := s.refused_tables h why requests
  generalize e : s.refused h why requests = w at *
  have waits : w.WaitsFor h ↔ s.WaitsFor h := by unfold State.WaitsFor; rw [span]
  have queued : w.queued h.channel = s.queued h.channel := by unfold State.queued; rw [link]
  have closed : s.OrderClosed (w.becomeIdle h) h s.span.handover.bound :=
    span ▸ (w.becomeIdle_orderClosed h).of_same span.symm (fun g => (timing g).symm) line.symm
  obtain ⟨silent, sends⟩ := w.becomeIdle_queued h h.channel
  rw [queued, waits] at silent sends
  refine ⟨?_, ?_, closed.driven, ?_, fun waits room => (sends waits).trans ?_, fun quiet => ?_, fun c _ hc => ?_, ?_, ?_⟩
  · refine (w.becomeIdle_hoist h h).trans ?_
    rw [if_pos rfl, own]; rfl
  · refine (w.becomeIdle_requests h).trans ?_
    rw [← e]; rfl
  · refine (w.becomeIdle_hoist h h.other).trans ?_
    rw [if_neg (Hoist_other_ne h), other]
  · have sequence : (w.becomeIdle h).driveOutputs.seqOf h = nextNumber (s.seqOf h) := (closed.1 waits).sequence
    have seq : w.seqOf h = s.seqOf h := by cases h <;> simp only [State.seqOf, span]
    rw [if_pos ⟨rfl, by rw [link]; exact room⟩, sequence, seq, span]
  · by_cases waiting : s.WaitsFor h
    · have full : 4 ≤ s.link.held h.channel := quiet.resolve_left (not_not_intro waiting)
      refine (sends waiting).trans ?_
      rw [if_neg (by rw [link]; omega), List.append_nil]
    · exact silent waiting
  · rw [← link]; exact w.becomeIdle_channel_ne hc
  · rw [← dispatcher]
    exact (Nat.lt_succ_self _).trans_eq (w.becomeIdle_passes h).symm
  · obtain ⟨racks, stations, baths, line, tick⟩ := tables
    exact ⟨(w.becomeIdle_racks h).trans racks, (w.becomeIdle_stations h).trans stations,
      (w.becomeIdle_baths h).trans baths, (w.becomeIdle_line h).trans line, (w.becomeIdle_tick h).trans tick⟩

/-! ### REFUSE and CANCELLED of the open order (06 R119, R120, R122) -/

section
variable {h : Hoist} {o : Order} {q : Request}

theorem State.namedOrder_open (ho : (s.hoist h).order = some o) : s.namedOrder h o.number = some o := by
  simp only [State.namedOrder, ho, if_true]

theorem State.callOff_eq (hq : s.requests.get o.slot = some q) :
    s.callOff h o = (s.setRequest o.slot (some { q with st := .ready })).becomeIdle h := by
  rw [State.callOff, State.returnRequest_some hq]

/-- REFUSE while a cancel is outstanding ends the order as CANCELLED does (06 R122). -/
theorem takeRefuse_cancelOut (ho : (s.hoist h).order = some o) (hq : s.requests.get o.slot = some q)
    (cancel : o.cancelOut = true) (reason : Nat) : takeRefuse h o.number reason s =
      (s.refused h (some reason) (s.requests.set o.slot (some { q with st := .ready }))).becomeIdle h := by
  have kept : (s.keepRefusal h reason).requests.get o.slot = some q := by rw [State.keepRefusal_requests, hq]
  simp only [takeRefuse, State.namedOrder_open ho, cancel, if_true]
  rw [State.callOff_eq kept]
  cases h <;> rfl

/-- REFUSE in SENT or ACCEPTED marks the request for the hoist (05 R100, 06 R120). -/
theorem takeRefuse_early (ho : (s.hoist h).order = some o) (hq : s.requests.get o.slot = some q)
    (cancel : o.cancelOut = false) (early : o.phase = .sent ∨ o.phase = .accepted) (reason : Nat) :
    takeRefuse h o.number reason s = (s.refused h (some reason) (s.requests.set o.slot
      (some { q.setMark h (some (s.tick + 100#32)) with st := .ready }))).becomeIdle h := by
  have taken : takeRefuse h o.number reason s = ((s.keepRefusal h reason).markRefused h o.slot).callOff h o := by
    obtain e | e := early <;> simp [takeRefuse, State.namedOrder_open ho, cancel, e]
  have marked : (s.keepRefusal h reason).markRefused h o.slot =
      (s.keepRefusal h reason).setRequest o.slot (some (q.setMark h (some (s.tick + 100#32)))) := by
    simp only [State.markRefused, State.keepRefusal_requests, hq, State.keepRefusal_tick]
    rfl
  have back : ((s.keepRefusal h reason).setRequest o.slot (some (q.setMark h (some (s.tick + 100#32))))).requests.get
      o.slot = some (q.setMark h (some (s.tick + 100#32))) := Table.get_set_self _ (Table.lt_of_get_some hq) _
  rw [taken, marked, State.callOff_eq back]
  refine congrArg (State.becomeIdle · h) ?_
  unfold State.setRequest State.refused
  cases h <;> simp [State.keepRefusal, State.setHoist]

/-- REFUSE in a later phase is a fault (06 R120). -/
theorem takeRefuse_late (ho : (s.hoist h).order = some o) (cancel : o.cancelOut = false)
    (late : ¬(o.phase = .sent ∨ o.phase = .accepted)) (reason : Nat) :
    takeRefuse h o.number reason s = s.enterFault h .protocol := by
  simp only [takeRefuse, State.namedOrder_open ho, cancel, Bool.false_eq_true, if_false]
  cases e : o.phase with
  | sent => exact absurd (.inl e) late
  | accepted => exact absurd (.inr e) late
  | poised => rfl
  | released => rfl
  | lifted => rfl

/-- CANCELLED while a cancel is outstanding, or before LIFT is sent, ends the order (06 R122). -/
theorem takeCancelled_ends (ho : (s.hoist h).order = some o) (hq : s.requests.get o.slot = some q)
    (short : o.cancelOut = true ∨ (o.phase = .sent ∨ o.phase = .accepted) ∨ o.phase = .poised) :
    takeCancelled h o.number s = (s.refused h (s.hoist h).lastRefusal
      (s.requests.set o.slot (some { q with st := .ready }))).becomeIdle h := by
  have taken : takeCancelled h o.number s = s.callOff h o := by
    simp only [takeCancelled, State.namedOrder_open ho]
    obtain e | (e | e) | e := short <;> simp [e]
  rw [taken, State.callOff_eq hq]
  cases h <;> rfl

/-- CANCELLED of an order whose LIFT was sent is a fault, unless a lift has crossed the cancel (06 R122). -/
theorem takeCancelled_late (ho : (s.hoist h).order = some o) (cancel : o.cancelOut = false)
    (late : o.phase = .released ∨ o.phase = .lifted ∧ o.cancelCrossed = false) :
    takeCancelled h o.number s = s.enterFault h .protocol := by
  obtain e | ⟨e, crossed⟩ := late
  · simp [takeCancelled, State.namedOrder_open ho, cancel, e]
  · simp [takeCancelled, State.namedOrder_open ho, cancel, e, crossed]

/-- The CANCELLED that a lift has crossed is stray, and no other is (06 R119, R122). -/
theorem takeCancelled_crossed (ho : (s.hoist h).order = some o) (cancel : o.cancelOut = false)
    (lifted : o.phase = .lifted) (crossed : o.cancelCrossed = true) : takeCancelled h o.number s =
      s.setHoist h { s.hoist h with
        order := some { o with cancelCrossed := false }
        stray := if 65535 ≤ (s.hoist h).stray then 65535 else (s.hoist h).stray + 1 } := by
  simp only [takeCancelled, State.namedOrder_open ho, cancel, lifted, crossed, Bool.false_eq_true, if_false, if_true]
  rw [State.stray, State.setHoist_hoist, State.setHoist_setHoist]
  rfl

end

/-! ### HOIST CANCEL and HOIST RELEASE (06 R122, R126) -/

theorem Order.cancellable_iff (o : Order) :
    o.cancellable = true ↔ ¬(o.cancelOut = true ∨ o.phase = .released ∨ o.phase = .lifted) := by
  unfold Order.cancellable
  cases o.cancelOut <;> cases o.phase <;> decide

/-- The state after HOIST CANCEL of the order o: CANCEL queued, the cancel outstanding and the timer set (06 R122). -/
def State.cancelSent (s : State) (h : Hoist) (o : Order) : State :=
  { s.setHoist h { s.hoist h with
      order := some { o with cancelOut := true }, timer := some (s.hoist h).timing.acceptTime
      suspended := decide (s.line.st = .halt) } with
    link := s.link.send h.channel (.cancel o.number) }

theorem Link.slot_send (l : Link) (c d : Nat) (m : OutMsg) : (l.send c m).slot d = l.slot d := by
  unfold Link.send
  split
  · exact l.slot_push c d m
  · exact l.slot_lose c d

theorem State.cancelSent_setRequestSlot (s : State) (h : Hoist) (o : Order) (f : Option SlotFrame) :
    (s.setRequestSlot f).cancelSent h o = (s.cancelSent h o).setRequestSlot f := by
  simp only [State.cancelSent, State.setRequestSlot]
  rw [Link.send_setSlot]
  cases h <;> rfl

theorem handleHoistCancel_sent {h : Hoist} {o : Order} (ho : (s.hoist h).order = some o)
    (short : o.cancellable = true) : handleHoistCancel (some h) s = (s.cancelSent h o).reply 0x52 .ok [] := by
  simp only [handleHoistCancel, ho, short, if_true]
  cases h <;> rfl

theorem handleHoistCancel_refused {h : Hoist} (late : ∀ o ∈ (s.hoist h).order, ¬o.cancellable = true) :
    handleHoistCancel (some h) s = s.reply 0x52 .wrongState [] := by
  unfold handleHoistCancel
  dsimp only
  split
  · next o ho => exact if_neg (late o ho)
  · rfl

theorem exec_hoistCancel_sent (h : s.TakesRequests) {g : Hoist} {o : Order} (ho : (s.hoist g).order = some o)
    (short : o.cancellable = true) :
    exec (.hoistCancel (some g)) s = .next ((s.cancelSent g o).reply 0x52 .ok []).driveOutputs := by
  refine exec_request_replies (i := .hoistCancel (some g)) h rfl rfl ?_ ?_
  · exact (Link.slot_send _ _ _ _).trans h.2.1
  · rw [← State.cancelSent_setRequestSlot]
    exact handleHoistCancel_sent (by cases g <;> exact ho) short

theorem exec_hoistCancel_refused (h : s.TakesRequests) {g : Hoist}
    (late : ∀ o ∈ (s.hoist g).order, ¬o.cancellable = true) :
    exec (.hoistCancel (some g)) s = .next (s.reply 0x52 .wrongState []).driveOutputs :=
  exec_request_replies (i := .hoistCancel (some g)) h rfl rfl h.2.1
    (handleHoistCancel_refused (by cases g <;> exact late))

theorem exec_hoistRelease (h : s.TakesRequests) (g : Hoist) :
    exec (.hoistRelease (some g)) s = .next (State.driveOutputs
      (if (s.hoist g).st = .busy ∨ s.span.handover.stage ≠ .none then s.reply 0x53 .busy []
       else if (s.hoist g).st = .offline ∧ (s.hoist g).released = true then s.reply 0x53 .ok []
       else (s.releaseHoist g).reply 0x53 .ok [])) := by
  have same (f : Option SlotFrame) : (s.setRequestSlot f).hoist g = s.hoist g := by cases g <;> rfl
  have handled (f : Option SlotFrame) : handleHoistRelease (some g) (s.setRequestSlot f) =
      if (s.hoist g).st = .busy ∨ s.span.handover.stage ≠ .none then (s.setRequestSlot f).reply 0x53 .busy []
      else if (s.hoist g).st = .offline ∧ (s.hoist g).released = true then (s.setRequestSlot f).reply 0x53 .ok []
      else ((s.setRequestSlot f).releaseHoist g).reply 0x53 .ok [] := by
    rw [← same f]; rfl
  by_cases busy : (s.hoist g).st = .busy ∨ s.span.handover.stage ≠ .none
  · rw [if_pos busy]
    exact exec_request_replies (i := .hoistRelease (some g)) h rfl rfl h.2.1 ((handled _).trans (if_pos busy))
  · rw [if_neg busy]
    by_cases gone : (s.hoist g).st = .offline ∧ (s.hoist g).released = true
    · rw [if_pos gone]
      exact exec_request_replies (i := .hoistRelease (some g)) h rfl rfl h.2.1
        ((handled _).trans ((if_neg busy).trans (if_pos gone)))
    · rw [if_neg gone]
      refine exec_request_replies (i := .hoistRelease (some g)) (t := s.releaseHoist g) h rfl rfl ?_
        (((handled _).trans ((if_neg busy).trans (if_neg gone))).trans ?_)
      · cases g <;> exact h.2.1
      · cases g <;> rfl

/-- Settles O46: each report closes the order of a state with its requests and its refusal written, and each request is
answered by the order's phase or the hoist's state. -/
theorem ordersCalledOff : Obligations.OrdersCalledOff := by
  refine ⟨fun s h o reason q running ho hq hk => ⟨fun ends => ?refused, fun cancel late => ?refusedLate,
    fun short => ?cancelled, fun cancel late => ?cancelledLate, fun cancel lifted crossed => ?crossed⟩,
    fun s h taken => ⟨exec_request_replies taken rfl rfl taken.2.1 rfl, exec_request_replies taken rfl rfl taken.2.1 rfl,
      ?cancel, ?release⟩⟩
  case refused =>
    refine ⟨_, exec_report_next running rfl, ?_⟩
    by_cases cancel : o.cancelOut = true
    · have e : takeReport (.refuse h o.number reason) s = _ := takeRefuse_cancelOut ho hq cancel reason
      have off := s.refused_calledOff h (some reason) (s.requests.set o.slot (some { q with st := .ready }))
      rw [← e] at off
      rw [off.hoist, off.requests, if_pos cancel]
      exact ⟨rfl, rfl, rfl, ⟨off.closed, off.other, off.sends, off.silent, off.channels⟩, rfl,
        Table.get_set_self _ hk _, off.passes, off.rest⟩
    · have cancel' : o.cancelOut = false := Bool.not_eq_true _ ▸ cancel
      have e : takeReport (.refuse h o.number reason) s = _ :=
        takeRefuse_early ho hq cancel' (ends.resolve_left cancel) reason
      have off := s.refused_calledOff h (some reason)
        (s.requests.set o.slot (some { q.setMark h (some (s.tick + 100#32)) with st := .ready }))
      rw [← e] at off
      rw [off.hoist, off.requests, if_neg cancel]
      refine ⟨rfl, rfl, rfl, ⟨off.closed, off.other, off.sends, off.silent, off.channels⟩, rfl,
        (Table.get_set_self _ hk _).trans ?_, off.passes, off.rest⟩
      cases h <;> rfl
  case refusedLate =>
    rw [exec_report_next running rfl]
    exact congrArg (fun t => Host.Outcome.next t.driveOutputs) (takeRefuse_late ho cancel late reason)
  case cancelled =>
    refine ⟨_, exec_report_next running rfl, ?_⟩
    have e : takeReport (.cancelled h o.number) s = _ := takeCancelled_ends ho hq short
    have off := s.refused_calledOff h (s.hoist h).lastRefusal (s.requests.set o.slot (some { q with st := .ready }))
    rw [← e] at off
    rw [off.hoist, off.requests]
    exact ⟨rfl, rfl, rfl, ⟨off.closed, off.other, off.sends, off.silent, off.channels⟩,
      Table.get_set_self _ hk _, off.passes, off.rest⟩
  case cancelledLate =>
    rw [exec_report_next running rfl]
    exact congrArg (fun t => Host.Outcome.next t.driveOutputs) (takeCancelled_late ho cancel late)
  case crossed =>
    rw [exec_report_next running rfl]
    exact congrArg (fun t => Host.Outcome.next t.driveOutputs) (takeCancelled_crossed ho cancel lifted crossed)
  case cancel =>
    cases ho : (s.hoist h).order with
    | none => exact exec_hoistCancel_refused taken (by rw [ho]; exact nofun)
    | some o =>
      dsimp only
      by_cases late : o.cancelOut = true ∨ o.phase = .released ∨ o.phase = .lifted
      · rw [if_pos late]
        refine exec_hoistCancel_refused taken fun y hy => ?_
        obtain rfl := Option.some.inj (ho.symm.trans hy)
        exact mt o.cancellable_iff.mp (not_not_intro late)
      · rw [if_neg late]
        exact exec_hoistCancel_sent taken ho (o.cancellable_iff.mpr late)
  case release =>
    rw [exec_hoistRelease taken]
    cases h <;> rfl

end Sys2Proof.Machine
end

section
/-! PROOFS. SPAN, and SPAN ACK in SHRINKING and in WIDENING (05 R99, R101, 06 R112, 07 R132, R134, R139, R140, R142). -/

namespace Sys2Proof.Machine

variable {s t : State}

/-! ### SPAN (07 R132) -/

/-- SPAN queued to a hoist, with the acknowledgement that is awaited from it moved on (07 R132, R139, R140). -/
theorem State.sendSpan_eq (s : State) (h : Hoist) : s.sendSpan h =
    if s.span.handover.awaited.map (·.1) = some h then
      ((s.setSeq h (nextNumber (s.seqOf h))).sendHoist h
        (.span (s.spanOf h).ends.1 (s.spanOf h).ends.2 (nextNumber (s.seqOf h)))).setHandover
          { s.span.handover with awaited := some (h, nextNumber (s.seqOf h)) }
    else (s.setSeq h (nextNumber (s.seqOf h))).sendHoist h
      (.span (s.spanOf h).ends.1 (s.spanOf h).ends.2 (nextNumber (s.seqOf h))) := by
  unfold State.sendSpan
  simp only [State.sendHoist_span, State.setSeq_handover]
  cases s.span.handover.awaited with
  | none => rfl
  | some x => simp only [Option.map_some, Option.some.injEq]

/-! ### A position that is a violation (07 R134, 09 R160, R167) -/

/-- A cause writes nothing of span control but the suspended mark of the handover (07 R143, 09 R167). -/
theorem State.addCause_span_form (s : State) (c : Cause) :
    ∃ b, (s.addCause c).span = { s.span with handover := { s.span.handover with suspended := b } } := by
  have moved (v : State) : ∃ b, (v.moveFor c).span =
      { v.span with handover := { v.span.handover with suspended := b } } := by
    unfold State.moveFor
    split
    · exact ⟨v.span.handover.suspended, rfl⟩
    · exact ⟨_, rfl⟩
    · exact ⟨_, rfl⟩
    · exact ⟨v.span.handover.suspended, rfl⟩
  unfold State.addCause
  split
  · exact ⟨s.span.handover.suspended, rfl⟩
  · exact moved { s with line := { s.line with causes := c.addTo s.line.causes } }

theorem State.moveFor_causes (s : State) (c : Cause) : (s.moveFor c).line.causes = s.line.causes := by
  unfold State.moveFor; split <;> rfl

theorem State.addCause_mem (s : State) (c : Cause) : c ∈ (s.addCause c).line.causes := by
  unfold State.addCause
  split
  · assumption
  · show c ∈ (State.moveFor _ c).line.causes
    rw [State.moveFor_causes]
    exact (Cause.mem_addTo _ _ _).mpr (.inl rfl)

/-- What a cause makes of the line does not depend on the rest of the state (09 R160). -/
theorem State.addCause_line_of_line {c : Cause} (h : t.line = s.line) : (t.addCause c).line = (s.addCause c).line := by
  have moved {v w : State} (e : w.line = v.line) : (w.moveFor c).line = (v.moveFor c).line := by
    unfold State.moveFor
    rw [e]
    split <;> simp only [State.enterHalt, e]
  unfold State.addCause
  rw [h]
  split
  · exact h
  · exact moved rfl

/-- A line in RUN or HOLD after a HALT cause had it already (09 R160). -/
theorem State.addCause_running {c : Cause} (halts : c.isHalt = true)
    (runs : (s.addCause c).line.st = .run ∨ (s.addCause c).line.st = .hold) : s.addCause c = s := by
  unfold State.addCause at runs ⊢
  split
  · rfl
  · next fresh =>
    rw [if_neg fresh] at runs
    exfalso
    have moved (v : State) : ¬((v.moveFor c).line.st = .run ∨ (v.moveFor c).line.st = .hold) := by
      unfold State.moveFor
      rw [halts]
      cases e : v.line.st <;> simp [State.enterHalt, e]
    exact moved _ runs

/-- The check of a position adds SPAN_VIOLATION, or changes nothing (07 R134). -/
theorem State.checkPosition_cases (s : State) (h : Hoist) (p : Int) (sp : Span) :
    (((s.hoist h).st = .offline ∨ s.line.st = .standby ∨ p = h.park ∨ sp.holds p = true) ∧
      s.checkPosition h p sp = s) ∨
    (¬((s.hoist h).st = .offline ∨ s.line.st = .standby ∨ p = h.park ∨ sp.holds p = true) ∧
      s.checkPosition h p sp = s.addCause .spanViolation) := by
  unfold State.checkPosition
  by_cases good : (s.hoist h).st = .offline ∨ s.line.st = .standby ∨ p = h.park ∨ sp.holds p = true
  · exact .inl ⟨good, if_pos good⟩
  · exact .inr ⟨good, if_neg good⟩

/-- What the check of a position leaves alone, from s to t: all of span control but a suspended mark, each hoist's
position, and the requests, racks and passes (07 R134, 09 R167). -/
structure State.Checked (s t : State) : Prop where
  span       : ∃ b, t.span = { s.span with handover := { s.span.handover with suspended := b } }
  position   : ∀ g, (t.hoist g).position = (s.hoist g).position
  requests   : t.requests = s.requests
  stations   : t.stations = s.stations
  racks      : t.racks = s.racks
  dispatcher : t.dispatcher = s.dispatcher

theorem State.checkPosition_checked (s : State) (h : Hoist) (p : Int) (sp : Span) :
    s.Checked (s.checkPosition h p sp) := by
  refine ⟨?_, fun g => ?_, s.checkPosition_requests h p sp, s.checkPosition_stations h p sp,
    s.checkPosition_racks h p sp, s.checkPosition_dispatcher h p sp⟩ <;>
    obtain ⟨-, e⟩ | ⟨-, e⟩ := s.checkPosition_cases h p sp <;> rw [e]
  · exact ⟨s.span.handover.suspended, rfl⟩
  · exact s.addCause_span_form _
  · exact State.addCause_hoist HoistRec.position (fun _ _ => rfl) _ g

/-! ### SPAN ACK of the last sequence (07 R132) -/

section
variable {h : Hoist} {p : Int} {q : Nat}

/-- The report is taken where its sequence is the hoist's last and its position is on the rail (06 R111, 07 R132). -/
theorem State.takeSpanAck_taken (hp : -1 ≤ p) (hp' : p ≤ 32) (last : q = s.seqOf h) (hq : q ≠ 0) :
    s.takeSpanAck h q (some p) = if s.span.handover.awaited = some (h, q) then
      match s.span.handover.stage with
      | .shrinking => s.ackShrinking h p
      | .widening => s.ackWidening p
      | _ => s.recordPosition h p
    else s.recordPosition h p := by
  have read : readPosition (some p) = some p := if_pos ⟨hp, hp'⟩
  have known : ¬(q ≠ s.seqOf h ∨ q = 0) := fun c => c.elim (fun ne => ne last) hq
  unfold State.takeSpanAck
  rw [read]
  exact if_neg known

/-! ### In SHRINKING (07 R139) -/

/-- The acknowledgement of SHRINKING taken, with the victim's position noted (07 R139). -/
def State.acknowledged (s : State) (h : Hoist) (p : Int) : State :=
  (s.setHandover { s.span.handover with awaited := none, timer := none, suspended := false }).notePosition h (some p)

theorem State.acknowledged_same (s : State) (h : Hoist) (p : Int) :
    (s.acknowledged h p).link = s.link ∧ (s.acknowledged h p).line = s.line ∧
      (s.acknowledged h p).requests = s.requests ∧ (s.acknowledged h p).stations = s.stations ∧
      (s.acknowledged h p).racks = s.racks ∧ (s.acknowledged h p).dispatcher = s.dispatcher ∧
      (s.acknowledged h p).span = { s.span with
        handover := { s.span.handover with awaited := none, timer := none, suspended := false } } := by
  cases h <;> exact ⟨rfl, rfl, rfl, rfl, rfl, rfl, rfl⟩

theorem State.acknowledged_hoist (s : State) (h : Hoist) (p : Int) :
    ((s.acknowledged h p).hoist h).position = some p ∧ ((s.acknowledged h p).hoist h).st = (s.hoist h).st ∧
      ∀ g, ((s.acknowledged h p).hoist g).timing = (s.hoist g).timing ∧ (s.acknowledged h p).spanOf g = s.spanOf g ∧
        (s.acknowledged h p).seqOf g = s.seqOf g := by
  cases h <;> exact ⟨rfl, rfl, fun g => by cases g <;> exact ⟨rfl, rfl, rfl⟩⟩

theorem State.ackShrinking_within (here : s.span.handover.narrowed.holds p = true ∨ p = h.park) :
    s.ackShrinking h p = if s.span.handover.withdrawn = true then (s.acknowledged h p).endHandover
      else (s.acknowledged h p).beginWidening := if_pos here

/-- An acknowledgement from beyond the narrowed span ends the handover, with its request returned unless the taker is
withdrawn (05 R101, 07 R139, R142). -/
theorem State.ackShrinking_beyond (away : ¬(s.span.handover.narrowed.holds p = true ∨ p = h.park)) :
    s.ackShrinking h p = (if s.span.handover.withdrawn = true
      then (s.acknowledged h p).checkPosition h p s.span.handover.narrowed
      else ((s.acknowledged h p).checkPosition h p s.span.handover.narrowed).returnBound).endHandover := by
  refine (if_neg away).trans ?_
  split <;> rfl

/-- What the acknowledgement of a victim within its narrowed span makes of s where the taker stands: WIDENING begins
(07 R137, R139). -/
structure State.WideningBegun (s t : State) (h : Hoist) (p : Int) : Prop where
  position : (t.hoist h).position = some p
  line     : t.line = s.line
  own      : t.spanOf s.span.handover.taker = s.span.handover.widened
  other    : t.spanOf s.span.handover.taker.other = s.spanOf s.span.handover.taker.other
  sequence : t.seqOf s.span.handover.taker = nextNumber (s.seqOf s.span.handover.taker)
  record   : t.span.handover = { s.span.handover with
    stage := .widening
    awaited := some (s.span.handover.taker, nextNumber (s.seqOf s.span.handover.taker))
    timer := some (s.hoist s.span.handover.taker).timing.spanAck, suspended := decide (s.line.st = .halt) }
  queued   : t.queued s.span.handover.taker.channel = s.queued s.span.handover.taker.channel ++
    (if s.link.held s.span.handover.taker.channel < 4 then
      [s.span.handover.widened.message (nextNumber (s.seqOf s.span.handover.taker))] else [])

theorem State.acknowledged_wideningBegun (s : State) (h : Hoist) (p : Int) :
    s.WideningBegun (s.acknowledged h p).beginWidening h p := by
  obtain ⟨link, line, -, -, -, -, span⟩ := s.acknowledged_same h p
  obtain ⟨position, -, same⟩ := s.acknowledged_hoist h p
  generalize s.acknowledged h p = v at *
  have taker : v.span.handover.taker = s.span.handover.taker := by rw [span]
  obtain ⟨timing, -, seq⟩ := same s.span.handover.taker
  obtain ⟨-, spanOther, -⟩ := same s.span.handover.taker.other
  rw [State.beginWidening_granted, taker]
  obtain ⟨own, other, sequence, -⟩ := v.granted_spanOf s.span.handover.taker v.span.handover.widened
    { v.span.handover with stage := .widening, awaited := none, timer := none }
  refine ⟨?_, by rw [State.granted_rest]; exact line, own.trans (by rw [span]), other.trans spanOther,
    sequence.trans (by rw [seq]), ?_, ?_⟩
  · rw [State.granted_rest]; cases h <;> exact position
  · show ({ v.span.handover with
      stage := .widening, awaited := some (s.span.handover.taker, nextNumber (v.seqOf s.span.handover.taker))
      timer := some (v.hoist s.span.handover.taker).timing.spanAck
      suspended := decide (v.line.st = .halt) } : Handover) = _
    rw [span, seq, timing, line]
  · refine (v.sendHoist_queued s.span.handover.taker
      (v.span.handover.widened.message (nextNumber (v.seqOf s.span.handover.taker))) _).trans ?_
    rw [seq, span, State.queued, State.queued, link]
    simp only [true_and]

/-- What ends a handover, its spans as they stand (07 R139, R142). -/
structure State.HandoverEnded (s t : State) : Prop where
  stage     : t.span.handover.stage = .none
  timer     : t.span.handover.timer = none
  withdrawn : t.span.handover.withdrawn = false
  spanA     : t.span.spanA = s.span.spanA
  spanB     : t.span.spanB = s.span.spanB
  passes    : s.dispatcher.passesOwed < t.dispatcher.passesOwed

theorem State.endHandover_ended (s : State) : s.HandoverEnded s.endHandover :=
  ⟨rfl, rfl, rfl, rfl, rfl, Nat.lt_succ_self _⟩

theorem State.HandoverEnded.of_span {u : State} (e : u.HandoverEnded t) (spanA : u.span.spanA = s.span.spanA)
    (spanB : u.span.spanB = s.span.spanB) (dispatcher : u.dispatcher = s.dispatcher) : s.HandoverEnded t :=
  ⟨e.stage, e.timer, e.withdrawn, e.spanA.trans spanA, e.spanB.trans spanB, dispatcher ▸ e.passes⟩

theorem State.returnBound_requests_some {k : Nat} {w : Request} (bound : s.span.handover.bound = some k)
    (hw : s.requests.get k = some w) : s.returnBound.requests = s.requests.set k (some { w with st := .ready }) := by
  simp only [State.returnBound, bound, State.returnRequest_some hw, State.setRequest_requests]

theorem State.returnBound_none (bound : s.span.handover.bound = none) : s.returnBound = s := by
  simp only [State.returnBound, bound]

theorem State.returnBound_hoist (s : State) (g : Hoist) : s.returnBound.hoist g = s.hoist g := by
  cases g
  · exact s.returnBound_hoistA
  · exact s.returnBound_hoistB

/-- What the acknowledgement of a victim beyond its narrowed span makes of s (05 R101, 07 R134, R139, R142). -/
structure State.AckBeyond (s t : State) (h : Hoist) (p : Int) : Prop extends s.HandoverEnded t where
  position : (t.hoist h).position = some p
  violates : (s.hoist h).st ≠ .offline → s.line.st ≠ .standby → .spanViolation ∈ t.line.causes
  still    : (s.hoist h).st = .offline ∨ s.line.st = .standby → t.line = s.line
  kept     : s.span.handover.withdrawn = true ∨ s.span.handover.bound = none → t.requests = s.requests
  returned : ∀ k w, s.span.handover.withdrawn = false → s.span.handover.bound = some k → s.requests.get k = some w →
    t.requests = s.requests.set k (some { w with st := .ready })
  stations : t.stations = s.stations
  racks    : t.racks = s.racks

theorem State.ackShrinking_ackBeyond (away : ¬(s.span.handover.narrowed.holds p = true ∨ p = h.park)) :
    s.AckBeyond (s.ackShrinking h p) h p := by
  obtain ⟨-, line, requests, stations, racks, dispatcher, span⟩ := s.acknowledged_same h p
  obtain ⟨position, st, -⟩ := s.acknowledged_hoist h p
  have checked := (s.acknowledged h p).checkPosition_checked h p s.span.handover.narrowed
  have branches := (s.acknowledged h p).checkPosition_cases h p s.span.handover.narrowed
  rw [State.ackShrinking_beyond away]
  generalize (s.acknowledged h p).checkPosition h p s.span.handover.narrowed = v at *
  rw [st, line] at branches
  obtain ⟨⟨b, spanV⟩, positionV, requestsV, stationsV, racksV, dispatcherV⟩ := checked
  have bound : v.span.handover.bound = s.span.handover.bound := by rw [spanV, span]
  generalize e : (if s.span.handover.withdrawn = true then v else v.returnBound) = u
  have same : u.span = v.span ∧ u.line = v.line ∧ u.stations = v.stations ∧ u.racks = v.racks ∧
      u.dispatcher = v.dispatcher ∧ u.hoist h = v.hoist h := by
    rw [← e]
    split
    · exact ⟨rfl, rfl, rfl, rfl, rfl, rfl⟩
    · exact ⟨v.returnBound_span, v.returnBound_line, v.returnBound_stations, v.returnBound_racks,
        v.returnBound_dispatcher, v.returnBound_hoist h⟩
  obtain ⟨spanU, lineU, stationsU, racksU, dispatcherU, hoistU⟩ := same
  refine ⟨u.endHandover_ended.of_span (by rw [spanU, spanV, span]) (by rw [spanU, spanV, span])
    (by rw [dispatcherU, dispatcherV, dispatcher]), ?position, ?violates, ?still, ?kept, ?returned, ?stations, ?racks⟩
  case position => exact (congrArg HoistRec.position hoistU).trans ((positionV h).trans position)
  case violates =>
    intro online moving
    refine (show u.endHandover.line = v.line from lineU) ▸ ?_
    obtain ⟨good, -⟩ | ⟨-, rfl⟩ := branches
    · obtain off | standby | park | here := good
      · exact absurd off online
      · exact absurd standby moving
      · exact absurd (.inr park) away
      · exact absurd (.inl here) away
    · exact State.addCause_mem _ _
  case still =>
    intro still
    refine (show u.endHandover.line = v.line from lineU).trans ?_
    obtain ⟨-, rfl⟩ | ⟨bad, -⟩ := branches
    · exact line
    · exact absurd (still.imp id .inl) bad
  case kept =>
    intro none
    refine Eq.trans ?_ (requestsV.trans requests)
    show u.requests = v.requests
    rw [← e]
    split
    · rfl
    · next stands => rw [State.returnBound_none (bound.trans (none.resolve_left stands))]
  case returned =>
    intro k w stands hb hw
    show u.requests = _
    rw [← e, if_neg (by rw [stands]; exact Bool.false_ne_true), State.returnBound_requests_some (bound.trans hb)
      (by rw [requestsV, requests]; exact hw), requestsV, requests]
  case stations => exact stationsU.trans (stationsV.trans stations)
  case racks => exact racksU.trans (racksV.trans racks)

/-! ### In WIDENING (05 R99, 07 R140) -/

/-- The taker's position taken with the handover done (07 R140). -/
def State.widened (s : State) (h : Hoist) (p : Int) : State := (s.setHandover Handover.blank).recordPosition h p

theorem State.ackWidening_eq (taker : s.span.handover.taker = h) :
    s.ackWidening p = (s.widened h p).completeBound h s.span.handover.bound := by
  subst taker; rfl

theorem State.widened_eq (s : State) (h : Hoist) (p : Int) : s.widened h p =
    ((s.setHandover Handover.blank).notePosition h (some p)).checkPosition h p (s.spanOf h) := by
  cases h <;> rfl

/-- Out of SHRINKING a position is checked against the recorded span (07 R134). -/
theorem State.recordPosition_eq (stage : s.span.handover.stage ≠ .shrinking) :
    s.recordPosition h p = (s.notePosition h (some p)).checkPosition h p (s.spanOf h) := by
  have checked : (s.notePosition h (some p)).checkedSpan h = s.spanOf h := by
    unfold State.checkedSpan
    cases h <;> exact if_neg (fun c => stage c.1)
  unfold State.recordPosition
  dsimp only
  rw [checked]

/-- The check reads nothing of the handover that is done. -/
theorem State.widened_line (stage : s.span.handover.stage = .widening) :
    (s.widened h p).line = (s.recordPosition h p).line := by
  have st : (((s.setHandover Handover.blank).notePosition h (some p)).hoist h).st =
      ((s.notePosition h (some p)).hoist h).st := by cases h <;> rfl
  have line : ((s.setHandover Handover.blank).notePosition h (some p)).line = (s.notePosition h (some p)).line := by
    cases h <;> rfl
  rw [State.widened_eq, State.recordPosition_eq (by rw [stage]; exact nofun)]
  unfold State.checkPosition
  rw [st, line]
  split
  · exact line
  · exact State.addCause_line_of_line line

theorem State.widened_running (runs : (s.widened h p).line.st = .run ∨ (s.widened h p).line.st = .hold) :
    s.widened h p = (s.setHandover Handover.blank).notePosition h (some p) := by
  rw [State.widened_eq] at runs ⊢
  obtain ⟨-, e⟩ | ⟨-, e⟩ := State.checkPosition_cases ((s.setHandover Handover.blank).notePosition h (some p)) h p
    (s.spanOf h)
  · exact e
  · rw [e] at runs ⊢
    exact State.addCause_running rfl runs

/-- What the taker's acknowledgement makes of s before its request is given or returned (07 R134, R140). -/
structure State.Widened (s v : State) (h : Hoist) (p : Int) : Prop where
  position   : (v.hoist h).position = some p
  st         : (v.hoist h).st = (s.hoist h).st
  order      : (v.hoist h).order = (s.hoist h).order
  stage      : v.span.handover.stage = .none
  timer      : v.span.handover.timer = none
  spanA      : v.span.spanA = s.span.spanA
  spanB      : v.span.spanB = s.span.spanB
  requests   : v.requests = s.requests
  racks      : v.racks = s.racks
  recipes    : v.recipes = s.recipes
  dispatcher : v.dispatcher = s.dispatcher

theorem State.widened_widened (s : State) (h : Hoist) (p : Int) : s.Widened (s.widened h p) h p := by
  have taken := (s.setHandover Handover.blank).recordPosition_taken h p
  obtain ⟨b, span⟩ := (State.checkPosition_checked ((s.setHandover Handover.blank).notePosition h (some p)) h p
    (s.spanOf h)).span
  rw [← State.widened_eq] at span
  have noted : ((s.setHandover Handover.blank).notePosition h (some p)).span =
      { s.span with handover := Handover.blank } := by cases h <;> rfl
  rw [noted] at span
  exact ⟨taken.position, taken.st.trans (by cases h <;> rfl), (taken.order h).trans (by cases h <;> rfl),
    by rw [span]; rfl, by rw [span]; rfl, by rw [span], by rw [span], State.recordPosition_requests _ h p,
    State.recordPosition_racks _ h p, State.recordPosition_recipes _ h p, State.recordPosition_dispatcher _ h p⟩

theorem State.completeBound_passes (s : State) (h : Hoist) (bound : Option Nat) :
    s.dispatcher.passesOwed < (s.completeBound h bound).dispatcher.passesOwed := by
  have same (u : State) (e : u.dispatcher = s.dispatcher) : s.dispatcher.passesOwed < u.triggerPass.dispatcher.passesOwed :=
    e ▸ Nat.lt_succ_self u.dispatcher.passesOwed
  unfold State.completeBound
  apply same
  repeat' split
  all_goals simp

theorem State.completeBound_position (s : State) (h g : Hoist) (bound : Option Nat) :
    ((s.completeBound h bound).hoist g).position = (s.hoist g).position := by
  cases bound with
  | none => rfl
  | some k =>
    cases hq : s.requests.get k with
    | none => simp only [State.completeBound, hq]; rfl
    | some q =>
      cases hr : s.racks.get k with
      | none => simp only [State.completeBound, hq, hr]; rfl
      | some r =>
        by_cases allows : s.lineAllows r = true
        · rw [State.completeBound_given h hq hr allows, State.openOrder_eq h hq hr]
          cases h <;> cases g <;> rfl
        · rw [State.completeBound_returned h hq hr allows]
          rfl

/-- The request of a handover done is given where the line lets it go (05 R99, 06 R112, 07 R140). -/
theorem State.widened_allows {k : Nat} {w : Request} {r : Rack} (hw : s.requests.get k = some w)
    (hr : s.racks.get k = some r) (allows : (s.widened h p).lineAllows r = true) :
    (s.widened h p).completeBound h (some k) =
      (((s.setHandover Handover.blank).notePosition h (some p)).openOrder h k).triggerPass := by
  have done := s.widened_widened h p
  rw [State.completeBound_given h (done.requests ▸ hw) (done.racks ▸ hr) allows, State.widened_running]
  exact ((State.lineAllows_iff r).mp allows).imp id And.left

theorem State.widened_lineAllows_iff (stage : s.span.handover.stage = .widening) (r : Rack) :
    (s.widened h p).lineAllows r = true ↔ (s.recordPosition h p).line.st = .run ∨
      (s.recordPosition h p).line.st = .hold ∧
        ¬(r.stepIdx ≠ (s.recipes.get r.recipe).steps.length ∧
          (s.recipes.get r.recipe).steps[r.stepIdx]?.map (·.cls) = some StepClass.critical) := by
  rw [State.lineAllows_iff, State.widened_line stage, (s.widened_widened h p).recipes]

end

/-- Settles O41: SPAN by the handover that awaits it, and SPAN ACK by the stage and the position. -/
theorem spanMessages : Obligations.SpanMessages := by
  refine ⟨fun s h => ?span, fun s h p q k w r running hp hp' last hq => ?ack⟩
  case span =>
    refine s.sendSpan_eq h |>.trans ?_
    cases h <;> rfl
  case ack =>
    have run {t : State} (e : s.takeSpanAck h q (some p) = t) : exec (.spanAck h q (some p)) s = .next t.driveOutputs :=
      (exec_report_next running rfl).trans (congrArg (fun u => Host.Outcome.next (State.driveOutputs u)) e)
    have taken := State.takeSpanAck_taken (s := s) hp hp' last hq
    have within : (match s.span.handover.narrowed with
        | .empty => false | .range lo hi => decide ((lo : Int) ≤ p ∧ p ≤ (hi : Int))) =
        s.span.handover.narrowed.holds p := by
      cases s.span.handover.narrowed <;> simp [Span.holds]
    refine ⟨fun silent => run (taken.trans (if_neg silent)), fun awaited stage victim here => ?shrinks,
      fun awaited stage victim away beyond => ?violates, fun awaited stage taker => ?widens⟩
    case shrinks =>
      have here : s.span.handover.narrowed.holds p = true ∨ p = h.park := by
        rw [← within]; cases h <;> exact here
      rw [if_pos awaited, stage] at taken
      refine ⟨_, run (taken.trans (State.ackShrinking_within here)), ?_⟩
      by_cases withdrawn : s.span.handover.withdrawn = true
      · rw [if_pos withdrawn]
        obtain ⟨-, line, -, -, -, dispatcher, span⟩ := s.acknowledged_same h p
        have ended := (s.acknowledged h p).endHandover_ended.of_span (s := s) (by rw [span]) (by rw [span]) dispatcher
        have position := (s.acknowledged_hoist h p).1
        generalize s.acknowledged h p = v at *
        exact ⟨position, line, fun _ => ⟨ended.stage, ended.spanA, ended.spanB, ended.passes⟩,
          fun stands => absurd (stands ▸ withdrawn) Bool.false_ne_true⟩
      · rw [if_neg withdrawn]
        have begun := s.acknowledged_wideningBegun h p
        have other := begun.other
        rw [← (Hoist.eq_other_iff h _).mpr victim] at other
        generalize (s.acknowledged h p).beginWidening = v at *
        exact ⟨begun.position, begun.line, fun gone => absurd gone withdrawn, fun _ =>
          ⟨congrArg Handover.stage begun.record, begun.own, other, begun.sequence,
            congrArg Handover.awaited begun.record, congrArg Handover.timer begun.record,
            congrArg Handover.suspended begun.record, (congrArg Handover.bound begun.record).trans rfl, begun.queued⟩⟩
    case violates =>
      have away : ¬(s.span.handover.narrowed.holds p = true ∨ p = h.park) := by
        rintro (inside | park)
        · rw [← within] at inside; exact absurd (away ▸ inside) Bool.false_ne_true
        · exact beyond (by cases h <;> exact park)
      rw [if_pos awaited, stage] at taken
      have off := State.ackShrinking_ackBeyond away
      have ran := run taken
      generalize s.ackShrinking h p = v at *
      exact ⟨_, ran, off.position, off.stage, off.timer, off.withdrawn, off.violates, off.still, off.kept,
        off.returned k w, off.spanA, off.spanB, off.stations, off.racks, off.passes⟩
    case widens =>
      rw [if_pos awaited, stage] at taken
      have done := s.widened_widened h p
      have span := (s.widened h p).completeBound_span h s.span.handover.bound
      refine ⟨_, run (taken.trans (State.ackWidening_eq taker.symm)), ?position,
        (congrArg (·.handover.stage) span).trans done.stage, (congrArg (·.handover.timer) span).trans done.timer,
        (congrArg (·.spanA) span).trans done.spanA, (congrArg (·.spanB) span).trans done.spanB,
        ((s.widened h p).completeBound_line h _).trans (State.widened_line stage), fun none => ?unbound,
        fun bound hk hw hr => ⟨fun allowed => ?given, fun forbidden => ?returned⟩,
        done.dispatcher ▸ (s.widened h p).completeBound_passes h _⟩
      case position => exact ((s.widened h p).completeBound_position h h _).trans done.position
      case unbound =>
        rw [none]
        generalize s.widened h p = v at done
        exact ⟨done.requests, done.order⟩
      case given =>
        have allows := (State.widened_lineAllows_iff (p := p) (h := h) stage r).mpr
          (allowed.imp id (And.imp id of_decide_eq_false))
        have sent := s.sendHoist_queued h (.move (nextNumber (s.hoist h).lastOrder) w.source (s.drainOf r)
          (w.dest.getD 0)) h.channel
        simp only [true_and] at sent
        rw [bound, State.widened_allows hw hr allows, State.openOrder_eq h (q := w) (r := r)
          (by cases h <;> exact hw) (by cases h <;> exact hr)]
        cases h <;> exact ⟨Table.get_set_self _ hk _, rfl, rfl, rfl, rfl, sent⟩
      case returned =>
        have forbids : ¬(s.widened h p).lineAllows r = true := fun allows => forbidden
          (((State.widened_lineAllows_iff stage r).mp allows).imp id (And.imp id decide_eq_false))
        rw [bound, State.completeBound_returned h (done.requests ▸ hw) (done.racks ▸ hr) forbids]
        generalize s.widened h p = v at done
        exact ⟨Table.get_set_self _ hk _, done.st, done.order⟩

end Sys2Proof.Machine
end

section
/-! PROOFS. A hoist that faults: what becomes of its order's rack and request, and of the handover (05 R99, R101, 06 R113,
R123, R124, 07 R142). -/

namespace Sys2Proof.Machine

variable {s t u : State}

/-! ### FAULT and the phase timer (06 R113, R123) -/

theorem takeFault_eq (h : Hoist) (code : Nat) (s : State) : takeFault h code s =
    if (s.hoist h).st = .idle ∨ (s.hoist h).st = .busy then s.enterFault h (.reported code)
    else s.setHoist h { s.hoist h with reason := .reported code } := by
  unfold takeFault
  cases (s.hoist h).st <;> rfl

theorem exec_phaseTimerExpiry (running : s.resetHeld = false) (h : Hoist) :
    exec (.phaseTimerExpiry h) s = .next (s.expirePhase h).driveOutputs :=
  liveDriven_next running (fun s => s.expirePhase h)

theorem State.expirePhase_eq {h : Hoist} {o : Order} (ho : (s.hoist h).order = some o) : s.expirePhase h =
    if (s.hoist h).timer = some 0 ∧ (s.hoist h).suspended = false then s.enterFault h (.timeoutPhase o.phase) else s := by
  by_cases due : (s.hoist h).timer = some 0 ∧ (s.hoist h).suspended = false
  · rw [if_pos due]
    simp only [State.expirePhase, ho, due.1, due.2]
  · rw [if_neg due]
    exact State.expirePhase_runs due

theorem State.expirePhase_idle {h : Hoist} (ho : (s.hoist h).order = none) : s.expirePhase h = s := by
  simp only [State.expirePhase, ho]

/-! ### Requests that no retry touches (05 R89) -/

/-- The request of a slot, if any, is not BLOCKED. -/
def State.NotBlocked (s : State) (k : Nat) : Prop := ∀ w ∈ s.requests.get k, w.st ≠ .blocked

theorem State.retryIf_slotKept {k : Nat} (settled : s.NotBlocked k) (n : Option Nat) : s.SlotKept (s.retryIf n) k := by
  cases n with
  | none => exact ⟨rfl, rfl⟩
  | some n =>
    refine State.retryBlocked_slotKept (Bool.not_eq_true _ ▸ fun waits => ?_)
    obtain ⟨w, -, hw, -, blocked, -⟩ := State.blockedFor_iff.mp waits
    exact settled w hw blocked

/-- Two retries after one another leave such a slot alone. -/
theorem State.retryIf_retryIf_slotKept {k : Nat} (settled : s.NotBlocked k) (n m : Option Nat) :
    s.SlotKept ((s.retryIf n).retryIf m) k := by
  obtain ⟨request, rack⟩ := State.retryIf_slotKept settled n
  have settled' : (s.retryIf n).NotBlocked k := by unfold State.NotBlocked; rw [request]; exact settled
  obtain ⟨request', rack'⟩ := State.retryIf_slotKept settled' m
  exact ⟨request'.trans request, rack'.trans rack⟩

/-! ### A rack STRANDED (06 R124) -/

/-- The rack r of slot k STRANDED, before BLOCKED requests retry for its stations (06 R124). -/
def State.strandBegun (s : State) (k : Nat) (r : Rack) (lifted : Bool) : State :=
  let after := { r with st := .stranded, station := none, dest := none }
  let emptied := ((s.setRack k (some after)).emptyStation r.station).emptyStation r.dest
  (emptied.removeRequest k).rackNotice (.stranded r.stepIdx lifted) k after none

theorem State.strand_eq {k : Nat} {r : Rack} (hr : s.racks.get k = some r) (lifted : Bool) :
    s.strand k lifted = ((s.strandBegun k r lifted).retryIf r.station).retryIf r.dest := by
  simp only [State.strand, hr]
  rfl

theorem State.strand_none {k : Nat} (hr : s.racks.get k = none) (lifted : Bool) : s.strand k lifted = s := by
  simp only [State.strand, hr]

section
variable {k : Nat} {r : Rack}

theorem State.strandBegun_requests (s : State) (k : Nat) (r : Rack) (lifted : Bool) :
    (s.strandBegun k r lifted).requests = s.requests.set k none :=
  (State.removeRequest_requests_eq _ k).trans (by simp)

theorem State.strandBegun_span (s : State) (k : Nat) (r : Rack) (lifted : Bool) : (s.strandBegun k r lifted).span =
    { s.span with handover := { s.span.handover with bound := s.boundWithout k } } := by
  refine (State.removeRequest_span_eq _ k).trans ?_
  simp only [State.boundWithout, State.emptyStation_span, State.setRack_span]

theorem State.strandBegun_racks (s : State) (k : Nat) (r : Rack) (lifted : Bool) : (s.strandBegun k r lifted).racks =
    s.racks.set k (some { r with st := .stranded, station := none, dest := none }) :=
  (State.removeRequest_racks _ k).trans (by simp)

theorem State.strandBegun_empty (s : State) (k : Nat) (r : Rack) (lifted : Bool) {n : Nat}
    (hn : r.station = some n ∨ r.dest = some n) : ((s.strandBegun k r lifted).stations.get n).occ = .empty := by
  have same : (s.strandBegun k r lifted).stations =
      (((s.setRack k (some { r with st := .stranded, station := none, dest := none })).emptyStation r.station).emptyStation
        r.dest).stations := State.removeRequest_stations _ k
  rw [same, State.emptyStation_get]
  split
  · rfl
  · next dest =>
    rw [State.emptyStation_get, if_pos (hn.resolve_right dest)]

/-- What a rack that is STRANDED leaves of s: its request gone and its stations no longer its own, with the notice told
(06 R124). -/
structure State.Stranded (s t : State) (k : Nat) (r : Rack) (lifted : Bool) : Prop where
  request : t.requests.get k = none
  record  : t.racks.get k = some { r with st := .stranded, station := none, dest := none }
  station : ∀ n ∈ r.station, (t.stations.get n).occ ≠ .occupied k
  dest    : ∀ n ∈ r.dest, (t.stations.get n).occ ≠ .reservedRack k
  told    : t.Told (.stranded r.stepIdx lifted) k { r with st := .stranded }

theorem State.strand_stranded (hr : s.racks.get k = some r) (lifted : Bool) :
    s.Stranded (s.strand k lifted) k r lifted := by
  have hk := Table.lt_of_get_some hr
  have gone : (s.strandBegun k r lifted).requests.get k = none := by
    rw [State.strandBegun_requests, Table.get_set_self _ hk]
  have retried := (State.Retried.retryIf (s.strandBegun k r lifted) r.station).trans (.retryIf _ r.dest)
  obtain ⟨request, rack⟩ := State.retryIf_retryIf_slotKept (s := s.strandBegun k r lifted) (k := k)
    (fun w hw => absurd (gone.symm.trans hw) nofun) r.station r.dest
  rw [State.strand_eq hr]
  refine ⟨request.trans gone, rack.trans ?_, fun n hn occ => ?_, fun n hn occ => ?_, ?_⟩
  · rw [State.strandBegun_racks, Table.get_set_self _ hk]
  · have before := retried.occupied occ
    rw [s.strandBegun_empty k r lifted (.inl hn)] at before
    cases before
  · have before := retried.reserved occ gone
    rw [s.strandBegun_empty k r lifted (.inr hn)] at before
    cases before
  · have told : (s.strandBegun k r lifted).Told (.stranded r.stepIdx lifted) k
        { r with st := .stranded, station := none, dest := none } := State.told_rackNotice _ _ _ _ _
    exact (told.mono (State.Carries.retried retried).notices).of_same rfl rfl rfl

/-- A request that is not BLOCKED, of another slot, is as it was (05 R89, 06 R124). -/
theorem State.strand_request_ne {j : Nat} (hj : j ≠ k) (settled : s.NotBlocked j) (lifted : Bool) :
    (s.strand k lifted).requests.get j = s.requests.get j := by
  cases hr : s.racks.get k with
  | none => rw [State.strand_none hr]
  | some r =>
    have begun : (s.strandBegun k r lifted).requests.get j = s.requests.get j := by
      rw [State.strandBegun_requests, Table.get_set_ne _ hj.symm]
    have settled' : (s.strandBegun k r lifted).NotBlocked j := by unfold State.NotBlocked; rw [begun]; exact settled
    rw [State.strand_eq hr]
    exact (State.retryIf_retryIf_slotKept settled' _ _).1.trans begun

theorem State.strand_span (s : State) (k : Nat) (lifted : Bool) : (s.strand k lifted).span = s.span ∨
    (s.strand k lifted).span = { s.span with handover := { s.span.handover with bound := s.boundWithout k } } := by
  cases hr : s.racks.get k with
  | none => exact .inl (congrArg State.span (State.strand_none hr lifted))
  | some r =>
    right
    rw [State.strand_eq hr, State.retryIf_span, State.retryIf_span, State.strandBegun_span]

end

/-! ### An order closed by its fault (06 R124) -/

/-- The rack of an order stays where it is when its hoist faults: no LIFT was sent, or the seat input still shows it
(06 R124). -/
def State.KeepsRack (s : State) (o : Order) : Prop :=
  o.phase = .sent ∨ o.phase = .accepted ∨ o.phase = .poised ∨
    o.phase = .released ∧ (s.stations.get o.source).sensing = true ∧ s.level o.source = true

section
variable {o : Order}

theorem State.faultClose_kept (kept : s.KeepsRack o) : s.faultClose o = s.returnRequest o.slot := by
  unfold State.faultClose
  obtain e | e | e | ⟨e, sensing, level⟩ := kept <;> rw [e]
  simp only [sensing, level, Bool.and_self, if_true]

theorem State.faultClose_stranded (lost : ¬s.KeepsRack o) :
    s.faultClose o = s.strand o.slot (decide (o.phase = .lifted)) := by
  unfold State.faultClose
  cases e : o.phase with
  | sent => exact absurd (.inl e) lost
  | accepted => exact absurd (.inr (.inl e)) lost
  | poised => exact absurd (.inr (.inr (.inl e))) lost
  | lifted => rfl
  | released =>
    refine if_neg fun seated => lost (.inr (.inr (.inr ⟨e, ?_⟩)))
    rwa [Bool.and_eq_true] at seated

theorem State.returnRequest_ne {j k : Nat} (hj : j ≠ k) : (s.returnRequest k).requests.get j = s.requests.get j := by
  cases hq : s.requests.get k with
  | none => rw [State.returnRequest_none hq]
  | some q => rw [State.returnRequest_some hq]; exact Table.get_set_ne _ hj.symm _

theorem State.faultClose_request_ne {j : Nat} (hj : j ≠ o.slot) (settled : s.NotBlocked j) :
    (s.faultClose o).requests.get j = s.requests.get j := by
  by_cases kept : s.KeepsRack o
  · rw [State.faultClose_kept kept, State.returnRequest_ne hj]
  · rw [State.faultClose_stranded kept, State.strand_request_ne hj settled]

theorem State.faultClose_span (s : State) (o : Order) : (s.faultClose o).span = s.span ∨
    (s.faultClose o).span = { s.span with handover := { s.span.handover with bound := s.boundWithout o.slot } } := by
  by_cases kept : s.KeepsRack o
  · rw [State.faultClose_kept kept]; exact .inl (s.returnRequest_span o.slot)
  · rw [State.faultClose_stranded kept]; exact s.strand_span o.slot _

/-- Hoist h in FAULT, its order taken from it but not closed yet (06 R123). -/
def State.orderTaken (s : State) (h : Hoist) (reason : FaultReason) : State :=
  s.setHoist h { s.hoist h with st := .fault, reason := reason, order := none, timer := none }

theorem State.faultBegun_some {h : Hoist} (ho : (s.hoist h).order = some o) (reason : FaultReason) :
    s.faultBegun h reason = (s.orderTaken h reason).faultClose o := by
  simp only [State.faultBegun, State.faultCloseOpen, State.setHoist_hoist, ho, State.setHoist_setHoist]
  rfl

theorem State.faultBegun_none {h : Hoist} (ho : (s.hoist h).order = none) (reason : FaultReason) :
    s.faultBegun h reason = s.setHoist h { s.hoist h with st := .fault, reason := reason } := by
  simp only [State.faultBegun, State.faultCloseOpen, State.setHoist_hoist, ho]

theorem State.orderTaken_same (s : State) (h : Hoist) (reason : FaultReason) :
    (s.orderTaken h reason).requests = s.requests ∧ (s.orderTaken h reason).racks = s.racks ∧
      (s.orderTaken h reason).stations = s.stations ∧ (s.orderTaken h reason).span = s.span ∧
      (s.orderTaken h reason).io = s.io := by
  cases h <;> exact ⟨rfl, rfl, rfl, rfl, rfl⟩

/-- The closing of an order by its fault takes nothing of span control but a bound request (05 R102, 07 R135). -/
theorem State.faultBegun_span (s : State) (h : Hoist) (reason : FaultReason) :
    ∃ b, (s.faultBegun h reason).span = { s.span with handover := { s.span.handover with bound := b } } ∧
      ∀ k, s.span.handover.bound = some k → (∀ y ∈ (s.hoist h).order, y.slot ≠ k) → b = some k := by
  cases ho : (s.hoist h).order with
  | none =>
    rw [State.faultBegun_none ho, State.setHoist_span]
    exact ⟨s.span.handover.bound, rfl, fun k bound _ => bound⟩
  | some o =>
    obtain ⟨-, -, -, span, -⟩ := s.orderTaken_same h reason
    rw [State.faultBegun_some ho]
    obtain e | e := (s.orderTaken h reason).faultClose_span o <;> rw [e, span]
    · exact ⟨s.span.handover.bound, rfl, fun k bound _ => bound⟩
    · refine ⟨_, rfl, fun k bound others => ?_⟩
      rw [State.boundWithout, span, bound]
      exact if_neg fun same => others o rfl (Option.some.inj same).symm

theorem State.faultBegun_request {h : Hoist} {k : Nat} {w : Request} (hw : s.requests.get k = some w)
    (settled : w.st ≠ .blocked) (others : ∀ y ∈ (s.hoist h).order, y.slot ≠ k) (reason : FaultReason) :
    (s.faultBegun h reason).requests.get k = some w := by
  cases ho : (s.hoist h).order with
  | none => rw [State.faultBegun_none ho, State.setHoist_requests, hw]
  | some o =>
    obtain ⟨requests, -⟩ := s.orderTaken_same h reason
    have settled' : (s.orderTaken h reason).NotBlocked k := fun y hy => by
      rw [requests, hw] at hy
      obtain rfl := Option.some.inj hy
      exact settled
    rw [State.faultBegun_some ho, State.faultClose_request_ne (others o ho).symm settled', requests, hw]

end

/-! ### The handover of a hoist that faults (07 R142) -/

section
variable {h : Hoist}

/-- The taker is withdrawn by its fault: the victim is still SHRINKING and not in FAULT (07 R142). -/
def State.Withdraws (s : State) (h : Hoist) : Prop :=
  s.span.handover.stage = .shrinking ∧ h = s.span.handover.taker ∧ (s.hoist h.other).st ≠ .fault

theorem State.handoverFault_none (stage : s.span.handover.stage = .none) : s.handoverFault h = s := if_pos stage

theorem State.handoverFault_withdraws (w : s.Withdraws h) : s.handoverFault h =
    (s.returnBound.setHandover { s.span.handover with withdrawn := true, bound := none }).triggerPass := by
  obtain ⟨stage, taker, victim⟩ := w
  have stands : s.span.handover.stage ≠ .none := by rw [stage]; exact nofun
  unfold State.handoverFault
  dsimp only
  rw [if_neg stands, if_pos ⟨stage, taker, by rw [← taker]; exact victim⟩, State.returnBound_span]

theorem State.handoverFault_abandons (stage : s.span.handover.stage ≠ .none) (w : ¬s.Withdraws h) :
    s.handoverFault h = s.abandon := by
  unfold State.handoverFault
  dsimp only
  rw [if_neg stage, if_neg]
  rintro ⟨stage, taker, victim⟩
  exact w ⟨stage, taker, by rw [taker]; exact victim⟩

theorem State.returnBound_request (s : State) (k : Nat) : s.returnBound.requests.get k =
    if s.span.handover.bound = some k then (s.requests.get k).map (fun q => { q with st := .ready })
    else s.requests.get k := by
  cases hb : s.span.handover.bound with
  | none => rw [State.returnBound_none hb]; rfl
  | some j =>
    have returned : s.returnBound = s.returnRequest j := by simp only [State.returnBound, hb]
    rw [returned]
    by_cases hj : j = k
    · subst hj
      rw [if_pos rfl]
      cases hq : s.requests.get j with
      | none => rw [State.returnRequest_none hq, hq]; rfl
      | some q =>
        rw [State.returnRequest_some hq]
        exact Table.get_set_self _ (Table.lt_of_get_some hq) _
    · rw [if_neg (fun e => hj (Option.some.inj e)), State.returnRequest_ne (Ne.symm hj)]

theorem State.handoverFault_requests (s : State) (h : Hoist) : (s.handoverFault h).requests =
    if s.span.handover.stage = .none then s.requests else s.returnBound.requests := by
  by_cases stage : s.span.handover.stage = .none
  · rw [if_pos stage, State.handoverFault_none stage]
  · rw [if_neg stage]
    by_cases w : s.Withdraws h
    · rw [State.handoverFault_withdraws w]; rfl
    · rw [State.handoverFault_abandons stage w]; rfl

/-- A request returned already, or gone, is not changed by the end of the handover (05 R101). -/
theorem State.handoverFault_request {k : Nat} (settled : ∀ w ∈ s.requests.get k, w.st = .ready) :
    (s.handoverFault h).requests.get k = s.requests.get k := by
  rw [State.handoverFault_requests]
  split
  · rfl
  · rw [State.returnBound_request]
    split
    · cases hq : s.requests.get k with
      | none => rfl
      | some q =>
        have ready := settled q hq
        cases q
        cases ready
        rfl
    · rfl

theorem State.handoverFault_spans (s : State) (h : Hoist) :
    (s.handoverFault h).span.spanA = s.span.spanA ∧ (s.handoverFault h).span.spanB = s.span.spanB := by
  by_cases stage : s.span.handover.stage = .none
  · rw [State.handoverFault_none stage]; exact ⟨rfl, rfl⟩
  · have same := s.returnBound_span
    by_cases w : s.Withdraws h
    · rw [State.handoverFault_withdraws w]
      exact ⟨congrArg (·.spanA) same, congrArg (·.spanB) same⟩
    · rw [State.handoverFault_abandons stage w]
      exact ⟨congrArg (·.spanA) same, congrArg (·.spanB) same⟩

theorem State.handoverFault_passes (stage : s.span.handover.stage ≠ .none) :
    s.dispatcher.passesOwed < (s.handoverFault h).dispatcher.passesOwed := by
  have returned : s.dispatcher = s.returnBound.dispatcher := s.returnBound_dispatcher.symm
  rw [returned]
  by_cases w : s.Withdraws h
  · rw [State.handoverFault_withdraws w]; exact Nat.lt_succ_self _
  · rw [State.handoverFault_abandons stage w]; exact Nat.lt_succ_self _

end

/-! ### The whole fault (06 R123) -/

section
variable {h : Hoist} {reason : FaultReason}

/-- The hoist's cause added, before the handover (06 R123). -/
def State.faultCaused (s : State) (h : Hoist) (reason : FaultReason) : State :=
  (s.faultBegun h reason).addCause h.faultCause

theorem State.faultCaused_span (s : State) (h : Hoist) (reason : FaultReason) :
    (s.faultCaused h reason).span = (s.faultBegun h reason).span :=
  State.addCause_span_eq (Hoist_faultCause_isHalt h)

theorem State.faultCaused_requests (s : State) (h : Hoist) (reason : FaultReason) :
    (s.faultCaused h reason).requests = (s.faultBegun h reason).requests := State.addCause_requests _ _

theorem State.faultCaused_stage (s : State) (h : Hoist) (reason : FaultReason) :
    (s.faultCaused h reason).span.handover.stage = s.span.handover.stage := by
  obtain ⟨b, span, -⟩ := s.faultBegun_span h reason
  rw [State.faultCaused_span, span]

theorem State.faultCaused_other (s : State) (h : Hoist) (reason : FaultReason) :
    (s.faultCaused h reason).hoist h.other = s.hoist h.other := by
  rw [State.faultCaused, State.addCause_hoist_eq (Hoist_faultCause_isHalt h), State.faultBegun,
    State.faultCloseOpen_hoist, if_neg (fun c => Hoist_other_ne h c.1), State.setHoist_other]

theorem State.faultCaused_withdraws (s : State) (h : Hoist) (reason : FaultReason) :
    (s.faultCaused h reason).Withdraws h ↔ s.Withdraws h := by
  obtain ⟨b, span, -⟩ := s.faultBegun_span h reason
  unfold State.Withdraws
  rw [State.faultCaused_other, State.faultCaused_span, span]

theorem State.enterFault_withdraws (w : s.Withdraws h) : (s.enterFault h reason).span.handover =
    { s.span.handover with withdrawn := true, bound := none } := by
  obtain ⟨b, span, -⟩ := s.faultBegun_span h reason
  rw [State.enterFault_eq]
  refine (congrArg (·.span.handover) (State.handoverFault_withdraws ((s.faultCaused_withdraws h reason).mpr w))).trans ?_
  show ({ (s.faultCaused h reason).span.handover with withdrawn := true, bound := none } : Handover) = _
  rw [State.faultCaused_span, span]

theorem State.enterFault_abandons (stage : s.span.handover.stage ≠ .none) (w : ¬s.Withdraws h) :
    (s.enterFault h reason).span.handover = Handover.blank := by
  rw [State.enterFault_eq]
  exact congrArg (·.span.handover) (State.handoverFault_abandons (s := s.faultCaused h reason)
    (by rw [State.faultCaused_stage]; exact stage) (mt (s.faultCaused_withdraws h reason).mp w))

theorem State.enterFault_handover (s : State) (h : Hoist) (reason : FaultReason) :
    (s.enterFault h reason).span.handover.stage = .none ∨
      (s.enterFault h reason).span.handover.stage = .shrinking ∧
        (s.enterFault h reason).span.handover.withdrawn = true ∧ (s.enterFault h reason).span.handover.taker = h := by
  by_cases stage : s.span.handover.stage = .none
  · left
    rw [State.enterFault_eq]
    have none := (s.faultCaused_stage h reason).trans stage
    exact (congrArg (·.span.handover.stage) (State.handoverFault_none none)).trans none
  · by_cases w : s.Withdraws h
    · rw [State.enterFault_withdraws w]
      exact .inr ⟨w.1, rfl, w.2.1.symm⟩
    · rw [State.enterFault_abandons stage w]
      exact .inl rfl

theorem State.enterFault_spans (s : State) (h : Hoist) (reason : FaultReason) :
    (s.enterFault h reason).span.spanA = s.span.spanA ∧ (s.enterFault h reason).span.spanB = s.span.spanB := by
  obtain ⟨b, span, -⟩ := s.faultBegun_span h reason
  have same := (s.faultCaused_span h reason).trans span
  obtain ⟨spanA, spanB⟩ := (s.faultCaused h reason).handoverFault_spans h
  exact ⟨spanA.trans (congrArg (·.spanA) same), spanB.trans (congrArg (·.spanB) same)⟩

theorem State.enterFault_passes (stage : s.span.handover.stage ≠ .none) :
    s.dispatcher.passesOwed < (s.enterFault h reason).dispatcher.passesOwed := by
  have carried : s.Carries (s.faultCaused h reason) :=
    ((State.Carries.of_same (by simp) (by simp) (by simp) : s.Carries (s.setHoist h _)).trans
      (.faultCloseOpen _ h)).trans (.addCause _ (Hoist_faultCause_isHalt h))
  exact carried.passes.trans_lt (State.handoverFault_passes (by rw [State.faultCaused_stage]; exact stage))

/-- The BOUND request of the handover returns to READY, unless it is that of the order the fault closes (05 R99, R101). -/
theorem State.enterFault_bound {k : Nat} {w : Request} (stage : s.span.handover.stage ≠ .none)
    (bound : s.span.handover.bound = some k) (hw : s.requests.get k = some w) (settled : w.st ≠ .blocked)
    (others : ∀ y ∈ (s.hoist h).order, y.slot ≠ k) :
    (s.enterFault h reason).requests.get k = some { w with st := .ready } := by
  obtain ⟨b, span, still⟩ := s.faultBegun_span h reason
  have bound' : (s.faultCaused h reason).span.handover.bound = some k := by
    rw [State.faultCaused_span, span]; exact still k bound others
  refine (congrArg (fun x : Table (Option Request) 24 => x.get k) ((s.faultCaused h reason).handoverFault_requests h)).trans
    ?_
  rw [State.faultCaused_stage, if_neg stage, State.returnBound_request, if_pos bound', State.faultCaused_requests,
    State.faultBegun_request hw settled others]
  rfl

theorem State.enterFault_line (empty : s.line.causes = []) :
    (s.enterFault h reason).line.st = if s.line.st = .run then .hold else s.line.st := by
  have same : (s.faultBegun h reason).line = s.line := by
    rw [State.faultBegun, State.faultCloseOpen_line, State.setHoist_line]
  have fresh : h.faultCause ∉ (s.faultBegun h reason).line.causes := by rw [same, empty]; exact List.not_mem_nil
  rw [State.enterFault_eq, State.handoverFault_line, State.addCause, if_neg fresh]
  refine (congrArg Line.st (State.moveFor_line (Hoist_faultCause_isHalt h))).trans ?_
  show (if (s.faultBegun h reason).line.st = .run then _ else _ : Line).st = _
  rw [same]
  split <;> rfl

/-- What the fault leaves of the hoist's own record (06 R123). -/
theorem State.enterFault_record (s : State) (h : Hoist) (reason : FaultReason) :
    ((s.enterFault h reason).hoist h).position = (s.hoist h).position ∧
      ((s.hoist h).order ≠ none → ((s.enterFault h reason).hoist h).timer = none) := by
  rw [State.enterFault_hoist, State.faultBegun, State.faultCloseOpen_hoist, State.setHoist_hoist]
  split
  · exact ⟨rfl, fun _ => rfl⟩
  · next not => exact ⟨rfl, fun ordered => absurd ⟨rfl, ordered⟩ not⟩

section
variable {o : Order} {q : Request} {r : Rack}

theorem State.enterFault_tables (s : State) (h : Hoist) (reason : FaultReason) :
    (s.enterFault h reason).racks = (s.faultBegun h reason).racks ∧
      (s.enterFault h reason).stations = (s.faultBegun h reason).stations := by
  rw [State.enterFault_eq, State.handoverFault_racks, State.addCause_racks, State.handoverFault_stations,
    State.addCause_stations]
  exact ⟨rfl, rfl⟩

/-- An order whose rack stays returns its request (06 R124). -/
theorem State.enterFault_kept (ho : (s.hoist h).order = some o) (hq : s.requests.get o.slot = some q)
    (kept : s.KeepsRack o) : (s.enterFault h reason).requests.get o.slot = some { q with st := .ready } ∧
      (s.enterFault h reason).racks = s.racks ∧ (s.enterFault h reason).stations = s.stations := by
  obtain ⟨requests, racks, stations, -, io⟩ := s.orderTaken_same h reason
  have kept' : (s.orderTaken h reason).KeepsRack o := by
    unfold State.KeepsRack State.level; rw [stations, io]; exact kept
  have begun := State.faultBegun_some ho reason
  rw [State.faultClose_kept kept', State.returnRequest_some (by rw [requests]; exact hq)] at begun
  have ready : (s.faultCaused h reason).requests.get o.slot = some { q with st := .ready } := by
    rw [State.faultCaused_requests, begun]
    exact Table.get_set_self _ (Table.lt_of_get_some hq) _
  obtain ⟨racksT, stationsT⟩ := s.enterFault_tables h reason
  rw [racksT, stationsT, begun]
  refine ⟨(State.handoverFault_request (s := s.faultCaused h reason) fun w hw => ?_).trans ready, racks, stations⟩
  obtain rfl := Option.some.inj (ready.symm.trans hw)
  rfl

/-- An order whose rack does not stay strands it (06 R124). -/
theorem State.enterFault_stranded (ho : (s.hoist h).order = some o) (hr : s.racks.get o.slot = some r)
    (lost : ¬s.KeepsRack o) : s.Stranded (s.enterFault h reason) o.slot r (decide (o.phase = .lifted)) := by
  obtain ⟨-, racks, stations, -, io⟩ := s.orderTaken_same h reason
  have lost' : ¬(s.orderTaken h reason).KeepsRack o := by
    unfold State.KeepsRack State.level; rw [stations, io]; exact lost
  have begun := State.faultBegun_some ho reason
  rw [State.faultClose_stranded lost'] at begun
  obtain ⟨request, record, station, dest, told⟩ := State.strand_stranded (s := s.orderTaken h reason)
    (by rw [racks]; exact hr) (decide (o.phase = .lifted))
  rw [← begun] at request record station dest told
  obtain ⟨racksT, stationsT⟩ := s.enterFault_tables h reason
  have gone : (s.faultCaused h reason).requests.get o.slot = none := by rw [State.faultCaused_requests]; exact request
  refine ⟨?_, racksT ▸ record, stationsT ▸ station, stationsT ▸ dest, told.mono ?_⟩
  · exact (State.handoverFault_request (s := s.faultCaused h reason)
      fun w hw => absurd (gone.symm.trans hw) nofun).trans gone
  · exact ((State.Carries.addCause _ (Hoist_faultCause_isHalt h)).trans (.handoverFault _ h)).notices

end

end

/-- Settles O47: the fault by the hoist's state, and in it the order by its phase and the handover by its stage. -/
theorem hoistFaults : Obligations.HoistFaults := by
  refine ⟨fun s h code o running => ⟨?fault, fun ho => ?timer, fun ho => ?idle⟩, fun s h reason o q r => ?enters⟩
  case fault =>
    rw [exec_report_next running rfl]
    exact congrArg (fun t => Host.Outcome.next (State.driveOutputs t)) (takeFault_eq h code s)
  case timer => rw [exec_phaseTimerExpiry running, State.expirePhase_eq ho]
  case idle => rw [exec_phaseTimerExpiry running, State.expirePhase_idle ho]
  case enters =>
    obtain ⟨st, order, why⟩ := s.enterFault_self h reason
    obtain ⟨position, timer⟩ := s.enterFault_record h reason
    obtain ⟨spanA, spanB⟩ := s.enterFault_spans h reason
    refine ⟨st, why, position, ?cause, State.enterFault_line, s.enterFault_handover h reason,
      ⟨State.enterFault_withdraws, State.enterFault_abandons, fun stage => ⟨State.enterFault_passes stage,
        fun k _ w bound hw settled others => ?bound⟩⟩, spanA, spanB, s.enterFault_tick h reason,
      s.enterFault_baths h reason, fun ho hk hr hq => ⟨order, timer (by rw [ho]; exact nofun),
        State.enterFault_kept ho hq, fun lost => ?stranded⟩⟩
    case cause =>
      have added := (s.mem_causes_enterFault h reason h.faultCause).mpr (.inl rfl)
      cases h <;> exact added
    case bound => exact State.enterFault_bound stage bound hw (by rw [settled]; exact nofun) others
    case stranded =>
      have gone := State.enterFault_stranded (reason := reason) ho hr lost
      exact ⟨gone.request, ⟨_, gone.record, rfl⟩, gone.station, gone.dest, gone.told⟩

end Sys2Proof.Machine
end

section
/-! PROOFS. The laws of the hoists, kept by every shared operation: timers suspended exactly in HALT (06 R107, R127, 07
R143), an open order exactly while BUSY (06 R108), timing tables in range (06 R109). -/

namespace Sys2Proof.Machine

variable {s t u : State}

/-! ### The laws from one state to another -/

/-- A hoist record x replaced by y keeps its laws, while the line is in HALT or not. -/
structure HoistRec.KeepsLaws (halted : Prop) (x y : HoistRec) : Prop where
  suspension : (x.suspended = true ↔ halted) → (y.suspended = true ↔ halted)
  order      : x.OrderFits → y.OrderFits
  timing     : Timing.InRange x.timing → Timing.InRange y.timing

/-- A handover record x replaced by y keeps its timer suspended exactly in HALT. -/
def Handover.KeepsSuspension (halted : Prop) (x y : Handover) : Prop :=
  (x.timer ≠ none → (x.suspended = true ↔ halted)) → y.timer ≠ none → (y.suspended = true ↔ halted)

/-- What keeps the laws of the hoists from s to t (06 R107, R108, R109, R127, 07 R143). -/
structure State.KeepsHoistLaws (s t : State) : Prop where
  suspension : s.SuspendedInHalt → t.SuspendedInHalt
  orders     : s.OrdersFit → t.OrdersFit
  timings    : s.TimingsInRange → t.TimingsInRange

namespace HoistRec.KeepsLaws

variable {halted : Prop} {x : HoistRec}

theorem refl (x : HoistRec) : HoistRec.KeepsLaws halted x x := ⟨id, id, id⟩

/-- Timer and other fields that no law reads. -/
theorem of_same {y : HoistRec} (suspended : y.suspended = x.suspended) (st : y.st = x.st)
    (order : y.order.isSome = x.order.isSome) (timing : y.timing = x.timing) : HoistRec.KeepsLaws halted x y :=
  ⟨by rw [suspended]; exact id, by unfold HoistRec.OrderFits; rw [st, order]; exact id, by rw [timing]; exact id⟩

/-- An open order changed, and open still. -/
theorem reordered {o : Order} (ho : x.order = some o) (o' : Order) :
    HoistRec.KeepsLaws halted x { x with order := some o' } :=
  of_same rfl rfl (by rw [ho]; rfl) rfl

/-- An order closed: the hoist ends in another state than BUSY. -/
theorem closed {y : HoistRec} (suspended : y.suspended = x.suspended) (st : y.st ≠ .busy) (order : y.order = none)
    (timing : y.timing = x.timing) : HoistRec.KeepsLaws halted x y :=
  ⟨by rw [suspended]; exact id, fun _ => by simp [HoistRec.OrderFits, order, st], by rw [timing]; exact id⟩

/-- A hoist that is not BUSY goes to another state than BUSY. -/
theorem idling {y : HoistRec} (suspended : y.suspended = x.suspended) (was : x.st ≠ .busy) (st : y.st ≠ .busy)
    (order : y.order = x.order) (timing : y.timing = x.timing) : HoistRec.KeepsLaws halted x y :=
  ⟨by rw [suspended]; exact id, by simp [HoistRec.OrderFits, order, st, was], by rw [timing]; exact id⟩

/-- A phase timer set, suspended in HALT (06 R113, R127). -/
theorem timed [Decidable halted] {y : HoistRec} (suspended : y.suspended = decide halted)
    (order : x.OrderFits → y.OrderFits) (timing : y.timing = x.timing) : HoistRec.KeepsLaws halted x y :=
  ⟨fun _ => by rw [suspended, decide_eq_true_eq], order, by rw [timing]; exact id⟩

end HoistRec.KeepsLaws

namespace State.KeepsHoistLaws

theorem refl (s : State) : s.KeepsHoistLaws s := ⟨id, id, id⟩

theorem trans (h : s.KeepsHoistLaws t) (g : t.KeepsHoistLaws u) : s.KeepsHoistLaws u :=
  ⟨g.suspension ∘ h.suspension, g.orders ∘ h.orders, g.timings ∘ h.timings⟩

/-- A line that stays in HALT or out of it, with each record's laws kept. -/
theorem of_records (line : t.line.st = .halt ↔ s.line.st = .halt)
    (a : HoistRec.KeepsLaws (s.line.st = .halt) s.hoistA t.hoistA)
    (b : HoistRec.KeepsLaws (s.line.st = .halt) s.hoistB t.hoistB)
    (handover : Handover.KeepsSuspension (s.line.st = .halt) s.span.handover t.span.handover) : s.KeepsHoistLaws t where
  suspension h := by
    obtain ⟨ha, hb, hv⟩ := h
    unfold State.SuspendedInHalt
    rw [line]
    exact ⟨a.suspension ha, b.suspension hb, handover hv⟩
  orders h := ⟨a.order h.1, b.order h.2⟩
  timings h := ⟨a.timing h.1, b.timing h.2⟩

/-- A change of the handover's record alone, or of fields that no law reads. -/
theorem of_handover (same : t.line = s.line ∧ t.hoistA = s.hoistA ∧ t.hoistB = s.hoistB)
    (handover : Handover.KeepsSuspension (s.line.st = .halt) s.span.handover t.span.handover) :
    s.KeepsHoistLaws t := by
  obtain ⟨line, a, b⟩ := same
  exact of_records (by rw [line]) (a ▸ .refl _) (b ▸ .refl _) handover

/-- A handover whose timer and suspended mark stay. -/
theorem of_timer (same : t.line = s.line ∧ t.hoistA = s.hoistA ∧ t.hoistB = s.hoistB)
    (timer : t.span.handover.timer = s.span.handover.timer)
    (suspended : t.span.handover.suspended = s.span.handover.suspended) : s.KeepsHoistLaws t :=
  of_handover same (by unfold Handover.KeepsSuspension; rw [timer, suspended]; exact id)

/-- A change of fields that no law reads. -/
theorem of_same (same : t.line = s.line ∧ t.hoistA = s.hoistA ∧ t.hoistB = s.hoistB ∧ t.span = s.span) :
    s.KeepsHoistLaws t := by
  obtain ⟨line, a, b, span⟩ := same
  exact of_timer ⟨line, a, b⟩ (by rw [span]) (by rw [span])

/-- A change that is made or not. -/
theorem ite {c : Prop} [Decidable c] (h : s.KeepsHoistLaws t) : s.KeepsHoistLaws (if c then t else s) := by
  split
  · exact h
  · exact refl s

/-- Turns of a loop that each keep the laws. -/
theorem foldl {β : Type} {f : State → β → State} (hf : ∀ (u : State) b, u.KeepsHoistLaws (f u b)) (l : List β)
    (s : State) :
    s.KeepsHoistLaws (l.foldl f s) :=
  List.foldlRecOn l f (motive := s.KeepsHoistLaws) (refl s) fun u hu b _ => hu.trans (hf u b)

/-- One hoist's record written. -/
theorem setHoist (s : State) (h : Hoist) {x : HoistRec} (k : HoistRec.KeepsLaws (s.line.st = .halt) (s.hoist h) x) :
    s.KeepsHoistLaws (s.setHoist h x) := by
  cases h
  · exact of_records Iff.rfl k (.refl _) id
  · exact of_records Iff.rfl (.refl _) k id

theorem setTimer (s : State) (h : Hoist) (v : Nat) : s.KeepsHoistLaws (s.setTimer h v) :=
  setHoist s h (.timed rfl id rfl)

theorem notePosition (s : State) (h : Hoist) (p : Option Int) : s.KeepsHoistLaws (s.notePosition h p) :=
  setHoist s h (.of_same rfl rfl rfl rfl)

theorem stray (s : State) (h : Hoist) : s.KeepsHoistLaws (s.stray h) := setHoist s h (.of_same rfl rfl rfl rfl)

theorem keepRefusal (s : State) (h : Hoist) (why : Nat) : s.KeepsHoistLaws (s.keepRefusal h why) :=
  setHoist s h (.of_same rfl rfl rfl rfl)

theorem sendHoist (s : State) (h : Hoist) (m : OutMsg) : s.KeepsHoistLaws (s.sendHoist h m) :=
  of_same ⟨rfl, rfl, rfl, rfl⟩

theorem triggerPass (s : State) : s.KeepsHoistLaws s.triggerPass := of_same ⟨rfl, rfl, rfl, rfl⟩

/-! ### Causes (09 R160, R167) -/

/-- The move into HALT suspends what runs (06 R127, 07 R143). -/
theorem enterHalt (s : State) : s.KeepsHoistLaws s.enterHalt where
  suspension _ := ⟨⟨fun _ => rfl, fun _ => rfl⟩, ⟨fun _ => rfl, fun _ => rfl⟩,
    fun runs => ⟨fun _ => rfl, fun _ => Option.isSome_iff_ne_none.mpr runs⟩⟩
  orders := id
  timings := id

theorem moveFor (s : State) (c : Cause) : s.KeepsHoistLaws (s.moveFor c) := by
  unfold State.moveFor
  split
  · next run _ => exact of_records (by simp [run]) (.refl _) (.refl _) id
  · exact enterHalt s
  · exact enterHalt s
  · exact refl s

theorem addCause (s : State) (c : Cause) : s.KeepsHoistLaws (s.addCause c) := by
  unfold State.addCause
  split
  · exact refl s
  · have entered : s.KeepsHoistLaws { s with line := { s.line with causes := c.addTo s.line.causes } } :=
      of_records Iff.rfl (.refl _) (.refl _) id
    exact (entered.trans (moveFor _ c)).trans (of_same ⟨rfl, rfl, rfl, rfl⟩)

theorem checkPosition (s : State) (h : Hoist) (p : Int) (sp : Span) : s.KeepsHoistLaws (s.checkPosition h p sp) := by
  obtain ⟨-, e⟩ | ⟨-, e⟩ := s.checkPosition_cases h p sp <;> rw [e]
  · exact refl s
  · exact addCause s _

theorem recordPosition (s : State) (h : Hoist) (p : Int) : s.KeepsHoistLaws (s.recordPosition h p) :=
  (notePosition s h _).trans (checkPosition _ h p _)

theorem evaluateBound (s : State) : s.KeepsHoistLaws s.evaluateBound :=
  foldl (fun u c => ite (addCause u c)) Cause.all s

/-! ### Spans and the handover (07 R132, R135 to R143) -/

theorem setHandover (s : State) {hv : Handover}
    (k : Handover.KeepsSuspension (s.line.st = .halt) s.span.handover hv) : s.KeepsHoistLaws (s.setHandover hv) :=
  of_handover ⟨rfl, rfl, rfl⟩ k

/-- A record without an acknowledgement timer has nothing to suspend. -/
theorem setHandover_idle (s : State) {hv : Handover} (none : hv.timer = Option.none) :
    s.KeepsHoistLaws (s.setHandover hv) := setHandover s fun _ runs => absurd none runs

theorem setSpan (s : State) (h : Hoist) (sp : Span) : s.KeepsHoistLaws (s.setSpan h sp) :=
  of_timer (by simp) (by simp) (by simp)

theorem sendSpan (s : State) (h : Hoist) : s.KeepsHoistLaws (s.sendSpan h) := by
  rw [State.sendSpan_eq]
  split <;> exact of_timer (by simp) (by simp) (by simp)

theorem awaitAck (s : State) (h : Hoist) : s.KeepsHoistLaws (s.awaitAck h) :=
  setHandover s fun _ _ => decide_eq_true_iff

theorem beginShrinking (s : State) : s.KeepsHoistLaws s.beginShrinking :=
  (((setHandover s (hv := { s.span.handover with stage := .shrinking }) id).trans
    (setSpan _ _ _)).trans (sendSpan _ _)).trans (awaitAck _ _)

theorem beginWidening (s : State) : s.KeepsHoistLaws s.beginWidening :=
  (((setHandover_idle s (hv := { s.span.handover with stage := .widening, awaited := none, timer := none }) rfl).trans
    (setSpan _ _ _)).trans (sendSpan _ _)).trans (awaitAck _ _)

theorem startHandover (s : State) (h : Hoist) (k : Nat) : s.KeepsHoistLaws (s.startHandover h k) := by
  unfold State.startHandover
  split
  · next q _ =>
    have bound : s.KeepsHoistLaws (s.setRequest k (some { q with st := .bound h })) := of_same ⟨rfl, rfl, rfl, rfl⟩
    have opened (narrowed old : Span) := bound.trans
      (setHandover_idle _ (hv := startRecord h k (widenedSpan h q.source (q.dest.getD 0)) narrowed old) rfl)
    dsimp only
    split
    · exact (opened _ _).trans (beginWidening _)
    · split
      · exact opened _ _
      · exact (opened _ _).trans (beginShrinking _)
  · exact refl s

theorem endHandover (s : State) : s.KeepsHoistLaws s.endHandover :=
  (setHandover_idle s rfl).trans (triggerPass _)

theorem abandon (s : State) : s.KeepsHoistLaws s.abandon :=
  (of_same (by simp) : s.KeepsHoistLaws s.returnBound).trans (endHandover _)

theorem handoverFault (s : State) (h : Hoist) : s.KeepsHoistLaws (s.handoverFault h) := by
  by_cases stage : s.span.handover.stage = .none
  · rw [State.handoverFault_none stage]; exact refl s
  · by_cases w : s.Withdraws h
    · rw [State.handoverFault_withdraws w]
      exact ((of_same (by simp) : s.KeepsHoistLaws s.returnBound).trans
        (setHandover _ (by rw [State.returnBound_span]; exact id))).trans (triggerPass _)
    · rw [State.handoverFault_abandons stage w]; exact abandon s

/-! ### Orders opened and closed (06 R108, R112, R115, R121 to R124) -/

theorem openOrder (s : State) (h : Hoist) (k : Nat) : s.KeepsHoistLaws (s.openOrder h k) := by
  unfold State.openOrder
  split
  · next q r _ _ =>
    dsimp only
    refine ((of_same ⟨rfl, rfl, rfl, rfl⟩ : s.KeepsHoistLaws (s.setRequest k _)).trans
      (setHoist _ h ?_)).trans ((sendHoist _ h _).trans (setTimer _ h _))
    exact ⟨by cases h <;> exact id, fun _ => rfl, by cases h <;> exact id⟩
  · exact refl s

theorem becomeIdle (s : State) (h : Hoist) : s.KeepsHoistLaws (s.becomeIdle h) := by
  have idle :
      s.KeepsHoistLaws (s.setHoist h { s.hoist h with st := .idle, order := none, timer := none }).triggerPass :=
    (setHoist s h (x := (s.hoist h).idled) (.closed rfl nofun rfl rfl)).trans (triggerPass _)
  obtain ⟨-, e⟩ | ⟨-, e⟩ := s.becomeIdle_cases h <;> rw [e]
  · exact idle
  · exact idle.trans (beginShrinking _)

theorem releaseLift (s : State) (h : Hoist) : s.KeepsHoistLaws (s.releaseLift h) := by
  cases ho : (s.hoist h).order with
  | none => simp only [State.releaseLift, ho]; exact refl s
  | some o =>
    rw [State.releaseLift_eq ho]
    have lifting : s.KeepsHoistLaws (s.setHoist h { s.hoist h with
        order := some { o with phase := .released }, timer := some (s.hoist h).timing.lift
        suspended := decide (s.line.st = .halt) }) :=
      setHoist s h (.timed rfl (by simp [HoistRec.OrderFits, ho]) rfl)
    exact lifting.trans (of_same ⟨rfl, rfl, rfl, rfl⟩)

theorem removeRequest (s : State) (k : Nat) : s.KeepsHoistLaws (s.removeRequest k) :=
  of_timer (by simp) (by rw [State.removeRequest_span_eq]) (by rw [State.removeRequest_span_eq])

theorem cancelOnFreeing (s : State) (k : Nat) : s.KeepsHoistLaws (s.cancelOnFreeing k) := by
  unfold State.cancelOnFreeing
  split
  · exact (sendHoist s _ _).trans (becomeIdle _ _)
  · exact refl s

theorem dropRack (s : State) (k : Nat) (r : Rack) (ev : Option RackEvent) : s.KeepsHoistLaws (s.dropRack k r ev) :=
  ((cancelOnFreeing s k).trans (removeRequest _ k)).trans
    (of_same ⟨by simp, s.dropRack_hoist k r ev .a, s.dropRack_hoist k r ev .b, s.dropRack_span k r ev⟩)

theorem freeRack (s : State) (k : Nat) (ev : Option RackEvent) : s.KeepsHoistLaws (s.freeRack k ev) := by
  unfold State.freeRack
  split
  · next r _ => exact (dropRack s k r ev).trans (of_same (by simp))
  · exact refl s

theorem faultClose (s : State) (o : Order) : s.KeepsHoistLaws (s.faultClose o) := by
  obtain e | e := s.faultClose_span o
  · exact of_same ⟨by simp, by simp, by simp, e⟩
  · exact of_timer (by simp) (by rw [e]) (by rw [e])

/-- A hoist put in FAULT with its order closed (06 R123, R124). -/
theorem faultBegun (s : State) (h : Hoist) (reason : FaultReason) : s.KeepsHoistLaws (s.faultBegun h reason) := by
  cases ho : (s.hoist h).order with
  | none =>
    rw [State.faultBegun_none ho]
    exact setHoist s h (.closed rfl nofun ho rfl)
  | some o =>
    rw [State.faultBegun_some ho]
    exact (setHoist s h (x := { s.hoist h with st := .fault, reason := reason, order := none, timer := none })
      (.closed rfl nofun rfl rfl)).trans (faultClose _ o)

theorem enterFault (s : State) (h : Hoist) (reason : FaultReason) : s.KeepsHoistLaws (s.enterFault h reason) :=
  ((faultBegun s h reason).trans (addCause _ _)).trans (handoverFault _ h)

theorem callOff (s : State) (h : Hoist) (o : Order) : s.KeepsHoistLaws (s.callOff h o) :=
  (of_same (by simp) : s.KeepsHoistLaws (s.returnRequest o.slot)).trans (becomeIdle _ h)

theorem markRefused (s : State) (h : Hoist) (k : Nat) : s.KeepsHoistLaws (s.markRefused h k) := of_same (by simp)

/-- The phase of an open order changed, with its timer (06 R113). -/
theorem toPhase (s : State) {h : Hoist} {o : Order} (ho : (s.hoist h).order = some o) (phase : Phase)
    (timer : Option Nat) : s.KeepsHoistLaws (s.toPhase h o phase timer) := by
  have moved : s.KeepsHoistLaws (s.setHoist h { s.hoist h with order := some { o with phase := phase } }) :=
    setHoist s h (.reordered ho _)
  unfold State.toPhase
  cases timer with
  | none => exact moved.trans (setHoist _ h (.of_same rfl rfl rfl rfl))
  | some v => exact moved.trans (setTimer _ h v)

theorem doLift (s : State) (h : Hoist) (early : Bool) : s.KeepsHoistLaws (s.doLift h early) := by
  unfold State.doLift
  split
  · next o ho =>
    dsimp only
    refine ((setHoist s h (.reordered ho o.afterLift)).trans (setTimer _ h ((s.hoist h).liftedTime o))).trans ?_
    split <;> exact of_same (by simp)
  · exact refl s

theorem beginImmersion (s : State) (recipe k n : Nat) : s.KeepsHoistLaws (s.beginImmersion recipe k n) := by
  unfold State.beginImmersion
  split
  · exact (ite (addCause s .tempStale)).trans (ite (of_same (by simp)))
  · exact refl s

theorem arriveUnload (s : State) (k : Nat) (r : Rack) (n : Nat) : s.KeepsHoistLaws (s.arriveUnload k r n) := by
  unfold State.arriveUnload
  split
  · exact of_same (by simp)
  · exact (of_same (by simp) : s.KeepsHoistLaws (s.rackNotice _ k r _)).trans (freeRack _ k _)

theorem doPlace (s : State) (h : Hoist) : s.KeepsHoistLaws (s.doPlace h) := by
  unfold State.doPlace
  split
  · next o _ =>
    have done : s.KeepsHoistLaws ((s.becomeIdle h).removeRequest o.slot) :=
      (becomeIdle s h).trans (removeRequest _ _)
    dsimp only
    split
    · refine done.trans ?_
      generalize (s.becomeIdle h).removeRequest o.slot = v
      have set (r : Rack) : v.KeepsHoistLaws
          ((v.setOcc o.dest (.occupied o.slot)).setRack o.slot (some r)) := of_same (by simp)
      refine trans ?_ (ite (of_same (by simp)))
      split
      · exact (set _).trans (beginImmersion _ _ _ _)
      · exact (set _).trans (arriveUnload _ _ _ _)
    · exact done
  · exact refl s

end State.KeepsHoistLaws

end Sys2Proof.Machine
end

section
/-! PROOFS. LINE RESUME taken: the hoists, the handover's timer and the line it leaves (06 R127, 07 R143, 09 R164). -/

namespace Sys2Proof.Machine

/-- The record of a hoist after LINE RESUME: an open order's timer set afresh, nothing suspended (06 R113, R127). -/
def HoistRec.resumed (x : HoistRec) : HoistRec := { x with timer := x.order.bind x.phaseTime, suspended := false }

/-- The handover's record after LINE RESUME: a running timer set afresh, not suspended (07 R143). -/
def State.resumedHandover (s : State) : Handover :=
  { s.span.handover with
    timer := match s.span.handover.timer, s.span.handover.awaited with
      | some _, some (h, _) => some (s.hoist h).timing.spanAck
      | timer, _ => timer
    suspended := false }

/-- The line in HOLD and both hoists sent RESUME and resumed, hoist A first (06 R127, 09 R164; log 41). -/
def State.hoistsResumed (s : State) : State :=
  { s with
    line := { s.line with st := .hold }
    link := (s.link.send 0 .resume).send 1 .resume
    hoistA := s.hoistA.resumed
    hoistB := s.hoistB.resumed }

/-- What LINE RESUME leaves before the head of the admission queue is tested again (09 R164). -/
def State.resumed (s : State) : State := (s.hoistsResumed.setHandover s.resumedHandover).triggerPass

theorem State.resumeHoist_eq (s : State) (h : Hoist) :
    s.resumeHoist h = (s.sendHoist h .resume).setHoist h (s.hoist h).resumed := by
  unfold State.resumeHoist HoistRec.resumed
  dsimp only
  cases (s.hoist h).order <;> rfl

theorem State.resumeHandover_eq (s : State) : s.resumeHandover = s.setHandover s.resumedHandover := by
  rcases ht : s.span.handover.timer with _ | v
  · simp only [State.resumeHandover, State.resumedHandover, ht]
  · rcases ha : s.span.handover.awaited with _ | ⟨h, q⟩ <;>
      simp only [State.resumeHandover, State.resumedHandover, ht, ha]

/-- LINE RESUME as one state, with the retest that follows it (02 R40, 09 R164). -/
theorem State.resumeLine_eq (s : State) : s.resumeLine = s.resumed.retestHead := by
  have hoists : (State.resumeHoist { s with line := { s.line with st := .hold } } .a).resumeHoist .b =
      s.hoistsResumed := by
    rw [State.resumeHoist_eq, State.resumeHoist_eq]; rfl
  have timing (g : Hoist) : (s.hoistsResumed.hoist g).timing = (s.hoist g).timing := by cases g <;> rfl
  have handover : s.hoistsResumed.resumedHandover = s.resumedHandover := by
    unfold State.resumedHandover
    simp only [timing]
    rfl
  unfold State.resumeLine
  dsimp only
  rw [hoists, State.resumeHandover_eq, handover]
  rfl

/-- A handover's timer runs after LINE RESUME exactly where it ran before. -/
theorem State.resumedHandover_timer (s : State) (h : Hoist) (q : Nat) (awaited : s.span.handover.awaited = some (h, q))
    (runs : s.span.handover.timer ≠ none) : s.resumedHandover.timer = some (s.hoist h).timing.spanAck := by
  obtain ⟨v, timer⟩ := Option.ne_none_iff_exists'.mp runs
  simp only [State.resumedHandover, awaited, timer]

end Sys2Proof.Machine
end

section
/-! PROOFS. The laws of the hoists, kept by every command and so by every step (06 R107, R108, R109, R127, 07 R143). -/

namespace Sys2Proof

/-- The requests that can write the line, a hoist or the handover. -/
def Instr.writesHoists : Instr → Bool
  | .withdraw .. | .rackRemove .. | .rackPlace .. | .hoistTiming .. | .hoistCancel .. | .hoistRelease .. | .lineRun
  | .lineHold | .lineHalt | .lineResume | .lineClear | .causeClear .. | .spanConfig .. => true
  | _ => false

end Sys2Proof

namespace Sys2Proof.Machine

/-- LINE RUN is taken in STANDBY or HOLD alone (09 R162). -/
theorem State.runRefusal_none {s : State} (h : s.runRefusal = none) : s.line.st ≠ .halt := by
  intro halt
  simp [State.runRefusal, halt] at h

/-- A hoist record cleared has no order, and is not BUSY (06 R128). -/
theorem HoistRec.clear_orderFits (x : HoistRec) : x.clear.OrderFits := by
  cases h : x.st <;> simp [HoistRec.clear, HoistRec.OrderFits, h]

namespace State.KeepsHoistLaws

variable {s : State}

/-! ### LINE RUN, LINE RESUME and LINE CLEAR (09 R162, R164, R171) -/

theorem retestHead (s : State) : s.KeepsHoistLaws s.retestHead := of_same (by simp)

theorem initialGrant (s : State) : s.KeepsHoistLaws s.initialGrant := by
  unfold State.initialGrant
  exact ((setSpan s .a _).trans (setSpan _ .b _)).trans ((ite (sendSpan _ .a)).trans (ite (sendSpan _ .b)))

theorem startRun (h : s.line.st ≠ .halt) : s.KeepsHoistLaws s.startRun := by
  have running : s.KeepsHoistLaws { s with
      line := { st := .run, causes := Cause.operatorHold.removeFrom s.line.causes } } :=
    of_records ⟨fun c => LineState.noConfusion c, fun c => absurd c h⟩ (.refl _) (.refl _) id
  unfold State.startRun
  exact ((running.trans (ite (initialGrant _))).trans (triggerPass _)).trans (retestHead _)

/-- After LINE RESUME nothing is suspended and the line is in HOLD. -/
theorem resumeLine (s : State) : s.KeepsHoistLaws s.resumeLine := by
  rw [State.resumeLine_eq]
  refine trans (t := s.resumed) ?_ (retestHead _)
  exact ⟨fun _ => ⟨⟨nofun, nofun⟩, ⟨nofun, nofun⟩, fun _ => ⟨nofun, nofun⟩⟩, id, id⟩

theorem discardQueue (s : State) : s.KeepsHoistLaws s.discardQueue := by
  rw [State.discardQueue_eq]; exact of_same ⟨rfl, rfl, rfl, rfl⟩

/-- LINE CLEAR leaves no order and nothing suspended; the timing tables are those of the hoists before it. -/
theorem clearLine (s : State) : s.KeepsHoistLaws s.clearLine := by
  have freed := (setHandover_idle s (hv := Handover.blank) rfl).trans
    (foldl (f := State.clearSlot) (fun u k => by
      unfold State.clearSlot
      split
      · exact dropRack u k _ _
      · exact refl u) (List.range Config.slots) _)
  have emptied := freed.trans (discardQueue _)
  have cleared : s.clearLine = State.settled (State.discardQueue _) := State.clearBlocks_settled _
  rw [cleared]
  generalize State.discardQueue _ = v at emptied
  refine ⟨fun _ => ⟨⟨nofun, nofun⟩, ⟨nofun, nofun⟩, fun runs => absurd rfl runs⟩,
    fun _ => ⟨HoistRec.clear_orderFits _, HoistRec.clear_orderFits _⟩, fun h => ?_⟩
  exact emptied.timings h

/-! ### Requests -/

theorem reply (s : State) (kind : Nat) (code : ReplyCode) (contents : List Byte) :
    s.KeepsHoistLaws (s.reply kind code contents) := of_same ⟨rfl, rfl, rfl, rfl⟩

theorem placeByHand (s : State) (k : Nat) (r : Rack) (j n : Nat) : s.KeepsHoistLaws (s.placeByHand k r j n) := by
  have down : s.KeepsHoistLaws (s.setDown k r j n) := of_same ⟨rfl, rfl, rfl, rfl⟩
  by_cases unload : j = s.stepCount r + 1
  · rw [State.placeByHand_unload unload]
    exact down.trans (arriveUnload _ _ _ _)
  · rw [State.placeByHand_bath unload]
    refine trans (t := s.stepBegun k r j n) ?_ (of_same (by simp [State.stepBegun]))
    unfold State.stepBegun
    split
    · exact down
    · exact down.trans (beginImmersion _ _ _ _)

theorem withdrawEntry (s : State) (e : QueueEntry) : s.KeepsHoistLaws (s.withdrawEntry e) := by
  unfold State.withdrawEntry
  refine of_same ?_
  dsimp only
  split <;> simp

theorem handleWithdraw (s : State) (id : Nat) : s.KeepsHoistLaws (handleWithdraw id s) := by
  unfold Machine.handleWithdraw
  split
  · exact reply s _ _ _
  · split
    · exact (withdrawEntry s _).trans (reply _ _ _ _)
    · split
      · split
        · split
          · exact (freeRack s _ _).trans (reply _ _ _ _)
          · exact reply s _ _ _
        · exact reply s _ _ _
      · exact reply s _ _ _

theorem handleRackRemove (s : State) (id : Nat) : s.KeepsHoistLaws (handleRackRemove id s) := by
  unfold Machine.handleRackRemove
  split
  · exact reply s _ _ _
  · split
    · split
      · split
        · exact reply s _ _ _
        · exact (freeRack s _ _).trans (reply _ _ _ _)
      · exact reply s _ _ _
    · exact reply s _ _ _

theorem handleRackPlace (s : State) (id j n : Nat) : s.KeepsHoistLaws (handleRackPlace id j n s) := by
  unfold Machine.handleRackPlace
  split
  · exact reply s _ _ _
  · split
    · split
      · split
        · exact reply s _ _ _
        · exact (placeByHand s _ _ _ _).trans (reply _ _ _ _)
      · exact reply s _ _ _
    · exact reply s _ _ _

/-- A timing table written is in the ranges of R109 (06 R109). -/
theorem handleHoistTiming (s : State) (h : Option Hoist) (x : Timing) :
    s.KeepsHoistLaws (handleHoistTiming h x s) := by
  unfold Machine.handleHoistTiming
  split
  · exact reply s _ _ _
  · split
    · split
      · next h ok =>
        exact (setHoist s h (x := { s.hoist h with timing := x }) ⟨id, id, fun _ => (timingOk_iff x).mp ok⟩).trans
          (reply _ _ _ _)
      · exact reply s _ _ _
    · exact reply s _ _ _

theorem cancelSent (s : State) {h : Hoist} {o : Order} (ho : (s.hoist h).order = some o) :
    s.KeepsHoistLaws (s.cancelSent h o) := by
  have outstanding : s.KeepsHoistLaws (s.setHoist h { s.hoist h with
      order := some { o with cancelOut := true }, timer := some (s.hoist h).timing.acceptTime
      suspended := decide (s.line.st = .halt) }) :=
    setHoist s h (.timed rfl (by simp [HoistRec.OrderFits, ho]) rfl)
  exact outstanding.trans (of_same ⟨rfl, rfl, rfl, rfl⟩)

theorem handleHoistCancel (s : State) (h : Option Hoist) : s.KeepsHoistLaws (handleHoistCancel h s) := by
  cases h with
  | none => exact reply s _ _ _
  | some h =>
    by_cases late : ∀ o ∈ (s.hoist h).order, ¬o.cancellable = true
    · rw [handleHoistCancel_refused late]; exact reply s _ _ _
    · push Not at late
      obtain ⟨o, ho, short⟩ := late
      rw [handleHoistCancel_sent ho short]
      exact (cancelSent s ho).trans (reply _ _ _ _)

/-- HOIST RELEASE is taken for a hoist that is not BUSY (06 R126). -/
theorem handleHoistRelease (s : State) (h : Option Hoist) : s.KeepsHoistLaws (handleHoistRelease h s) := by
  unfold Machine.handleHoistRelease
  split
  · exact reply s _ _ _
  · next h =>
    split
    · exact reply s _ _ _
    · next free =>
      split
      · exact reply s _ _ _
      · exact ((setHoist s h (x := { s.hoist h with st := .offline, released := true, position := some h.park })
          (.idling rfl (fun busy => free (.inl busy)) nofun rfl rfl)).trans (setSpan _ h _)).trans (reply _ _ _ _)

theorem handleLineRun (s : State) : s.KeepsHoistLaws (handleLineRun s) := by
  unfold Machine.handleLineRun
  refine (evaluateBound s).trans ?_
  generalize s.evaluateBound = v
  dsimp only
  split
  · exact reply v _ _ _
  · next ok => exact (startRun (State.runRefusal_none ok)).trans (reply _ _ _ _)

theorem handleLineResume (s : State) : s.KeepsHoistLaws (handleLineResume s) := by
  unfold Machine.handleLineResume
  refine (evaluateBound s).trans ?_
  generalize s.evaluateBound = v
  dsimp only
  split
  · exact reply v _ _ _
  · split
    · exact reply v _ _ _
    · exact (resumeLine v).trans (reply _ _ _ _)

theorem handleLineClear (s : State) : s.KeepsHoistLaws (handleLineClear s) := by
  unfold Machine.handleLineClear
  split
  · exact (clearLine s).trans (reply _ _ _ _)
  · exact reply s _ _ _

/-- The causes that leave the set, and the settings of spans, are no part of the laws (07 R131, 09 R165). -/
theorem handleSettings (s : State) (codes : List Nat) (gap split : Nat) :
    s.KeepsHoistLaws (handleCauseClear codes s) ∧ s.KeepsHoistLaws (handleSpanConfig gap split s) := by
  constructor
  · unfold handleCauseClear
    split
    · exact reply s _ _ _
    · exact (of_records Iff.rfl (.refl _) (.refl _) id : s.KeepsHoistLaws (s.clearCauses _)).trans (reply _ _ _ _)
  · unfold handleSpanConfig
    split
    · exact reply s _ _ _
    · split
      · exact of_timer ⟨rfl, rfl, rfl⟩ rfl rfl
      · exact reply s _ _ _

/-- The requests that write no hoist. -/
theorem handleRequest_of {i : Instr} (hi : i.writesHoists = false) (s : State) :
    s.KeepsHoistLaws (handleRequest i s) := by
  cases i <;> simp only [Instr.writesHoists, Bool.true_eq_false] at hi
  all_goals
    refine of_same ?_
    simp only [Machine.handleRequest, handleAdmit, handleRackQuery, handleStationSet, handleStationQuery, handleBathSet,
      handleBathTableSet, handleBathOwedClear, handleBathQuery, handleRecipeOpen, handleStepSet, handleRecipeClose,
      handleRecipeQuery, handleDispatchConfig, handleQueueQuery, handleHoistQuery, handleSpanQuery, handleAgitationSet,
      handleAgitationQuery, handleLineQuery, handleInputSet, handleOutputMode, handleOutputLatch, handleIoQuery,
      handleLinkQuery, State.joinQueue, State.writeStation, State.setProgram, id]
    (repeat' split) <;> simp

/-- Every handler keeps the laws of the hoists. -/
theorem handleRequest (i : Instr) (s : State) : s.KeepsHoistLaws (handleRequest i s) := by
  cases hi : i.writesHoists with
  | false => exact handleRequest_of hi s
  | true =>
    cases i <;> simp only [Instr.writesHoists, Bool.false_eq_true] at hi
    case withdraw => exact handleWithdraw s _
    case rackRemove => exact handleRackRemove s _
    case rackPlace => exact handleRackPlace s _ _ _
    case hoistTiming => exact handleHoistTiming s _ _
    case hoistCancel => exact handleHoistCancel s _
    case hoistRelease => exact handleHoistRelease s _
    case lineRun => exact handleLineRun s
    case lineHold => exact (addCause s .operatorHold).trans (reply _ _ _ _)
    case lineHalt => exact (addCause s .operatorHalt).trans (reply _ _ _ _)
    case lineResume => exact handleLineResume s
    case lineClear => exact handleLineClear s
    case causeClear codes => exact (handleSettings s codes 0 0).1
    case spanConfig gap split => exact (handleSettings s [] gap split).2

end State.KeepsHoistLaws

end Sys2Proof.Machine
end

section
/-! PROOFS. The laws of the hoists, kept by reports, ticks, inputs, passes and frames, and so by every step (06 R107,
R108, R109, R127, 07 R143). -/

namespace Sys2Proof.Machine

/-- The order a report names is the open order with its number (06 R111). -/
theorem State.namedOrder_eq_some {s : State} {h : Hoist} {number : Nat} {o : Order} :
    s.namedOrder h number = some o ↔ (s.hoist h).order = some o ∧ o.number = number := by
  unfold State.namedOrder
  cases (s.hoist h).order with
  | none => simp
  | some y =>
    by_cases e : y.number = number
    · simp only [if_pos e, Option.some.injEq]
      exact ⟨fun same => ⟨same, same ▸ e⟩, And.left⟩
    · simp only [if_neg e, reduceCtorEq, Option.some.injEq, false_iff]
      exact fun same => e (same.1 ▸ same.2)

namespace State.KeepsHoistLaws

variable {s : State}

/-! ### Reports (06 R111, R114 to R125, 07 R132) -/

/-- A report that names an order keeps the laws where what it does with the open order keeps them. -/
theorem orderReport {h : Hoist} {number : Nat} {position : Option Int} {act : Order → Int → State}
    (ha : ∀ o p, (s.hoist h).order = some o → s.KeepsHoistLaws (act o p)) :
    s.KeepsHoistLaws (s.orderReport h number position act) := by
  unfold State.orderReport
  split
  · next named => exact ha _ _ (State.namedOrder_eq_some.mp named).1
  · exact stray s h

theorem poise {h : Hoist} {o : Order} (ho : (s.hoist h).order = some o) : s.KeepsHoistLaws (s.poise h o) := by
  unfold State.poise
  split
  · split
    · exact releaseLift s h
    · exact toPhase s ho _ _
  · exact toPhase s ho _ _

theorem takeAccept (s : State) (h : Hoist) (number : Nat) (p : Option Int) :
    s.KeepsHoistLaws (takeAccept h number p s) :=
  orderReport fun o p ho => by
    split
    · exact (recordPosition s h p).trans (toPhase _ (((s.recordPosition_taken h p).order h).trans ho) _ _)
    · exact stray s h

theorem takePoised (s : State) (h : Hoist) (number : Nat) (p : Option Int) :
    s.KeepsHoistLaws (takePoised h number p s) :=
  orderReport fun o p ho => by
    split
    · exact (recordPosition s h p).trans (poise (((s.recordPosition_taken h p).order h).trans ho))
    · exact stray s h

theorem takeLifted (s : State) (h : Hoist) (number : Nat) (p : Option Int) :
    s.KeepsHoistLaws (takeLifted h number p s) :=
  orderReport fun o p _ => by
    split
    · exact stray s h
    · exact (recordPosition s h p).trans (doLift _ h _)
    · exact (recordPosition s h p).trans (doLift _ h _)

theorem takePlaced (s : State) (h : Hoist) (number : Nat) (p : Option Int) :
    s.KeepsHoistLaws (takePlaced h number p s) :=
  orderReport fun o p _ => by
    split
    · exact (recordPosition s h p).trans (doPlace _ h)
    · exact ((recordPosition s h p).trans (doLift _ h _)).trans (doPlace _ h)
    · exact ((recordPosition s h p).trans (doLift _ h _)).trans (doPlace _ h)

theorem takeRefuse (s : State) (h : Hoist) (number why : Nat) : s.KeepsHoistLaws (takeRefuse h number why s) := by
  have marked (k : Nat) : s.KeepsHoistLaws ((s.keepRefusal h why).markRefused h k) :=
    (keepRefusal s h why).trans (of_same (by simp))
  unfold Machine.takeRefuse
  split
  · exact stray s h
  · split
    · exact (keepRefusal s h why).trans (callOff _ h _)
    · split
      · exact (marked _).trans (callOff _ h _)
      · exact (marked _).trans (callOff _ h _)
      · exact enterFault s h _

theorem takeCancelled (s : State) (h : Hoist) (number : Nat) : s.KeepsHoistLaws (takeCancelled h number s) := by
  unfold Machine.takeCancelled
  split
  · exact stray s h
  · next o named =>
    split
    · exact callOff s h o
    · split
      · exact callOff s h o
      · exact callOff s h o
      · exact callOff s h o
      · exact enterFault s h _
      · split
        · have ho := (State.namedOrder_eq_some.mp named).1
          exact (setHoist s h (.reordered ho { o with cancelCrossed := false })).trans (stray _ h)
        · exact enterFault s h _

theorem takePosition (s : State) (h : Hoist) (p : Option Int) : s.KeepsHoistLaws (takePosition h p s) := by
  unfold Machine.takePosition
  split
  · exact recordPosition s h _
  · exact stray s h

theorem takeFault (s : State) (h : Hoist) (code : Nat) : s.KeepsHoistLaws (takeFault h code s) := by
  unfold Machine.takeFault
  split
  · exact enterFault s h _
  · exact enterFault s h _
  · exact setHoist s h (.of_same rfl rfl rfl rfl)

/-- A hoist that is not BUSY enters IDLE by its HELLO (06 R125). -/
theorem helloIdle (s : State) {h : Hoist} (free : (s.hoist h).st ≠ .busy) : s.KeepsHoistLaws (s.helloIdle h) :=
  ((setHoist s h (x := { s.hoist h with st := .idle }) (.idling rfl free nofun rfl rfl)).trans
    (sendSpan _ h)).trans (triggerPass _)

theorem takeHello (s : State) (h : Hoist) (position : Option Int) : s.KeepsHoistLaws (takeHello h position s) := by
  unfold Machine.takeHello
  generalize readPosition position = p
  have noted := notePosition s h p
  have st : ((s.notePosition h p).hoist h).st = (s.hoist h).st := by cases h <;> rfl
  refine noted.trans ?_
  dsimp only
  generalize s.notePosition h p = v at st
  split
  · next off =>
    split
    · refine (setHoist v h (x := { v.hoist h with released := false }) (.of_same rfl rfl rfl rfl)).trans
        (helloIdle _ ?_)
      rw [State.setHoist_hoist]
      show (v.hoist h).st ≠ .busy
      rw [st, off]
      exact nofun
    · exact sendSpan v h
  · refine trans ?_ (sendSpan _ h)
    unfold State.checkHello
    split
    · exact checkPosition v h _ _
    · exact refl v
  · exact enterFault v h _
  · next fault =>
    split
    · exact helloIdle v (by rw [st, fault]; exact nofun)
    · exact addCause v _

theorem completeBound (s : State) (h : Hoist) (bound : Option Nat) : s.KeepsHoistLaws (s.completeBound h bound) := by
  unfold State.completeBound
  refine trans ?_ (triggerPass _)
  split
  · split
    · split
      · exact openOrder s h _
      · exact of_same (by simp)
    · exact refl s
  · exact refl s

theorem ackShrinking (s : State) (h : Hoist) (p : Int) : s.KeepsHoistLaws (s.ackShrinking h p) := by
  unfold State.ackShrinking
  have noted := (setHandover_idle s (hv := { s.span.handover with awaited := none, timer := none, suspended := false })
    rfl).trans (notePosition _ h (some p))
  refine noted.trans ?_
  dsimp only
  split
  · split
    · exact endHandover _
    · exact beginWidening _
  · refine (checkPosition _ h p s.span.handover.narrowed).trans ?_
    split
    · exact endHandover _
    · exact abandon _

theorem ackWidening (s : State) (p : Int) : s.KeepsHoistLaws (s.ackWidening p) :=
  ((setHandover_idle s rfl).trans (recordPosition _ _ p)).trans (completeBound _ _ _)

theorem takeSpanAck (s : State) (h : Hoist) (q : Nat) (p : Option Int) : s.KeepsHoistLaws (s.takeSpanAck h q p) := by
  unfold State.takeSpanAck
  split
  · exact stray s h
  · split
    · exact stray s h
    · split
      · split
        · exact ackShrinking s h _
        · exact ackWidening s _
        · exact recordPosition s h _
      · exact recordPosition s h _

/-- Every report keeps the laws of the hoists. -/
theorem takeReport (i : Instr) (s : State) : s.KeepsHoistLaws (takeReport i s) := by
  cases i
  case hello => exact takeHello s _ _
  case accept => exact takeAccept s _ _ _
  case refuse => exact takeRefuse s _ _ _
  case poised => exact takePoised s _ _ _
  case lifted => exact takeLifted s _ _ _
  case placed => exact takePlaced s _ _ _
  case cancelled => exact takeCancelled s _ _
  case position => exact takePosition s _ _
  case spanAck => exact takeSpanAck s _ _ _
  case fault => exact takeFault s _ _
  case temp =>
    refine of_same ?_
    simp only [Machine.takeReport, takeTemp]
    (repeat' split) <;> simp
  case pumped =>
    refine of_same ?_
    simp only [Machine.takeReport, takePumped]
    split <;> simp
  all_goals exact refl s

/-! ### The line tick (03 R44, R45, R60, 04 R71 to R73, 06 R113, 07 R141) -/

/-- A suspended timer keeps its mark as it stays, and a running one as it falls. -/
theorem countTick (s : State) : s.KeepsHoistLaws s.countTick :=
  of_records Iff.rfl (.of_same rfl rfl rfl rfl) (.of_same rfl rfl rfl rfl) fun h runs =>
    h (fun none => runs (by show fall s.span.handover.timer _ = Option.none; rw [none]; rfl))

theorem makeDue (s : State) (k : Nat) : s.KeepsHoistLaws (s.makeDue k) := by
  unfold State.makeDue
  split
  · next r _ =>
    split
    · refine trans (t := (s.setRack k (some { r with st := .due, dueTick := some s.tick })).requestIfNone k)
        (of_same (by simp)) ?_
      unfold State.liftIfPoised
      split
      · exact ite (releaseLift _ _)
      · exact refl _
    · exact refl s
  · exact refl s

theorem compensate (s : State) : s.KeepsHoistLaws s.compensate := by
  have loaded : s.KeepsHoistLaws s.loadPending.advanceRacks := of_same (by
    unfold State.advanceRacks State.loadPending
    split <;> simp)
  exact (loaded.trans (foldl makeDue _ _)).trans (foldl (fun u k => of_same (by simp)) _ _)

theorem becomeLapsed (s : State) (b : Nat) : s.KeepsHoistLaws (s.becomeLapsed b) := by
  unfold State.becomeLapsed
  dsimp only
  split
  · have lapsed : s.KeepsHoistLaws ((s.setBath b { s.baths.get b with status := .lapsed }).bathNotice .lapsed b) :=
      of_same (by simp)
    exact lapsed.trans (ite (addCause _ _))
  · exact refl s

theorem expirePhase (s : State) (h : Hoist) : s.KeepsHoistLaws (s.expirePhase h) := by
  unfold State.expirePhase
  dsimp only
  split
  · exact enterFault s h _
  · exact refl s

theorem expireAck (s : State) : s.KeepsHoistLaws s.expireAck := by
  unfold State.expireAck
  dsimp only
  split
  · exact (addCause s _).trans (enterFault _ _ _)
  · exact enterFault s _ _
  · exact refl s

theorem expiries (s : State) : s.KeepsHoistLaws s.expiries :=
  ((foldl (fun u b => (of_same (by simp) : u.KeepsHoistLaws (u.becomeStale b)).trans (becomeLapsed _ b)) _ s).trans
    (((expirePhase _ .a).trans (expirePhase _ .b)).trans (expireAck _))).trans
      (foldl (fun u n => of_same (by simp)) _ _)

/-! ### Inputs and outputs (08 R155, R156, 10 R175, R176, R178, R182) -/

theorem loseAgitation (s : State) (n : Nat) : s.KeepsHoistLaws (s.loseAgitation n) := by
  unfold State.loseAgitation
  split
  · exact refl s
  · split
    · exact of_same (by simp)
    · exact refl s

theorem seatedAt (s : State) (n : Nat) : s.KeepsHoistLaws (s.seatedAt n) := by
  unfold State.seatedAt
  refine of_same ?_
  (repeat' split) <;> simp

theorem loadReleased (s : State) (k : Nat) : s.KeepsHoistLaws (s.loadReleased k) := by
  unfold State.loadReleased
  split
  · exact freeRack s k _
  · exact ite (freeRack s k _)

theorem bathReleased (s : State) (k : Nat) : s.KeepsHoistLaws (s.bathReleased k) := by
  unfold State.bathReleased
  split
  · exact of_same (by simp)
  · exact ite (of_same (by simp))

theorem releasedAt (s : State) (n : Nat) : s.KeepsHoistLaws (s.releasedAt n) := by
  unfold State.releasedAt
  split
  · exact of_same (by simp)
  · split
    · split
      · exact loadReleased s _
      · exact bathReleased s _
      · exact bathReleased s _
      · exact freeRack s _ _
      · exact refl s
    · exact refl s
  · exact refl s

theorem inputEvent (s : State) (n : Nat) (level : Bool) : s.KeepsHoistLaws (s.inputEvent n level) := by
  have raised (c : Cause) : s.KeepsHoistLaws (if level then s.addCause c else s) := ite (addCause s c)
  have lost : s.KeepsHoistLaws s.gasLost := (addCause s .gasLow).trans (foldl loseAgitation _ _)
  unfold State.inputEvent
  split
  · split
    · exact ite (seatedAt s n)
    · exact ite (releasedAt s n)
  · split
    · exact raised _
    · split
      · split
        · exact refl s
        · exact lost
      · exact ite (raised _)

theorem pinEvent (s : State) (n : Nat) (level : Bool) : s.KeepsHoistLaws (s.pinEvent n level) :=
  ite ((of_same (by simp) : s.KeepsHoistLaws (s.setLevel n level)).trans (inputEvent _ n level))

theorem faultMarked (s : State) (n : Nat) : s.KeepsHoistLaws (s.faultMarked n) :=
  (addCause s .outputFault).trans (ite (loseAgitation _ n))

theorem sampleGen (s : State) (b : Nat) : s.KeepsHoistLaws (s.sampleGen b) := of_same (by
  unfold State.sampleGen State.settleGen State.cycleStart
  dsimp only
  (repeat' split) <;> simp)

/-- A sample: the lines read, its events, and the generators (10 R172, R173, 08 R148). -/
theorem sampled (s : State) (pins monitors : BitVec 35) :
    s.KeepsHoistLaws ((List.range Config.baths).foldl State.sampleGen
      (if s.io.seeded then (s.sampleLines pins monitors).sampleEvents s
       else (newlyFaulted s (s.sampleLines pins monitors)).foldl State.faultMarked (s.sampleLines pins monitors))) := by
  refine trans ?_ (foldl sampleGen _ _)
  have lines : s.KeepsHoistLaws (s.sampleLines pins monitors) := of_same ⟨rfl, rfl, rfl, rfl⟩
  split
  · exact lines.trans ((foldl (fun u n => inputEvent u n _) _ _).trans (foldl faultMarked _ _))
  · exact lines.trans (foldl faultMarked _ _)

/-! ### Passes and frames (05 R97, 11 R187, R191, R194) -/

theorem walk (s : State) (used : List Hoist) (l : List Nat) : s.KeepsHoistLaws (s.walk used l) := by
  induction l generalizing s used with
  | nil => exact refl s
  | cons k l ih =>
    rw [State.walk_cons]
    split
    · exact ih s used
    · next g _ =>
      refine trans ?_ (ih _ _)
      unfold State.giveRequest
      split
      · split
        · exact openOrder s g k
        · exact startHandover s g k
      · exact refl s

theorem pass (s : State) : s.KeepsHoistLaws s.pass :=
  (of_same (by simp) : s.KeepsHoistLaws s.crossMargins.clearMarks.lookahead).trans (walk _ _ _)

theorem withLink (s : State) (l : Link) : s.KeepsHoistLaws { s with link := l } := of_same ⟨rfl, rfl, rfl, rfl⟩

theorem serve (s : State) {handler : State → State} (h : s.KeepsHoistLaws (handler s)) :
    s.KeepsHoistLaws (s.serve handler) := h.trans (withLink _ _)

theorem refuseFrame (s : State) (c : Nat) (kind : Byte) : s.KeepsHoistLaws (s.refuseFrame c kind) := by
  unfold State.refuseFrame State.takeRefused State.serve refuseOnThree
  refine of_same ?_
  dsimp only
  (repeat' split) <;> exact ⟨rfl, rfl, rfl, rfl⟩

theorem deliver (s : State) (c : Nat) (i : Instr) : s.KeepsHoistLaws (s.deliver c i) := by
  unfold State.deliver
  split
  · exact State.takeRequest_keeps (P := s.KeepsHoistLaws) i (refl s) (fun u _ hu => hu.trans (withLink u _))
      (fun u hu => hu.trans (handleRequest i u))
  · exact takeReport i s

theorem endFrame (s : State) (c : Nat) (kind : Byte) (payload : List Byte) :
    s.KeepsHoistLaws (s.endFrame c kind payload) := by
  unfold State.endFrame
  split
  · exact withLink s _
  · split
    · exact (withLink s _).trans (deliver _ c _)
    · exact (withLink s _).trans (refuseFrame _ c kind)

theorem serveSlot (s : State) : s.KeepsHoistLaws s.serveSlot := by
  unfold State.serveSlot
  split
  · exact ite (serve s (handleRequest _ s))
  · exact ite (serve s (withLink s _))
  · exact refl s

theorem endSend (s : State) (f : Counts → Counts) : s.KeepsHoistLaws (s.endSend f) := by
  unfold State.endSend
  split
  · next c _ =>
    refine (withLink s (s.link.leave c f)).trans ?_
    unfold State.afterLeave
    split
    · exact of_same (by simp)
    · exact ite (serveSlot _)
  · exact refl s

end State.KeepsHoistLaws

/-! ### Commands and steps -/

/-- What keeps the laws as a meaning keeps them as a command. -/
theorem live_keepsHoistLaws {s t : State} {f : State → State} (h : live s f = .next t)
    (hf : ∀ u : State, u.KeepsHoistLaws (f u)) : s.KeepsHoistLaws t :=
  live_keeps (P := s.KeepsHoistLaws) h (.refl s) (fun u hu => hu.trans (hf u))

/-- The driving of the outputs keeps the laws too. -/
theorem liveDriven_keepsHoistLaws {s t : State} {f : State → State} (h : liveDriven s f = .next t)
    (hf : ∀ u : State, u.KeepsHoistLaws (f u)) : s.KeepsHoistLaws t :=
  live_keepsHoistLaws h (fun u => (hf u).trans (.of_same ⟨rfl, rfl, rfl, rfl⟩))

/-- A reset state has the laws, whatever held before it (06 R107, R109, 07 R135). -/
theorem State.KeepsHoistLaws.reset (s : State) {t : State}
    (same : t.line = State.reset.line ∧ t.hoistA = State.reset.hoistA ∧ t.hoistB = State.reset.hoistB ∧
      t.span = State.reset.span) : s.KeepsHoistLaws t := by
  obtain ⟨suspension, orders, timings⟩ := State.KeepsHoistLaws.of_same (s := State.reset) same
  exact ⟨fun _ => suspension ⟨⟨nofun, nofun⟩, ⟨nofun, nofun⟩, fun h => absurd rfl h⟩,
    fun _ => orders ⟨rfl, rfl⟩,
    fun _ => timings (by unfold State.TimingsInRange Timing.InRange; decide)⟩

/-- Every command keeps the laws of the hoists. -/
theorem exec_keepsHoistLaws {s t : State} {c : Instr} (h : exec c s = .next t) : s.KeepsHoistLaws t := by
  by_cases hq : c.isRequest = true
  · exact exec_request_keeps (P := s.KeepsHoistLaws) hq h (.refl s)
      (fun u hu => hu.trans (.of_same ⟨rfl, rfl, rfl, rfl⟩))
      (fun u _ hu => hu.trans (.withLink u _)) (fun u hu => hu.trans (.handleRequest c u))
  by_cases hr : c.isReport = true
  · exact liveDriven_keepsHoistLaws (exec_report hr s ▸ h) (.takeReport c)
  cases c <;> simp only [Instr.isRequest, Instr.isReport, not_true_eq_false] at hq hr
  all_goals unfold exec at h
  case powerOn => exact .reset s (Host.Outcome.next.inj h ▸ ⟨rfl, rfl, rfl, rfl⟩)
  case resetAsserted => exact .reset s (Host.Outcome.next.inj h ▸ ⟨rfl, rfl, rfl, rfl⟩)
  case lineTick =>
    exact liveDriven_keepsHoistLaws h fun u => (((State.KeepsHoistLaws.countTick u).trans (.compensate _)).trans
      (.expiries _)).trans (.triggerPass _)
  case due => exact liveDriven_keepsHoistLaws h fun u => .makeDue u _
  case overtime => exact liveDriven_keepsHoistLaws h fun u => .of_same (by simp)
  case stale => exact liveDriven_keepsHoistLaws h fun u => .of_same (by simp)
  case lapsed => exact liveDriven_keepsHoistLaws h fun u => .becomeLapsed u _
  case phaseTimerExpiry => exact liveDriven_keepsHoistLaws h fun u => .expirePhase u _
  case acknowledgementTimerExpiry => exact liveDriven_keepsHoistLaws h .expireAck
  case seatWindowExpiry => exact liveDriven_keepsHoistLaws h fun u => .of_same (by simp)
  case sampleEvent => exact liveDriven_keepsHoistLaws h fun u => .sampled u _ _
  case seated => exact liveDriven_keepsHoistLaws h fun u => .ite (.pinEvent u _ _)
  case released => exact liveDriven_keepsHoistLaws h fun u => .ite (.pinEvent u _ _)
  case eStopActive => exact liveDriven_keepsHoistLaws h fun u => .pinEvent u _ _
  case gasOkInactive => exact liveDriven_keepsHoistLaws h fun u => .pinEvent u _ _
  case gasOkActive => exact liveDriven_keepsHoistLaws h fun u => .pinEvent u _ _
  case pauseActive => exact liveDriven_keepsHoistLaws h fun u => .pinEvent u _ _
  case auxiliaryInactive => exact liveDriven_keepsHoistLaws h fun u => .pinEvent u _ _
  case outputFaultMarkSet n =>
    exact liveDriven_keepsHoistLaws h fun u => .ite
      (((.of_same (by simp)) : u.KeepsHoistLaws (u.setOutput n _)).trans (.faultMarked _ n))
  case outputFaultMarkClear => exact liveDriven_keepsHoistLaws h fun u => .ite (.of_same (by simp))
  case cycleStart b =>
    exact liveDriven_keepsHoistLaws h fun u => .ite (.of_same (by unfold State.cycleStart; dsimp only; split <;> simp))
  case burstEnd => exact liveDriven_keepsHoistLaws h fun u => .ite (.of_same (by simp))
  case dispatchPass =>
    exact liveDriven_keepsHoistLaws h fun u =>
      ((.of_same ⟨rfl, rfl, rfl, rfl⟩ : u.KeepsHoistLaws u.served)).trans (.pass _)
  case frameReceived =>
    exact liveDriven_keepsHoistLaws h fun u => by split; exacts [.endFrame u _ _ _, .refl u]
  case refusedFrame =>
    exact liveDriven_keepsHoistLaws h fun u => by
      split
      · exact (State.KeepsHoistLaws.withLink u _).trans (.refuseFrame _ _ _)
      · exact .refl u
  case frameSent => exact liveDriven_keepsHoistLaws h fun u => .endSend u _
  case missingAcknowledge => exact liveDriven_keepsHoistLaws h fun u => .endSend u _
  case noClocking => exact liveDriven_keepsHoistLaws h fun u => .endSend u _
  case startBit | frameTruncated | discardWaitEnd | sendBegin | listenWindowEnd =>
    exact live_keepsHoistLaws h fun u => by split; exacts [.withLink u _, .refl u]
  case lengthError | characterError =>
    exact live_keepsHoistLaws h fun u => by split; exacts [.ite (.withLink u _), .refl u]

/-- Every step keeps the laws of the hoists: it runs the front command on a state with the same line, hoists and
handover. -/
theorem step_keepsHoistLaws {s t : State} (h : step s = .next t) : s.KeepsHoistLaws t := by
  unfold step at h
  split at h
  · next rest _ =>
    have taken : s.KeepsHoistLaws { s with pending := rest } := .of_same ⟨rfl, rfl, rfl, rfl⟩
    exact taken.trans (exec_keepsHoistLaws h)
  · exact Host.Outcome.next.inj h ▸ .refl s

/-- Settles O7: every command keeps what runs suspended exactly while the line is HALT. -/
theorem suspensionKept : Obligations.SuspensionKept := fun _ _ hs h => (step_keepsHoistLaws h).suspension hs

/-- Settles O10: every command keeps orders with BUSY and timing tables in range. -/
theorem ordersFitKept : Obligations.OrdersFitKept :=
  ⟨fun _ _ hs h => (step_keepsHoistLaws h).orders hs, fun _ _ hs h => (step_keepsHoistLaws h).timings hs⟩

end Sys2Proof.Machine
end

section
/-! PROOFS. What hoist reports do to the state: the stray ones (06 R111, R119, R122, log 18), the position recorded and
checked (06 R111, 07 R134), HELLO (06 R125), ACCEPT and POISED (06 R114, R115). -/

namespace Sys2Proof.Machine

variable {s : State} {h : Hoist} {o : Order} {number : Nat}

/-! ### The position a report carries (06 R111) -/

theorem readPosition_rail {p : Int} (hp : -1 ≤ p) (hp' : p ≤ 32) : readPosition (some p) = some p := if_pos ⟨hp, hp'⟩

theorem readPosition_eq_none {p : Option Int} (bad : ∀ v ∈ p, v < -1 ∨ 32 < v) : readPosition p = none := by
  cases p with
  | none => rfl
  | some v =>
    have off := bad v rfl
    exact if_neg (by omega)

/-- The position read is the one given, where one on the rail is given. -/
theorem readPosition_eq (p : Option Int) :
    readPosition p = if p = none ∨ ∃ v ∈ p, v < -1 ∨ 32 < v then none else p := by
  cases p with
  | none => rfl
  | some v =>
    by_cases on : -1 ≤ v ∧ v ≤ 32
    · rw [readPosition_rail on.1 on.2, if_neg]
      simp
      omega
    · rw [readPosition_eq_none (by simp; omega), if_pos]
      simp
      omega

/-! ### Stray reports (06 R111, R119, R122) -/

theorem State.namedOrder_eq_none (other : ∀ y ∈ (s.hoist h).order, y.number ≠ number) : s.namedOrder h number = none :=
  Option.eq_none_iff_forall_ne_some.mpr fun y named =>
    other y (State.namedOrder_eq_some.mp named).1 (State.namedOrder_eq_some.mp named).2

theorem State.orderReport_unnamed (other : ∀ y ∈ (s.hoist h).order, y.number ≠ number) (p : Option Int)
    (act : Order → Int → State) : s.orderReport h number p act = s.stray h := by
  unfold State.orderReport
  rw [State.namedOrder_eq_none other]
  cases readPosition p <;> rfl

theorem State.orderReport_unread {p : Option Int} (bad : ∀ v ∈ p, v < -1 ∨ 32 < v) (act : Order → Int → State) :
    s.orderReport h number p act = s.stray h := by
  unfold State.orderReport
  rw [readPosition_eq_none bad]

/-- A report of the open order is stray where the order takes it at no position (06 R119, R122). -/
theorem State.orderReport_stray {p : Option Int} {act : Order → Int → State} (ho : (s.hoist h).order = some o)
    (strays : ∀ v, act o v = s.stray h) : s.orderReport h o.number p act = s.stray h := by
  unfold State.orderReport
  rw [State.namedOrder_open ho]
  cases readPosition p with
  | none => rfl
  | some v => exact strays v

theorem State.takeSpanAck_other {sequence : Nat} (other : sequence ≠ s.seqOf h) (p : Option Int) :
    s.takeSpanAck h sequence p = s.stray h := by
  unfold State.takeSpanAck
  cases readPosition p with
  | none => rfl
  | some v => exact if_pos (.inl other)

/-- Settles O39: a report that takes nothing is its block's count of a stray one. -/
theorem strayReportsOnlyCounted : Obligations.StrayReportsOnlyCounted := by
  intro s h number reason sequence p o running x stray bad
  have counted {i : Instr} (hi : i.isReport = true) (e : takeReport i s = s.stray h) : exec i s = .next stray := by
    rw [exec_report_next running hi, e]
    rfl
  refine ⟨fun other => ?unnamed, fun unread => ?unread, fun other => counted rfl (State.takeSpanAck_other other p),
    fun ho same => ?repeated⟩
  case unnamed =>
    have none := State.namedOrder_eq_none other
    have strays := State.orderReport_unnamed other p
    refine ⟨counted rfl (strays _), counted rfl ?_, counted rfl (strays _), counted rfl (strays _),
      counted rfl (strays _), counted rfl ?_⟩
    · simp only [takeReport, takeRefuse, none]
    · simp only [takeReport, takeCancelled, none]
  case unread =>
    refine ⟨counted rfl (State.orderReport_unread unread _), counted rfl (State.orderReport_unread unread _),
      counted rfl (State.orderReport_unread unread _), counted rfl (State.orderReport_unread unread _),
      counted rfl ?_, counted rfl ?_⟩
    · simp only [takeReport, takePosition, readPosition_eq_none unread]
    · simp only [takeReport, takeSpanAckReport, State.takeSpanAck, readPosition_eq_none unread]
  case repeated =>
    subst same
    refine ⟨fun spent => counted rfl (State.orderReport_stray ho fun v => if_neg ?_),
      fun spent => counted rfl (State.orderReport_stray ho fun v => if_neg ?_),
      fun lifted => counted rfl (State.orderReport_stray ho fun v => ?_)⟩
    · rintro ⟨sent, kept⟩
      simp [sent, kept] at spent
    · rintro ⟨sent | accepted, kept⟩ <;> simp_all
    · rw [lifted]

/-! ### The position recorded (06 R111, 07 R134) -/

theorem State.notePosition_st (s : State) (h : Hoist) (p : Option Int) :
    ((s.notePosition h p).hoist h).st = (s.hoist h).st := by cases h <;> rfl

/-- The span checked against is the old one for the hoist that is not the taker of a SHRINKING handover (07 R134). -/
theorem State.checkedSpan_eq (s : State) (h : Hoist) : s.checkedSpan h =
    if s.span.handover.stage = .shrinking ∧ h ≠ s.span.handover.taker then s.span.handover.old else s.spanOf h := by
  unfold State.checkedSpan
  simp only [Hoist.eq_other_iff]

theorem State.notePosition_checkedSpan (s : State) (h : Hoist) (p : Option Int) :
    (s.notePosition h p).checkedSpan h = s.checkedSpan h := by
  cases h <;> rfl

theorem Span.holds_eq (sp : Span) (p : Int) : sp.holds p =
    match sp with | .empty => false | .range lo hi => decide ((lo : Int) ≤ p ∧ p ≤ (hi : Int)) := by
  cases sp <;> simp [Span.holds]

/-- A position recorded, by the state before it (06 R111, 07 R134). -/
theorem State.recordPosition_checked (s : State) (h : Hoist) (p : Int) : s.recordPosition h p =
    if (s.hoist h).st = .offline ∨ s.line.st = .standby ∨ p = h.park ∨ (s.checkedSpan h).holds p = true
    then s.notePosition h (some p) else (s.notePosition h (some p)).addCause .spanViolation := by
  unfold State.recordPosition State.checkPosition
  simp only [State.notePosition_checkedSpan, State.notePosition_st, State.notePosition_line]

theorem Hoist.park_eq (h : Hoist) : h.park = match h with | .a => -1 | .b => 32 := by cases h <;> rfl

/-- Settles O40: the check reads what the recording leaves alone. -/
theorem positionRecordedAndChecked : Obligations.PositionRecordedAndChecked := by
  intro s h p running hp hp' u hv sp park inside
  have held : (s.checkedSpan h).holds p = inside :=
    (congrArg (Span.holds · p) (State.checkedSpan_eq s h)).trans (Span.holds_eq _ p)
  refine ⟨?_, ?_⟩
  · rw [State.recordPosition_checked, held, Hoist.park_eq]
    rfl
  · rw [exec_report_next running rfl]
    simp only [takeReport, takePosition, readPosition_rail hp hp']

/-! ### HELLO (06 R125) -/

/-- The position lies in the span, where the report carries one. -/
theorem Span.holdsReported_eq (sp : Span) (q : Option Int) : sp.holdsReported q =
    match sp, q with
    | .range lo hi, some v => decide ((lo : Int) ≤ v ∧ v ≤ (hi : Int))
    | _, _ => false := by
  cases sp <;> cases q <;> simp [Span.holdsReported, Span.holds]

theorem atPark_iff (h : Hoist) (q : Option Int) : atPark h q = true ↔ q = some h.park := decide_eq_true_iff

/-- An IDLE hoist's HELLO records its position as any report that carries one (06 R125, 07 R134). -/
theorem State.checkHello_noted (s : State) (h : Hoist) (q : Option Int) : (s.notePosition h q).checkHello h q =
    match q with | some v => s.recordPosition h v | none => s.notePosition h q := by cases q <;> rfl

/-- Settles O42: HELLO by the hoist's state, on the position read. -/
theorem helloByState : Obligations.HelloByState := by
  intro s h p running x q park u inSpan idle
  have read : readPosition p = q := readPosition_eq p
  rw [exec_report_next running rfl]
  refine congrArg (fun t => Host.Outcome.next (State.driveOutputs t)) ?_
  simp only [takeReport, takeHello, read, atPark_iff, Bool.or_eq_true, Span.holdsReported_eq, Hoist.park_eq]
  cases st : x.st with
  | offline =>
    refine if_congr Iff.rfl ?_ rfl
    simp only [idle, st, if_true]
    cases h <;> rfl
  | idle => exact congrArg (State.sendSpan · h) (State.checkHello_noted s h q)
  | busy => rfl
  | fault =>
    refine if_congr Iff.rfl ?_ rfl
    simp only [idle, st, reduceCtorEq, if_false]
    cases h <;> rfl

/-! ### ACCEPT and POISED (06 R113, R114, R115) -/

theorem State.toPhase_timed (s : State) (h : Hoist) (o : Order) (phase : Phase) (v : Nat) :
    s.toPhase h o phase (some v) = s.setHoist h { s.hoist h with
      order := some { o with phase := phase }, timer := some v, suspended := decide (s.line.st = .halt) } := by
  cases h <;> rfl

theorem State.toPhase_untimed (s : State) (h : Hoist) (o : Order) (phase : Phase) :
    s.toPhase h o phase none = s.setHoist h { s.hoist h with
      order := some { o with phase := phase }, timer := none } := by cases h <;> rfl

theorem Rack.readyToLift_iff (r : Rack) : r.readyToLift = true ↔ r.st = .due ∨ r.st = .atLoad := by
  simp [Rack.readyToLift]

/-- Settles O43: each report by its own equation at the position recorded. -/
theorem acceptAndPoised : Obligations.AcceptAndPoised := by
  refine ⟨fun s h o p running ho sent kept hp hp' => ?accept,
    fun s h o p r running ho early kept hp hp' hr => ?poised⟩
  case accept =>
    rw [exec_report_next running rfl]
    refine congrArg (fun t => Host.Outcome.next (State.driveOutputs t)) ?_
    exact (State.orderReport_named ho hp hp' _).trans ((if_pos ⟨sent, kept⟩).trans (State.toPhase_timed ..))
  case poised =>
    intro u lifting
    have taken := s.recordPosition_taken h p
    have rack : u.racks.get o.slot = some r := (congrArg (·.get o.slot) (State.recordPosition_racks s h p)).trans hr
    rw [exec_report_next running rfl]
    refine congrArg (fun t => Host.Outcome.next (State.driveOutputs t)) ?_
    refine (State.orderReport_named ho hp hp' _).trans ((if_pos ⟨early, kept⟩).trans ?_)
    show u.poise h o = _
    simp only [State.poise, rack, Rack.readyToLift_iff]
    refine if_congr Iff.rfl ?_ (State.toPhase_untimed ..)
    rw [State.releaseLift_eq ((taken.order h).trans ho), ← taken.timing h]
    rfl

end Sys2Proof.Machine
end

section
/-! PROOFS. Adding a cause (09 R160, R167, R170), and LINE RESUME (06 R113, R127, 09 R164). -/

namespace Sys2Proof.Machine

variable {s : State} {c : Cause}

/-! ### The move a cause makes (09 R160) -/

theorem State.moveFor_halts (halts : c.isHalt = true) (moving : s.line.st = .run ∨ s.line.st = .hold) :
    s.moveFor c = s.enterHalt := by
  obtain e | e := moving <;> simp only [State.moveFor, e, halts]

theorem State.moveFor_holds (holds : c.isHalt = false) (running : s.line.st = .run) :
    s.moveFor c = { s with line := { s.line with st := .hold } } := by
  simp only [State.moveFor, running, holds]

theorem State.moveFor_stays
    (stays : s.line.st = .standby ∨ s.line.st = .halt ∨ c.isHalt = false ∧ s.line.st = .hold) : s.moveFor c = s := by
  obtain e | e | ⟨holds, e⟩ := stays
  · simp only [State.moveFor, e]
  · simp only [State.moveFor, e]
  · simp only [State.moveFor, e, holds]

theorem State.addCause_held (held : c ∈ s.line.causes) : s.addCause c = s := if_pos held

/-- A new cause in the set, which stands in the table's order (09 R160). -/
def State.withCause (s : State) (c : Cause) : State :=
  { s with line := { s.line with causes := Cause.all.filter (fun x => decide (x = c ∨ x ∈ s.line.causes)) } }

/-- A new cause enters the set, the line moves, and the notice tells where it stands (09 R160, R170). -/
theorem State.addCause_new (new : c ∉ s.line.causes) {m : State} (moved : (s.withCause c).moveFor c = m) :
    s.addCause c = m.notify (.line c m.line.st m.line.causes) := by
  have joined : c.addTo s.line.causes = Cause.all.filter (fun x => decide (x = c ∨ x ∈ s.line.causes)) := if_neg new
  subst moved
  unfold State.addCause State.withCause
  rw [if_neg new, joined]

/-- Settles O23: a new cause by the move it makes. -/
theorem causeAddition : Obligations.CauseAddition := by
  intro s c set
  refine ⟨State.addCause_held, fun new => ⟨fun halts moving => ?_, fun holds running => ?_, fun stays => ?_⟩⟩
  · exact State.addCause_new new (State.moveFor_halts halts moving)
  · exact State.addCause_new new (State.moveFor_holds holds running)
  · exact State.addCause_new new (State.moveFor_stays stays)

/-! ### The request in its slot (09 R161, 11 R191) -/

theorem State.moveFor_setRequestSlot (s : State) (f : Option SlotFrame) (c : Cause) :
    (s.setRequestSlot f).moveFor c = (s.moveFor c).setRequestSlot f := by
  have entered : (s.setRequestSlot f).enterHalt = s.enterHalt.setRequestSlot f := by
    unfold State.enterHalt State.setRequestSlot
    simp only [Link.send_setSlot]
  unfold State.moveFor
  rw [State.setRequestSlot_line]
  split
  · rfl
  · exact entered
  · exact entered
  · rfl

theorem State.addCause_setRequestSlot (s : State) (f : Option SlotFrame) (c : Cause) :
    (s.setRequestSlot f).addCause c = (s.addCause c).setRequestSlot f := by
  by_cases held : c ∈ s.line.causes
  · rw [State.addCause_held held]
    exact State.addCause_held held
  · rw [State.addCause_new held rfl, ← State.notify_setRequestSlot]
    exact State.addCause_new (s := s.setRequestSlot f) held (State.moveFor_setRequestSlot (s.withCause c) f c)

theorem State.evaluateBound_setRequestSlot (s : State) (f : Option SlotFrame) :
    (s.setRequestSlot f).evaluateBound = s.evaluateBound.setRequestSlot f := by
  have adds (s : State) (c : Cause) : (s.setRequestSlot f).addIfHolds c = (s.addIfHolds c).setRequestSlot f := by
    unfold State.addIfHolds
    rw [apply_ite (State.setRequestSlot · f), ← State.addCause_setRequestSlot]
    cases c <;> rfl
  exact List.foldl_hom (State.setRequestSlot · f) adds

theorem State.addCause_slot (s : State) (c : Cause) (d : Nat) : (s.addCause c).link.slot d = s.link.slot d := by
  have moved (v : State) : (v.moveFor c).link.slot d = v.link.slot d := by
    unfold State.moveFor
    split
    · rfl
    · exact (Link.slot_send _ 1 d _).trans (Link.slot_send _ 0 d _)
    · exact (Link.slot_send _ 1 d _).trans (Link.slot_send _ 0 d _)
    · rfl
  by_cases held : c ∈ s.line.causes
  · rw [State.addCause_held held]
  · rw [State.addCause_new held rfl]
    exact (Link.slot_notify _ _ d).trans (moved _)

theorem State.addIfHolds_slot (s : State) (c : Cause) (d : Nat) : (s.addIfHolds c).link.slot d = s.link.slot d := by
  unfold State.addIfHolds
  split
  · exact s.addCause_slot c d
  · rfl

theorem State.evaluateBound_slot (s : State) (d : Nat) : s.evaluateBound.link.slot d = s.link.slot d :=
  List.foldlRecOn (motive := fun t : State => t.link.slot d = s.link.slot d) Cause.all State.addIfHolds rfl
    (fun t same c _ => (t.addIfHolds_slot c d).trans same)

/-! ### LINE RESUME (06 R113, R127, 09 R164) -/

/-- A reply of one part (11 R195). -/
theorem replyFrames_single (kind : Nat) (code : ReplyCode) {contents : List Byte} (h : contents.length ≤ 27) :
    replyFrames kind code contents = [.reply kind code 1 1 contents] := by
  have parts : replyParts contents = [contents] := if_pos h
  simp only [replyFrames, parts]
  rfl

theorem u16_single (n : Nat) : (u16 n).length ≤ 27 := by simp [u16]

theorem State.answered_single (s : State) (kind : Nat) (code : ReplyCode) {contents : List Byte}
    (h : contents.length ≤ 27) : (s.answered kind code contents).Answered kind code contents := by
  unfold State.Answered
  rw [State.answered_queue, ← List.getLast?_map, (s.link.reply_appended kind code contents).queue,
    replyFrames_single kind code h]
  exact List.getLast?_concat

/-- A request that is taken, acts and replies with the contents of one part (11 R191, R195). -/
theorem exec_request_answers_single {w : State} (h : s.TakesRequests) {i : Instr} (hi : i.isRequest = true)
    (hq : i.isQuery = false) {kind : Nat} {code : ReplyCode} {contents : List Byte} (single : contents.length ≤ 27)
    (e : handleRequest i (s.setRequestSlot (some (.good i))) = w.reply kind code contents) :
    ∃ t, exec i s = .next t ∧ w.Kept t ∧ t.Answered kind code contents ∧ ∀ c, c ≠ 3 → t.queued c = w.queued c := by
  refine ⟨w.answered kind code contents, ?_, .of_eq rfl, w.answered_single kind code single,
    fun c hc => w.answered_queued kind code contents hc⟩
  rw [exec_request_taken h hi hq, e]
  rfl

/-- RESUME joins the queue of each hoist that has room (09 R164, 11 R192). -/
theorem State.resumed_queued (s : State) (h : Hoist) : s.resumed.queued h.channel =
    s.queued h.channel ++ (if s.link.held h.channel < 4 then [.resume] else []) := by
  have sent : s.resumed.queued h.channel = ((s.sendHoist .a .resume).sendHoist .b .resume).queued h.channel := rfl
  rw [sent, State.sendHoist_queued, State.sendHoist_queued]
  cases h <;> simp [Hoist.channel] <;> rfl

/-- LINE RESUME taken: the bound conditions evaluated with the request in its slot, then by the line and the HALT
causes left (09 R161, R164). -/
theorem handleRequest_lineResume_setRequestSlot (s : State) (f : Option SlotFrame) :
    handleRequest .lineResume (s.setRequestSlot f) =
      if s.evaluateBound.line.st ≠ .halt then (s.evaluateBound.setRequestSlot f).reply 0x5C .wrongState []
      else if s.evaluateBound.haltCauses ≠ [] then
        (s.evaluateBound.setRequestSlot f).reply 0x5C .stillPresent (u16 (Cause.code s.evaluateBound.haltCauses))
      else (s.evaluateBound.setRequestSlot f).resumeLine.reply 0x5C .ok
        (u16 (Cause.code s.evaluateBound.line.causes)) := by
  show handleLineResume (s.setRequestSlot f) = _
  unfold handleLineResume
  rw [State.evaluateBound_setRequestSlot]
  generalize s.evaluateBound = e
  rfl

/-- The hoists, the line, the spans and the messages to the hoists that LINE RESUME taken in e leaves in w (06 R127,
07 R143, 09 R164). -/
structure State.Resumed (e w : State) : Prop where
  line     : w.line = { e.line with st := .hold }
  hoist    : ∀ g, w.hoist g = (e.hoist g).resumed
  queued   : ∀ g : Hoist, w.queued g.channel =
    e.queued g.channel ++ (if e.link.held g.channel < 4 then [.resume] else [])
  spanA    : w.span.spanA = e.span.spanA
  spanB    : w.span.spanB = e.span.spanB
  handover : w.span.handover = e.resumedHandover
  tick     : w.tick = e.tick
  passes   : e.dispatcher.passesOwed < w.dispatcher.passesOwed

theorem State.resumeLine_resumed (e : State) : e.Resumed e.resumeLine := by
  rw [State.resumeLine_eq]
  constructor
  case line => exact e.resumed.retestHead_line
  case hoist => exact fun g => (e.resumed.retestHead_hoist g).trans (by cases g <;> rfl)
  case queued => exact fun g => (e.resumed.retestHead_queued (by cases g <;> decide)).trans (e.resumed_queued g)
  case spanA => exact (congrArg SpanControl.spanA e.resumed.retestHead_span :)
  case spanB => exact (congrArg SpanControl.spanB e.resumed.retestHead_span :)
  case handover => exact congrArg SpanControl.handover e.resumed.retestHead_span
  case tick => exact e.resumed.retestHead_tick
  case passes => exact Nat.lt_of_lt_of_le (Nat.lt_succ_self _) e.resumed.retestHead_passes

/-- The request in its slot does not matter to LINE RESUME. -/
theorem State.Resumed.of_slotted {e w : State} {f : Option SlotFrame} (h : (e.setRequestSlot f).Resumed w) :
    e.Resumed w where
  line := h.line
  hoist g := (h.hoist g).trans (by cases g <;> rfl)
  queued g := by
    rw [h.queued, State.setRequestSlot_queued, State.setRequestSlot_link, Link.held_setSlot]
  spanA := h.spanA
  spanB := h.spanB
  handover := h.handover
  tick := h.tick
  passes := h.passes

/-- Settles O26: the timer by the order's phase, and LINE RESUME by the line and the HALT causes left. -/
theorem lineResumeRestarts : Obligations.LineResumeRestarts := by
  refine ⟨fun x o p => ?time, fun s takes => ?resume⟩
  case time =>
    intro travel
    refine ⟨fun cancelled => if_pos cancelled, fun kept => ?_⟩
    have phase : x.phaseTime o = _ := if_neg (by rw [kept]; decide)
    refine ⟨fun e => ?_, fun e known => ?_, fun e => ?_, fun e => ?_, fun e => ?_⟩ <;> rw [phase, e]
    · simp only [known]; rfl
    · rfl
  case resume =>
    have handled := handleRequest_lineResume_setRequestSlot s (some (.good .lineResume))
    have empty : s.evaluateBound.link.slot 3 = none := (s.evaluateBound_slot 3).trans takes.2.1
    have tick := s.evaluateBound_tick
    have dispatcher := s.evaluateBound_dispatcher
    generalize s.evaluateBound = e at handled empty tick dispatcher ⊢
    refine ⟨fun running => ?_, fun halted left => ?_, fun halted free => ?_⟩
    · exact exec_request_replies takes rfl rfl empty (handled.trans (if_pos running))
    · exact exec_request_replies takes rfl rfl empty
        (handled.trans ((if_neg (not_not_intro halted)).trans (if_pos left)))
    · have taken := handled.trans ((if_neg (not_not_intro halted)).trans (if_neg (not_not_intro free)))
      have resumed := (State.resumeLine_resumed (e.setRequestSlot (some (.good .lineResume)))).of_slotted
      generalize (e.setRequestSlot (some (.good .lineResume))).resumeLine = w at taken resumed
      obtain ⟨t, ends, kept, answered, queued⟩ := exec_request_answers_single takes rfl rfl (u16_single _) taken
      refine ⟨t, ends, kept.line.trans resumed.line, answered, (kept.hoist .a).trans (resumed.hoist .a),
        (kept.hoist .b).trans (resumed.hoist .b), fun h _ => ?queued, ?suspended, fun x awaited runs => ?timer,
        ?spanA, ?spanB, kept.tick.trans (resumed.tick.trans tick), ?passes⟩
      case queued => exact (queued _ (by cases h <;> decide)).trans (resumed.queued h)
      case suspended => rw [kept.span, resumed.handover]; rfl
      case timer => rw [kept.span, resumed.handover]; exact e.resumedHandover_timer x.1 x.2 awaited runs
      case spanA => rw [kept.span, resumed.spanA]
      case spanB => rw [kept.span, resumed.spanB]
      case passes => rw [kept.dispatcher, ← dispatcher]; exact resumed.passes

end Sys2Proof.Machine
end
